-- ==== Sys2Proof/Word.lean ====
section
/-! DEFINITION. The word types of the Kaselt 620: bytes of the two links, and the 32-bit run time. -/

namespace Sys2Proof

/-- One byte of a link frame or of the wear image. -/
abbrev Byte := BitVec 8

/-- A moment of the 1 ms time base: run time, 32 bits, wrapping (00_scope.md section 4.2). -/
abbrev Time := BitVec 32

/-- A countdown in ms, or stopped (`none`). -/
abbrev Timer := Option Nat

end Sys2Proof
end

