-- ==== Sys2Proof/Syntax.lean ====
section
/-! DEFINITION. The commands of the 620: one constructor per row of spec/opcode_table.json, with its operands. -/

namespace Sys2Proof

/-- The seven nodes of the driveline node link, addresses 1 to 7 (R24, R45). -/
inductive NodeAddr where
  | eng | inv | bat | bkf | bkr | aux1 | aux2
deriving DecidableEq, Repr

/-- The classes of a node link frame (R24). -/
inductive FrameClass where
  | report | setpoint | command | tunnel
deriving DecidableEq, Repr

/-- What a save in flight leaves in the wear store when a reset or a power loss cuts it off (R188): the old image, the new
one, or a bad one. It has no effect while no save is in flight. -/
inductive WriteCut where
  | keptOld | wroteNew | leftBad
deriving DecidableEq, Repr

/-- What made the framer discard a frame (R205): a byte received as the length byte, or a byte whose stop bit is low. -/
inductive FramingFault where
  | lengthByte (b : Byte) | badByte
deriving DecidableEq, Repr

/-- A dominant pulse that NRX shows, in ns: its leading edge, counted from the leading edge of the SOF that begins the frame,
and its length (R20, R21). -/
structure Pulse where
  edge : Nat
  width : Nat
deriving DecidableEq, Repr

/-- What NRX shows from the leading edge of an SOF until the bus is idle again: its dominant pulses in order, the 620's own
among them (R20, R21). -/
abbrev Wave := List Pulse

/-- The commands. A host request carries its tag and the payload bytes that follow the byte the row itself fixes (the
sub-operation of ROUTE, ENGINE and TUNNEL, the target of MODE, the page of FAULTS and DESCRIBE, the level of ACCESS), as the HLI
reads them off the bits of HRX (`State.hearHrx`). -/
inductive Instr where
  /-- POWER_ON -/
  | powerOn (cut : WriteCut)
  /-- NRESET -/
  | nreset (cut : WriteCut)
  /-- NRESYNC: a low pulse of the given length in µs. -/
  | nresync (widthUs : Nat)
  /-- SVC_LOW -/
  | svcLow
  /-- SVC_HIGH -/
  | svcHigh
  /-- WAKE_ON_HRX -/
  | wakeOnHrx
  /-- WAKE_ON_NODE -/
  | wakeOnNode
  /-- WAKE_END -/
  | wakeEnd
  /-- HOST_FRAME_BAD_CRC: the tag, kind and payload bytes of a completed frame, and the CRC-16 it carries. -/
  | hostFrameBadCrc (body : List Byte) (crc : BitVec 16)
  /-- HOST_FRAMING_ERROR -/
  | hostFramingError (cause : FramingFault)
  /-- INTER_BYTE_GAP_TIMEOUT: the gap inside a frame, in µs. -/
  | interByteGapTimeout (gapUs : Nat)
  /-- REQUEST_UNKNOWN_KIND: a valid-CRC frame that no other request row names. -/
  | requestUnknownKind (tag kind : Byte) (data : List Byte)
  /-- REPLY_END -/
  | replyEnd
  /-- DEMAND -/
  | demand (tag : Byte) (data : List Byte)
  /-- ROUTE_ZONE_ENTER -/
  | routeZoneEnter (tag : Byte) (data : List Byte)
  /-- ROUTE_ZONE_EXIT -/
  | routeZoneExit (tag : Byte) (data : List Byte)
  /-- ROUTE_SCHEDULE -/
  | routeSchedule (tag : Byte) (data : List Byte)
  /-- ROUTE_CANCEL -/
  | routeCancel (tag : Byte) (data : List Byte)
  /-- ENGINE_START -/
  | engineStart (tag : Byte) (data : List Byte)
  /-- ENGINE_STOP -/
  | engineStop (tag : Byte) (data : List Byte)
  /-- ENGINE_AUTO_ON -/
  | engineAutoOn (tag : Byte) (data : List Byte)
  /-- ENGINE_AUTO_OFF -/
  | engineAutoOff (tag : Byte) (data : List Byte)
  /-- ENGINE_RESET_FAULT -/
  | engineResetFault (tag : Byte) (data : List Byte)
  /-- MODE_READY -/
  | modeReady (tag : Byte) (data : List Byte)
  /-- MODE_STANDBY -/
  | modeStandby (tag : Byte) (data : List Byte)
  /-- MODE_SHUTDOWN -/
  | modeShutdown (tag : Byte) (data : List Byte)
  /-- MODE_PARK -/
  | modePark (tag : Byte) (data : List Byte)
  /-- MODE_HALT -/
  | modeHalt (tag : Byte) (data : List Byte)
  /-- STATUS -/
  | status (tag : Byte) (data : List Byte)
  /-- NOTICES -/
  | notices (tag : Byte) (data : List Byte)
  /-- EVENTS -/
  | events (tag : Byte) (data : List Byte)
  /-- WEAR_READ -/
  | wearRead (tag : Byte) (data : List Byte)
  /-- WEAR_RESET -/
  | wearReset (tag : Byte) (data : List Byte)
  /-- CONFIG_SET -/
  | configSet (tag : Byte) (data : List Byte)
  /-- CONFIG_GET -/
  | configGet (tag : Byte) (data : List Byte)
  /-- FAULTS_LIST -/
  | faultsList (tag : Byte) (data : List Byte)
  /-- FAULTS_TABLE -/
  | faultsTable (tag : Byte) (data : List Byte)
  /-- FAULT_CLEAR -/
  | faultClear (tag : Byte) (data : List Byte)
  /-- RESPONSE_SET -/
  | responseSet (tag : Byte) (data : List Byte)
  /-- ACCESS_DRIVE -/
  | accessDrive (tag : Byte) (data : List Byte)
  /-- ACCESS_SERVICE -/
  | accessService (tag : Byte) (data : List Byte)
  /-- TUNNEL_SEND -/
  | tunnelSend (tag : Byte) (data : List Byte)
  /-- TUNNEL_FETCH -/
  | tunnelFetch (tag : Byte) (data : List Byte)
  /-- DESCRIBE_IDENTITY -/
  | describeIdentity (tag : Byte) (data : List Byte)
  /-- DESCRIBE_CAPACITIES -/
  | describeCapacities (tag : Byte) (data : List Byte)
  /-- DESCRIBE_STORE -/
  | describeStore (tag : Byte) (data : List Byte)
  /-- FRESHNESS_TIMER_EXPIRY -/
  | freshnessTimerExpiry
  /-- LOW_SPEED_TIMER_EXPIRY -/
  | lowSpeedTimerExpiry
  /-- SLIP_HOLD_TIMER_EXPIRY -/
  | slipHoldTimerExpiry
  /-- STALE_TIMER_EXPIRY -/
  | staleTimerExpiry (node : NodeAddr)
  /-- LOST_TIMER_EXPIRY -/
  | lostTimerExpiry (node : NodeAddr)
  /-- CRANK_TIMER_EXPIRY -/
  | crankTimerExpiry
  /-- REST_TIMER_EXPIRY -/
  | restTimerExpiry
  /-- COOLDOWN_TIMER_EXPIRY -/
  | cooldownTimerExpiry
  /-- STOP_TIMER_EXPIRY -/
  | stopTimerExpiry
  /-- QUIET_TIMER_EXPIRY -/
  | quietTimerExpiry
  /-- PERIODIC_SAVE_TRIGGER -/
  | periodicSaveTrigger
  /-- STORE_LOAD_COMPLETE -/
  | storeLoadComplete
  /-- SAVE_COMPLETE: `none` when the store reads back the image written, else the bytes it reads back. -/
  | saveComplete (readBack : Option (List Byte))
  /-- REPORT_RECEIVED: the wave of a good-CRC frame of class REPORT to the 620. The other operands name what the wave carries; the
  part reads the wave alone (log 32). -/
  | reportReceived (source : NodeAddr) (retry : Bool) (payload : List Byte) (wave : Wave)
  /-- TUNNEL_FRAME_RECEIVED: the wave of a good-CRC frame of class TUNNEL to the 620, and what it carries. -/
  | tunnelFrameReceived (source : NodeAddr) (retry : Bool) (payload : List Byte) (wave : Wave)
  /-- NODE_FRAME_REFUSED: the wave of a good-CRC frame to the 620 that it acknowledges INVALID, and what it carries; source `none`
  is address 0. -/
  | nodeFrameRefused (source : Option NodeAddr) (cls : FrameClass) (retry : Bool) (payload : List Byte) (wave : Wave)
  /-- DNL_FRAME_CRC_ERROR: the wave of a frame that is discarded; also that of a good frame between two nodes, which no row
  names (log 26). -/
  | dnlFrameCrcError (wave : Wave)
  /-- NOISE_PULSE: a dominant pulse outside a symbol, in ns; also the SOF of a node's frame on the idle bus, which no row names
  (log 26). -/
  | noisePulse (lengthNs : Nat)
  /-- BUS_IDLE: `taken` when another node has already made the bus dominant (R23). -/
  | busIdle (taken : Bool)
  /-- BUS_RESET: the bus has been dominant without a break for this long, in ns. -/
  | busReset (dominantNs : Nat)
  /-- FRAME_COMPLETION: the wave read back from the start of the 620's own frame. -/
  | frameCompletion (wave : Wave)
  /-- POWER_LOSS -/
  | powerLoss (cut : WriteCut)
deriving DecidableEq, Repr

end Sys2Proof
end

