-- ==== Sys2Proof/Decode.lean ====
section
/-! DEFINITION. The decoder over opcode_table.json. Its 68 rows give no bits ("fields": [] in each), so no word spells a
command (log 4). -/

namespace Sys2Proof

/-- The command a word spells by the table's bits: none, as no row of the table has bits (log 4). -/
def decodeTableWord (_nbits _w : Nat) : Option Instr := none

end Sys2Proof
end

