-- ==== Sys2Proof/Machine/Bytes.lean ====
section
/-! DEFINITION. Byte order, two's complement and the three CRCs (00_scope.md section 4.3; R26, R180, R206). -/

namespace Sys2Proof.Machine

/-- The low byte of a number. -/
def byte (n : Nat) : Byte := BitVec.ofNat 8 n

/-- Two bytes, most significant first. -/
def be16 (n : Nat) : List Byte := [byte (n / 256), byte n]

/-- Four bytes, most significant first. -/
def be32 (n : Nat) : List Byte := [byte (n / 16777216), byte (n / 65536), byte (n / 256), byte n]

/-- A signed value as the 16-bit two's complement number that carries it (R212). -/
def twos16 (x : Int) : Nat := (x % 65536).toNat

/-- An unsigned number read most significant byte first. -/
def unsigned (bs : List Byte) : Nat := bs.foldl (fun n b => n * 256 + b.toNat) 0

/-- A 16-bit two's complement number read most significant byte first. -/
def signed16 (bs : List Byte) : Int :=
  if unsigned bs < 32768 then (unsigned bs : Int) else (unsigned bs : Int) - 65536

/-- The `n` bytes of a payload from offset `at`. -/
def field (bs : List Byte) (start n : Nat) : List Byte := (bs.drop start).take n

/-- The byte of a payload at an offset, 0 past its end. -/
def byteAt (bs : List Byte) (i : Nat) : Byte := bs.getD i 0

/-- 1 for true, 0 for false. -/
def bit (b : Bool) : Nat := if b then 1 else 0

/-- One bit step of the CRC-8 of the node link: polynomial x⁸+x⁵+x³+x²+x+1 (R26). -/
def crc8Bit (c : Byte) : Byte := if c.msb then (c <<< 1) ^^^ 0x2F#8 else c <<< 1

/-- The CRC-8 of the node link: initial value 0xFF, no reflection, final XOR 0xFF (R26). -/
def crc8 (bs : List Byte) : Byte :=
  bs.foldl (fun c b => (List.range 8).foldl (fun c _ => crc8Bit c) (c ^^^ b)) 0xFF#8 ^^^ 0xFF#8

/-- One bit step of the CRC-16 of the host link: polynomial 0x1021 (R206). -/
def crc16Bit (c : BitVec 16) : BitVec 16 := if c.msb then (c <<< 1) ^^^ 0x1021#16 else c <<< 1

/-- The CRC-16 of the host link: initial value 0xFFFF, no reflection, no final XOR (R206). -/
def crc16 (bs : List Byte) : BitVec 16 :=
  bs.foldl (fun c b =>
    let high : BitVec 16 := BitVec.ofNat 16 (b.toNat * 256)
    (List.range 8).foldl (fun c _ => crc16Bit c) (c ^^^ high)) 0xFFFF#16

/-- One bit step of the reflected CRC-32 of the wear image: polynomial 0x04C11DB7 (R180). -/
def crc32Bit (c : BitVec 32) : BitVec 32 :=
  if c.getLsbD 0 then (c >>> 1) ^^^ 0xEDB88320#32 else c >>> 1

/-- The CRC-32 of the wear image: initial value 0xFFFFFFFF, reflected, final XOR 0xFFFFFFFF (R180). -/
def crc32 (bs : List Byte) : BitVec 32 :=
  bs.foldl (fun c b => (List.range 8).foldl (fun c _ => crc32Bit c) (c ^^^ b.setWidth 32)) 0xFFFFFFFF#32
    ^^^ 0xFFFFFFFF#32

end Sys2Proof.Machine
end

