-- ==== Sys2Proof/Config.lean ====
section
/-! DEFINITION. The names of the configuration parameters (11_host_link.md section 11.6), and the one value the spec leaves
free. The parameters' ids, ranges, defaults and access are in Sys2Proof/Machine/Params.lean. -/

namespace Sys2Proof

/-- The configuration parameters P01a to P42, named by their symbols. -/
inductive Param where
  | mMin | gearG | wheelR | eta | rampUp | vLo | vHi | qReg | qFront | qShift
  | kFront | kRear | pMax | tSlip | tFresh | socStart | socStop | socTarget | socReserve | pCs
  | tCrank | tRest | tCool | tStop | tOffMin | tWarm | warmCap | tElec | fLimp
  | padWarn | padLimit | batteryWarn | batteryLimit | startsWarn | startsLimit
  | tempT1 | tempT2 | tStale | tLost | attention | autoReset | tDem | mMax
deriving DecidableEq, Repr

/-- The free value: what a 48-bit energy sum of an open event holds after an addition whose exact result does not fit in 48
bits. The spec states the width alone (R107). DESIGN CHOICE (log 39). -/
opaque Config.energySumPast48 : Nat → BitVec 48

end Sys2Proof
end

