-- ==== Sys2Proof/Machine/Params.lean ====
section
/-! DEFINITION. The configuration parameters: ids, ranges, defaults, access (11_host_link.md section 11.6), and the fixed
capacities and constants of the part. -/

namespace Sys2Proof.Machine

/-- One row of the parameter table: id, least and largest value, default, access S (`service`) and L (`live`). -/
structure ParamRow where
  id : Nat
  lo : Nat
  hi : Nat
  dflt : Nat
  service : Bool
  live : Bool
deriving DecidableEq, Repr

/-- The largest 32-bit value; the saturation limit of 32-bit counts. -/
def max32 : Nat := 4294967295

/-- The largest 16-bit value; the saturation limit of 16-bit counts (R40). -/
def max16 : Nat := 65535

/-- F_CAP, N (00_scope.md section 4.2). -/
def fCap : Nat := 200000

/-- The 60 min of the READY-time counter, ms (R183). -/
def periodicMs : Nat := 3600000

/-- The quiet timer's length, ms (R35). -/
def quietMs : Nat := 10000

/-- The low-speed timer's length, ms (R16). -/
def lowSpeedMs : Nat := 500

/-- The parameter table of 11_host_link.md section 11.6. -/
def paramRow : Param → ParamRow
  | .mMin         => ⟨1, 8000, 30000, 10000, true, false⟩
  | .mMax         => ⟨43, 8000, 30000, 30000, true, false⟩
  | .gearG        => ⟨2, 300, 1500, 650, true, false⟩
  | .wheelR       => ⟨3, 350, 600, 480, true, false⟩
  | .eta          => ⟨4, 128, 255, 230, true, false⟩
  | .rampUp       => ⟨5, 500, 20000, 3000, false, true⟩
  | .vLo          => ⟨6, 100, 300, 100, true, false⟩
  | .vHi          => ⟨7, 200, 800, 400, true, false⟩
  | .qReg         => ⟨8, 64, 230, 166, true, false⟩
  | .qFront       => ⟨9, 90, 140, 115, true, false⟩
  | .qShift       => ⟨10, 0, 26, 13, true, false⟩
  | .kFront       => ⟨11, 20, 200, 75, true, false⟩
  | .kRear        => ⟨12, 20, 200, 90, true, false⟩
  | .pMax         => ⟨13, 300, 1000, 1000, true, false⟩
  | .tSlip        => ⟨14, 100, 2000, 300, false, true⟩
  | .tFresh       => ⟨15, 20, 100, 50, false, false⟩
  | .socStart     => ⟨16, 100, 900, 350, false, true⟩
  | .socStop      => ⟨17, 100, 900, 650, false, true⟩
  | .socTarget    => ⟨18, 100, 900, 550, false, true⟩
  | .socReserve   => ⟨19, 100, 900, 200, false, true⟩
  | .pCs          => ⟨20, 0, 60000, 30000, false, true⟩
  | .tCrank       => ⟨21, 1000, 6000, 3000, false, false⟩
  | .tRest        => ⟨22, 2000, 20000, 5000, false, false⟩
  | .tCool        => ⟨23, 0, 120, 30, false, true⟩
  | .tStop        => ⟨24, 1000, 6000, 3000, false, false⟩
  | .tOffMin      => ⟨25, 5, 120, 20, false, true⟩
  | .tWarm        => ⟨26, 30, 80, 60, false, false⟩
  | .warmCap      => ⟨27, 64, 256, 128, false, false⟩
  | .tElec        => ⟨28, 2, 60, 10, false, true⟩
  | .fLimp        => ⟨29, 0, 40000, 15000, false, true⟩
  | .padWarn      => ⟨30, 1, max32, 500000, true, false⟩
  | .padLimit     => ⟨31, 1, max32, 600000, true, false⟩
  | .batteryWarn  => ⟨32, 1, max32, 100000000, true, false⟩
  | .batteryLimit => ⟨33, 1, max32, 125000000, true, false⟩
  | .startsWarn   => ⟨34, 1, max32, 300000, true, false⟩
  | .startsLimit  => ⟨35, 1, max32, 400000, true, false⟩
  | .tempT1       => ⟨36, 100, 600, 250, true, false⟩
  | .tempT2       => ⟨37, 100, 600, 400, true, false⟩
  | .tStale       => ⟨38, 40, 200, 60, true, false⟩
  | .tLost        => ⟨39, 100, 1000, 240, true, false⟩
  | .attention    => ⟨40, 0, 2047, 1023, false, true⟩
  | .autoReset    => ⟨41, 0, 1, 1, false, false⟩
  | .tDem         => ⟨42, 1, 10, 2, false, true⟩

/-- Every parameter, in the order of the ids. -/
def paramsById : List Param :=
  [.mMin, .gearG, .wheelR, .eta, .rampUp, .vLo, .vHi, .qReg, .qFront, .qShift,
   .kFront, .kRear, .pMax, .tSlip, .tFresh, .socStart, .socStop, .socTarget, .socReserve, .pCs,
   .tCrank, .tRest, .tCool, .tStop, .tOffMin, .tWarm, .warmCap, .tElec, .fLimp,
   .padWarn, .padLimit, .batteryWarn, .batteryLimit, .startsWarn, .startsLimit,
   .tempT1, .tempT2, .tStale, .tLost, .attention, .autoReset, .tDem, .mMax]

/-- The parameter with a given id, if the table has it (R217). -/
def paramOfId (id : Nat) : Option Param := paramsById.find? (fun p => (paramRow p).id == id)

/-- Where a parameter's value stands in the vector of values. -/
def paramIdx (p : Param) : Fin 43 := Fin.ofNat 43 ((paramRow p).id - 1)

/-- The values of the 43 parameters. -/
abbrev Params := Vector Nat 43

/-- The value a parameter holds. -/
def getParam (ps : Params) (p : Param) : Nat := ps[paramIdx p]

/-- The values with one parameter replaced. -/
def setParam (ps : Params) (p : Param) (v : Nat) : Params := ps.set (paramIdx p) v

/-- Every parameter at its default, as after power-on and nRESET (section 11.6). -/
def defaultParams : Params :=
  #v[10000, 650, 480, 230, 3000, 100, 400, 166, 115, 13,
     75, 90, 1000, 300, 50, 350, 650, 550, 200, 30000,
     3000, 5000, 30, 3000, 20, 60, 128, 10, 15000,
     500000, 600000, 100000000, 125000000, 300000, 400000,
     250, 400, 60, 240, 1023, 1, 2, 30000]

end Sys2Proof.Machine
end

