-- ==== Sys2Proof/Machine/State.lean ====
section
/-! DEFINITION. The state of the 620: every piece of state the spec gives its twelve blocks, as plain data, and the state
right after reset. -/

namespace Sys2Proof.Machine

/-! ## Why a step stops -/

/-- No command of this block stops the machine: the spec answers every request, and its fault kinds are entries of the
active fault list (R192). So no meaning raises a fault, and there is no constructor. -/
inductive Fault where
deriving DecidableEq, Repr

/-- Reasons to give a command no meaning. -/
inductive Refusal where
  /-- A command that has no meaning in this model yet; raised by exec's arm of that command alone. Safe: nothing is claimed
  of the command. No arm raises it. -/
  | notModelled (mnemonic : String)
deriving DecidableEq, Repr

/-! ## Mode Controller (01_operating_modes_and_the_demand_stream.md) -/

/-- The supply of the part (R188). -/
inductive Supply where
  | on | off
deriving DecidableEq, Repr

/-- The driveline modes (section 1.1). -/
inductive Mode where
  | parked | standby | ready | shutdown | halted
deriving DecidableEq, Repr

/-- The shutdown progress (section 1.1). -/
inductive Progress where
  | idle | engineWait | saving
deriving DecidableEq, Repr

/-! ## Demand Unit -/

/-- The motion state (R16). -/
inductive Motion where
  | standstill | moving
deriving DecidableEq, Repr

/-- The demand record (R11). -/
structure DemandRecord where
  traction : Nat
  brake : Nat
  speed : Nat
  mass : Nat
  pAux : Nat
  doorsOpen : Bool
  reverse : Bool
deriving DecidableEq, Repr

/-- The Demand Unit (R11). -/
structure DemandUnit where
  record : DemandRecord
  lastDemand : Option Time
  firstInReady : Bool
  freshness : Timer
  stale : Bool
  motion : Motion
  lowSpeed : Timer
  stopEligible : Bool
  stops : BitVec 32
  distance : BitVec 32
  remainder : Nat
  zone : Bool
deriving DecidableEq, Repr

/-! ## Host Link Interface (11_host_link.md) -/

/-- The access level (R215). -/
inductive Access where
  | drive | service
deriving DecidableEq, Repr

/-- The framer with the bytes of the frame being received (R205); `body` and `check` hold the bytes from the length byte on. -/
inductive Framer where
  | hunt
  | length
  | body (len : Nat) (got : List Byte)
  | check (got : List Byte) (crc : List Byte)
deriving DecidableEq, Repr

/-- A request that holds an inbox slot; `deferred` for a CONFIRMED TUNNEL SEND whose reply is still due (R76, R208). -/
structure InboxRequest where
  tag : Byte
  kind : Byte
  deferred : Bool
deriving DecidableEq, Repr

/-- A reply: the request's tag and kind, the payload from the status code on, and the slot it will free, none for a BUSY
reply given without a slot (R208, R209). -/
structure Reply where
  tag : Byte
  kind : Byte
  payload : List Byte
  slot : Option (Fin 4)
deriving DecidableEq, Repr

/-- The Host Link Interface. -/
structure HostLink where
  framer : Framer
  slots : Vector (Option InboxRequest) 4
  sending : Option Reply
  waiting : List Reply
  framingErrors : Nat
  crcErrors : Nat
  access : Access
deriving DecidableEq, Repr

/-! ## Node Link Controller (02_driveline_node_link.md, 04_setpoint_queue_and_tunnel.md) -/

/-- Completion codes (R29). -/
inductive Completion where
  | done | doneLimited | nakNotReady | nakInvalid | noAck | ackCrc | bitErr | lost | aborted
deriving DecidableEq, Repr

/-- The kind of a queue entry; a tunnel entry carries its tunnel slot, 0 for tunnel number 1 (R66, R76). -/
inductive EntryKind where
  | pressure | torque | command | force
  | tunnel (slot : Fin 4)
deriving DecidableEq, Repr

/-- The block that offered an entry (section 4.1). -/
inductive Origin where
  | blend | split | engine | mode | tunnel
deriving DecidableEq, Repr

/-- Whether an entry owes the host a reply, and to which request (R76). -/
inductive ReplyMode where
  | none
  | confirmed (tag : Byte) (slot : Fin 4)
  | posted
deriving DecidableEq, Repr

/-- What becomes of an entry in flight when it settles on a non-terminal code: it returns to its place, or it is removed
because PARKED or HALTED was entered (R30) or because its node entered LOST (R73). -/
inductive Fate where
  | returns | final | nodeLost
deriving DecidableEq, Repr

/-- An entry of the setpoint queue (section 4.1). `last` is the code its last attempt ended on (R73); `inFlight` marks the
entry in flight, which stays in its place (R64). -/
structure Entry where
  target : NodeAddr
  kind : EntryKind
  payload : List Byte
  priority : Nat
  origin : Origin
  attempts : Nat
  held : Bool
  entryTime : Time
  order : Nat
  reply : ReplyMode
  last : Option Completion
  inFlight : Bool
  fate : Fate
deriving DecidableEq, Repr

/-- How far a break of the 620 has got: driven for less than 40 bit times, recognised as a bus reset, or released after 48
(R33, R34). -/
inductive BreakPhase where
  | driving | recognised | released
deriving DecidableEq, Repr

/-- The transmitter: idle; sending one frame (its bytes from H1 to the CRC byte) and reading its acknowledgement; no longer
driving, with a completion that is settled when the bus is idle, the bytes it sent and the moment, in ns from the start of their
SOF, at which it released the bus (R27, R29, R41); or sending a break (R25, R33). -/
inductive Tx where
  | idle
  | frame (bytes : List Byte)
  | ended (code : Completion) (bytes : List Byte) (releasedNs : Nat)
  | brk (phase : BreakPhase)
deriving DecidableEq, Repr

/-- The acknowledgement the 620 last drove: its two bytes, the moment it began in the frame's wave, and for how many ns it drove
it, less than all of it when the echo check stopped it (R37, R38). -/
structure AckSent where
  bytes : List Byte
  startNs : Nat
  drivenNs : Nat
deriving DecidableEq, Repr

/-- The NLC's view of the bus: idle; carrying the 620's own frame or break; carrying a frame of another node that the
receiver follows; past the EOD of a frame; not followed, until 9 recessive bit times (R23). -/
inductive Bus where
  | idle | busy | following | closing | waiting
deriving DecidableEq, Repr

/-- Where the NLC stands on the link: on it; leaving it for PARKED (R42); off it; sending the HALT frames; silent (R43). -/
inductive Link where
  | up | leaving | away | halting | silent
deriving DecidableEq, Repr

/-- A frame of the tunnel inbox (R39). -/
structure TunnelFrame where
  source : NodeAddr
  payload : List Byte
deriving DecidableEq, Repr

/-- The Node Link Controller. -/
structure LinkController where
  queue : List Entry
  tx : Tx
  bus : Bus
  link : Link
  breakDue : Bool
  ack : Option AckSent
  failures : Nat
  crcErrors : Nat
  noise : Nat
  busResets : Nat
  olderReset : Option Time
  newerReset : Option Time
  quiet : Timer
  inbox : List TunnelFrame
deriving DecidableEq, Repr

/-! ## Node Table (03_node_table_and_electric_limits.md) -/

/-- Presence states (section 3.3). -/
inductive Presence where
  | absent | present | stale | lost
deriving DecidableEq, Repr

/-- The fields every node record has (R45), with its two presence timers. -/
structure NodeRecord where
  presence : Presence
  freshTime : Option Time
  staleTime : Option Time
  lastAlive : Option (BitVec 4)
  repeats : Nat
  misses : Nat
  rejects : Nat
  lastCode : Option Completion
  limited : Bool
  held : Bool
  staleTimer : Timer
  lostTimer : Timer
deriving DecidableEq, Repr

/-- The status byte of a report (R46); SLIP is clear for roles other than BKF and BKR (R47). -/
structure ReportFlags where
  alive : BitVec 4
  ready : Bool
  fault : Bool
  slip : Bool
deriving DecidableEq, Repr

/-- The engine state of an ENG report (R46). -/
inductive EngineReported where
  | off | cranking | running | stopping | fault
deriving DecidableEq, Repr

/-- A stored ENG report, converted (R47). -/
structure EngReport where
  flags : ReportFlags
  engine : EngineReported
  force : Nat
  coolant : Int
  rpm : Nat
deriving DecidableEq, Repr

/-- A stored INV report, converted (R47). -/
structure InvReport where
  flags : ReportFlags
  speed : Int
  tMot : Nat
  tGen : Nat
  temp : Int
deriving DecidableEq, Repr

/-- A stored BAT report, converted (R47). -/
structure BatReport where
  flags : ReportFlags
  soc : Nat
  pChg : Nat
  pDis : Nat
  power : Int
  temp : Int
deriving DecidableEq, Repr

/-- A stored BKF or BKR report, converted (R47). -/
structure BrkReport where
  flags : ReportFlags
  pressure : Nat
  padLeft : Int
  padRight : Int
deriving DecidableEq, Repr

/-- The Node Table: seven records, and the last stored report of each reporting node (R45). -/
structure NodeTable where
  eng : NodeRecord
  inv : NodeRecord
  bat : NodeRecord
  bkf : NodeRecord
  bkr : NodeRecord
  aux1 : NodeRecord
  aux2 : NodeRecord
  engReport : Option EngReport
  invReport : Option InvReport
  batReport : Option BatReport
  bkfReport : Option BrkReport
  bkrReport : Option BrkReport
deriving DecidableEq, Repr

/-! ## Brake Blend Unit (05_brake_blending.md) -/

/-- What started a blend (section 5.1). -/
inductive BlendTrigger where
  | none | demand | held | cut
deriving DecidableEq, Repr

/-- The limiting terms (R100). -/
inductive LimitTerm where
  | none | demand | stability | ramp | zero | abs | restriction | fade | battery | motor
deriving DecidableEq, Repr

/-- The blend result (section 5.1). -/
structure BlendResult where
  trigger : BlendTrigger
  fDem : Nat
  fReg : Nat
  tReg : Nat
  fFront : Nat
  fRear : Nat
  pFront : Nat
  pRear : Nat
  shortFront : Nat
  shortRear : Nat
  term : LimitTerm
deriving DecidableEq, Repr

/-- The Brake Blend Unit (section 5.1). -/
structure BrakeUnit where
  prev : Nat
  slipHold : Timer
  lastSlip : Option Time
  remReg : Nat
  remFront : Nat
  remRear : Nat
  result : BlendResult
  saturated : Bool
  braking : Bool
deriving DecidableEq, Repr

/-! ## Propulsion Split Unit (07_propulsion_split.md) -/

/-- The split result (section 7.1). -/
structure SplitResult where
  fReq : Nat
  fECap : Nat
  fE : Nat
  fEng : Nat
  fCs : Nat
  fShort : Nat
  tInv : Int
  engForce : Nat
deriving DecidableEq, Repr

/-- The Propulsion Split Unit (section 7.1). -/
structure SplitUnit where
  result : SplitResult
  above : Nat
  sufficient : Nat
deriving DecidableEq, Repr

/-! ## Engine Start Controller (08_engine_start_stop_control.md) -/

/-- The engine machine states (section 8.1). -/
inductive EngineState where
  | off | cranking | retryWait | warmup | run | cooldown | stopping | fault
deriving DecidableEq, Repr

/-- Crank causes (section 8.1). -/
inductive CrankCause where
  | host | hostOverride | socLow | demand | scheduled
deriving DecidableEq, Repr

/-- Stop causes (R150). -/
inductive StopCause where
  | auto | zone | host | mode | shutdown | safe
deriving DecidableEq, Repr

/-- The phases of the pre-start schedule (R160). -/
inductive SchedulePhase where
  | countStops | countDistance | due
deriving DecidableEq, Repr

/-- The pre-start schedule (R160). -/
structure Schedule where
  phase : SchedulePhase
  stops : Nat
  distance : Nat
deriving DecidableEq, Repr

/-- The Engine Start Controller (section 8.1); a set latch holds the OVERRIDE flag of its HOST START. -/
structure EngineUnit where
  machine : EngineState
  crankCause : Option CrankCause
  stopCause : Option StopCause
  attempts : Nat
  crankTimer : Timer
  restTimer : Timer
  cooldownTimer : Timer
  stopTimer : Timer
  stopExpiries : Nat
  offDwell : Nat
  latch : Option Bool
  auto : Bool
  window : Bool
  schedule : Option Schedule
deriving DecidableEq, Repr

/-! ## Event Log (06_braking_event_log.md) -/

/-- End reasons (R111). -/
inductive EndReason where
  | released | standstill | mode | stale
deriving DecidableEq, Repr

/-- The accumulators of an open event (R107). The tally has one count per limiting term DEMAND to MOTOR, in code order;
the slip accumulator holds the speed at the first slip cut and the count. -/
structure OpenEvent where
  startTime : Time
  startSpeed : Nat
  peak : Nat
  regJoules : BitVec 48
  frontJoules : BitVec 48
  rearJoules : BitVec 48
  tally : Vector Nat 9
  shortfall : Bool
  slip : Option (Nat × Nat)
deriving DecidableEq, Repr

/-- A closed record (R112). -/
structure EventRecord where
  seq : BitVec 32
  startSpeed : Nat
  endSpeed : Nat
  duration : BitVec 32
  peak : Nat
  regKj : Nat
  frontKj : Nat
  rearKj : Nat
  reason : EndReason
  term : LimitTerm
  shortfall : Bool
  slip : Option (Nat × Nat)
deriving DecidableEq, Repr

/-- The Event Log (R107). -/
structure EventLog where
  current : Option OpenEvent
  ring : List EventRecord
  next : BitVec 32
  overwritten : BitVec 32
deriving DecidableEq, Repr

/-! ## Wear Accounting Unit and Wear Store (09_wear_accounting_and_the_wear_store.md) -/

/-- The six wear items (section 9.1). -/
inductive WearKind where
  | padFL | padFR | padRL | padRR | battery | starts
deriving DecidableEq, Repr

/-- Wear states (section 9.1). -/
inductive WearState where
  | ok | warn | limit | unknown
deriving DecidableEq, Repr

/-- One wear item (section 9.1). -/
structure WearItem where
  value : Nat
  remainder : Nat
  state : WearState
  resets : Nat
deriving DecidableEq, Repr

/-- Load states (section 9.1). -/
inductive LoadState where
  | inFlight | good | bad
deriving DecidableEq, Repr

/-- The triggers a save carries (R183). -/
structure Triggers where
  reset : Bool
  shutdown : Bool
  periodic : Bool
deriving DecidableEq, Repr

/-- A save in flight: its triggers and the image being written (R184). -/
structure SaveJob where
  triggers : Triggers
  image : List Byte
deriving DecidableEq, Repr

/-- The last save result (section 9.1). -/
inductive SaveResult where
  | none | pass | fail
deriving DecidableEq, Repr

/-- The contents of the wear store: never written, one image of 44 bytes, or left bad by a save that was cut off (R180,
R188). -/
inductive StoreContents where
  | neverWritten
  | image (bytes : List Byte)
  | cutOff
deriving DecidableEq, Repr

/-- The Wear Accounting Unit and the Wear Store. -/
structure WearUnit where
  items : Vector WearItem 6
  load : LoadState
  save : Option SaveJob
  waiting : Option Triggers
  generation : BitVec 32
  lastSave : SaveResult
  readyMs : Nat
  store : StoreContents
deriving DecidableEq, Repr

/-! ## Fault Monitor (10_faults_restrictions_and_notices.md) -/

/-- The fault kinds (R189). -/
inductive FaultKind where
  | demandStale | batStale | batLost | invLost | engLost | brkLost | linkErrors | crankFail
  | stopFail | engReported | invReported | batReported | brkReported | frictionSaturated | storeBad | zoneReserve
deriving DecidableEq, Repr

/-- The restriction levels (section 10, head). -/
inductive Level where
  | none | note | derate | limp | safeStop
deriving DecidableEq, Repr

/-- The changeable fields of a response table entry (R189). -/
structure Response where
  level : Level
  factor : Nat
deriving DecidableEq, Repr

/-- An entry of the active fault list (section 10.2). -/
structure ActiveFault where
  kind : FaultKind
  level : Level
  factor : Nat
  firstRaise : Time
  count : Nat
  detail : Nat
  causePresent : Bool
deriving DecidableEq, Repr

/-- The Fault Monitor less its notice set. -/
structure FaultUnit where
  table : Vector Response 16
  active : List ActiveFault
  reserve : Bool
deriving DecidableEq, Repr

/-- The notice kinds (section 10.5). -/
inductive NoticeKind where
  | mode | faultRaised | faultCleared | restriction | engine | wear | event | reject | tunnel | store
deriving DecidableEq, Repr

/-- A notice slot (R201). -/
structure NoticeSlot where
  pending : Bool
  count : Nat
  detail : Nat
deriving DecidableEq, Repr

/-! ## The whole part -/

/-- The state of the 620. `pending` is the model's own field: the commands that wait, first in, first out. -/
structure State where
  supply : Supply
  mode : Mode
  progress : Progress
  waking : Bool
  keep : Bool
  slowClock : Bool
  runTime : Time
  svc : Bool
  params : Params
  hli : HostLink
  demand : DemandUnit
  nlc : LinkController
  nodes : NodeTable
  bbu : BrakeUnit
  psu : SplitUnit
  esc : EngineUnit
  log : EventLog
  wear : WearUnit
  faults : FaultUnit
  notices : Vector NoticeSlot 10
  pending : List Instr
deriving DecidableEq, Repr

/-! ## Reset values -/

/-- The demand record after reset (R11). -/
def DemandRecord.initial : DemandRecord := ⟨0, 0, 0, getParam defaultParams .mMax, 0, false, false⟩

/-- The Demand Unit after reset (R11). -/
def DemandUnit.initial : DemandUnit :=
  { record := .initial, lastDemand := none, firstInReady := false, freshness := none, stale := false,
    motion := .standstill, lowSpeed := none, stopEligible := false, stops := 0, distance := 0, remainder := 0,
    zone := false }

/-- The Host Link Interface after reset (11_host_link.md, first table). -/
def HostLink.initial : HostLink :=
  { framer := .hunt, slots := #v[none, none, none, none], sending := none, waiting := [], framingErrors := 0,
    crcErrors := 0, access := .drive }

/-- The Node Link Controller after reset (R23, R32, R35, R39, R40, R64). -/
def LinkController.initial : LinkController :=
  { queue := [], tx := .idle, bus := .waiting, link := .up, breakDue := false, ack := none, failures := 0,
    crcErrors := 0, noise := 0, busResets := 0, olderReset := none, newerReset := none, quiet := none, inbox := [] }

/-- A node record after reset and on PARKED entry (R45). -/
def NodeRecord.initial : NodeRecord :=
  { presence := .absent, freshTime := none, staleTime := none, lastAlive := none, repeats := 0, misses := 0,
    rejects := 0, lastCode := none, limited := false, held := false, staleTimer := none, lostTimer := none }

/-- The Node Table after reset and on PARKED entry (R45). -/
def NodeTable.initial : NodeTable :=
  { eng := .initial, inv := .initial, bat := .initial, bkf := .initial, bkr := .initial, aux1 := .initial,
    aux2 := .initial, engReport := none, invReport := none, batReport := none, bkfReport := none, bkrReport := none }

/-- The reset value of the blend result (section 5.1). -/
def BlendResult.initial : BlendResult := ⟨.none, 0, 0, 0, 0, 0, 0, 0, 0, 0, .none⟩

/-- The BBU after reset (section 5.1). -/
def BrakeUnit.initial : BrakeUnit :=
  { prev := 0, slipHold := none, lastSlip := none, remReg := 0, remFront := 0, remRear := 0, result := .initial,
    saturated := false, braking := false }

/-- The reset value of the split result (section 7.1). -/
def SplitResult.initial : SplitResult := ⟨0, 0, 0, 0, 0, 0, 0, 0⟩

/-- The PSU after reset (section 7.1). -/
def SplitUnit.initial : SplitUnit := ⟨.initial, 0, 0⟩

/-- The ESC after reset (section 8.1): AUTO takes the default of P41. -/
def EngineUnit.initial : EngineUnit :=
  { machine := .off, crankCause := none, stopCause := none, attempts := 0, crankTimer := none, restTimer := none,
    cooldownTimer := none, stopTimer := none, stopExpiries := 0, offDwell := max32, latch := none,
    auto := getParam defaultParams .autoReset != 0, window := true, schedule := none }

/-- The Event Log after reset (R107). -/
def EventLog.initial : EventLog := ⟨none, [], 0, 0⟩

/-- A wear item's start value (R165). -/
def WearItem.initial : WearItem := ⟨0, 0, .unknown, 0⟩

/-- The WAU after reset, over the contents the wear store has (R165). -/
def WearUnit.initial (store : StoreContents) : WearUnit :=
  { items := #v[.initial, .initial, .initial, .initial, .initial, .initial], load := .inFlight, save := none,
    waiting := none, generation := 0, lastSave := .none, readyMs := 0, store := store }

/-- The response table's defaults (R189). -/
def defaultResponses : Vector Response 16 :=
  #v[⟨.note, 255⟩, ⟨.note, 255⟩, ⟨.limp, 128⟩, ⟨.limp, 128⟩, ⟨.note, 255⟩, ⟨.safeStop, 255⟩, ⟨.derate, 192⟩, ⟨.note, 255⟩,
     ⟨.note, 255⟩, ⟨.note, 255⟩, ⟨.limp, 128⟩, ⟨.limp, 128⟩, ⟨.limp, 128⟩, ⟨.note, 255⟩, ⟨.note, 255⟩, ⟨.derate, 160⟩]

/-- The Fault Monitor after reset (R189, R191, R197). -/
def FaultUnit.initial : FaultUnit := ⟨defaultResponses, [], false⟩

/-- A notice slot that is not pending (R201). -/
def NoticeSlot.clear : NoticeSlot := ⟨false, 0, 0⟩

/-- Every slot clear (R201). -/
def noNotices : Vector NoticeSlot 10 :=
  #v[.clear, .clear, .clear, .clear, .clear, .clear, .clear, .clear, .clear, .clear]

/-- The state after power-on or nRESET (R1), over what the reset does not touch: the wear store, the SVC pin, and the
model's queue. -/
def State.afterReset (store : StoreContents) (svc : Bool) (pending : List Instr) : State :=
  { supply := .on, mode := .standby, progress := .idle, waking := false, keep := true, slowClock := false, runTime := 0,
    svc := svc, params := defaultParams, hli := .initial, demand := .initial, nlc := .initial, nodes := .initial,
    bbu := .initial, psu := .initial, esc := .initial, log := .initial, wear := .initial store, faults := .initial,
    notices := noNotices, pending := pending }

/-- The machine right after reset. DESIGN CHOICE (unsafe, logs 5 and 6): SVC low, the wear store never written. -/
def State.reset : State := .afterReset .neverWritten false []

end Sys2Proof.Machine
end

