-- ==== Sys2Proof/Machine/Ops.lean ====
section
/-! DEFINITION. The named operations every block uses: field updates, saturating counts, the time base and its timers, and
the notice set. -/

namespace Sys2Proof.Machine

/-! ## Updates -/

/-- The state with its field `supply` replaced. -/
def State.setSupply (s : State) (x : Supply) : State := { s with supply := x }

/-- The state with its field `mode` replaced. -/
def State.setMode (s : State) (x : Mode) : State := { s with mode := x }

/-- The state with its field `progress` replaced. -/
def State.setProgress (s : State) (x : Progress) : State := { s with progress := x }

/-- The state with its field `waking` replaced. -/
def State.setWaking (s : State) (x : Bool) : State := { s with waking := x }

/-- The state with its field `keep` replaced. -/
def State.setKeep (s : State) (x : Bool) : State := { s with keep := x }

/-- The state with its field `slowClock` replaced. -/
def State.setSlowClock (s : State) (x : Bool) : State := { s with slowClock := x }

/-- The state with its field `runTime` replaced. -/
def State.setRunTime (s : State) (x : Time) : State := { s with runTime := x }

/-- The state with its field `svc` replaced. -/
def State.setSvc (s : State) (x : Bool) : State := { s with svc := x }

/-- The state with its field `params` replaced. -/
def State.setParams (s : State) (x : Params) : State := { s with params := x }

/-- The state with its field `hli` replaced. -/
def State.setHli (s : State) (x : HostLink) : State := { s with hli := x }

/-- The state with its field `demand` replaced. -/
def State.setDemand (s : State) (x : DemandUnit) : State := { s with demand := x }

/-- The state with its field `nlc` replaced. -/
def State.setNlc (s : State) (x : LinkController) : State := { s with nlc := x }

/-- The state with its field `nodes` replaced. -/
def State.setNodes (s : State) (x : NodeTable) : State := { s with nodes := x }

/-- The state with its field `bbu` replaced. -/
def State.setBbu (s : State) (x : BrakeUnit) : State := { s with bbu := x }

/-- The state with its field `psu` replaced. -/
def State.setPsu (s : State) (x : SplitUnit) : State := { s with psu := x }

/-- The state with its field `esc` replaced. -/
def State.setEsc (s : State) (x : EngineUnit) : State := { s with esc := x }

/-- The state with its field `log` replaced. -/
def State.setLog (s : State) (x : EventLog) : State := { s with log := x }

/-- The state with its field `wear` replaced. -/
def State.setWear (s : State) (x : WearUnit) : State := { s with wear := x }

/-- The state with its field `faults` replaced. -/
def State.setFaults (s : State) (x : FaultUnit) : State := { s with faults := x }

/-- The state with its field `notices` replaced. -/
def State.setNotices (s : State) (x : Vector NoticeSlot 10) : State := { s with notices := x }

/-- The state with its field `pending` replaced. -/
def State.setPending (s : State) (x : List Instr) : State := { s with pending := x }

/-! ## Reading parameters, counting -/

/-- The value a configuration parameter holds. -/
def State.par (s : State) (p : Param) : Nat := getParam s.params p

/-- A count that saturates at its largest value (00_scope.md section 4.1). -/
def satAdd (limit n k : Nat) : Nat := min limit (n + k)

/-- STANDBY, READY and SHUTDOWN: the modes in which demands are accepted and the blocks run (R12, R15). -/
def Mode.live : Mode → Bool
  | .standby => true
  | .ready => true
  | .shutdown => true
  | .parked => false
  | .halted => false

/-! ## The time base -/

/-- Run-time differences are taken modulo 2³² (R45). -/
def elapsed (now since : Time) : Nat := (now - since).toNat

/-- A running countdown after `n` ms; it stands at 0 until its expiry is taken. -/
def countDown (n : Nat) (t : Timer) : Timer := t.map (· - n)

/-- A node record's presence timers after `n` ms. -/
def NodeRecord.age (n : Nat) (r : NodeRecord) : NodeRecord :=
  { r with staleTimer := countDown n r.staleTimer, lostTimer := countDown n r.lostTimer }

/-- Every record's presence timers after `n` ms. -/
def NodeTable.age (n : Nat) (t : NodeTable) : NodeTable :=
  { t with eng := t.eng.age n, inv := t.inv.age n, bat := t.bat.age n, bkf := t.bkf.age n, bkr := t.bkr.age n,
           aux1 := t.aux1.age n, aux2 := t.aux2.age n }

/-- The Demand Unit's timers after `n` ms (R15, R16). -/
def DemandUnit.age (n : Nat) (d : DemandUnit) : DemandUnit :=
  { d with freshness := countDown n d.freshness, lowSpeed := countDown n d.lowSpeed }

/-- The ESC's timers after `n` ms. -/
def EngineUnit.age (n : Nat) (e : EngineUnit) : EngineUnit :=
  { e with crankTimer := countDown n e.crankTimer, restTimer := countDown n e.restTimer,
           cooldownTimer := countDown n e.cooldownTimer, stopTimer := countDown n e.stopTimer }

/-- The off-dwell elapsed value counts up while the machine is OFF (R140). -/
def EngineUnit.dwell (n : Nat) (e : EngineUnit) : EngineUnit :=
  if e.machine = .off then { e with offDwell := satAdd max32 e.offDwell n } else e

/-- `n` ms pass. Which counts run depends on the mode: the Demand Unit, BBU and ESC timers in STANDBY, READY and SHUTDOWN
(R10, R15, R16, R81, R140); the presence timers there and in HALTED (R63); the off-dwell also in PARKED (R140); the quiet
timer in every mode until the link is silent (R35); the READY-time counter in READY (R183); the run time always (R8). -/
def State.advance (n : Nat) (s : State) : State :=
  { s with
    runTime := s.runTime + BitVec.ofNat 32 n
    demand := if s.mode.live then s.demand.age n else s.demand
    bbu := if s.mode.live then { s.bbu with slipHold := countDown n s.bbu.slipHold } else s.bbu
    esc := if s.mode.live then (s.esc.age n).dwell n else if s.mode = .parked then s.esc.dwell n else s.esc
    nodes := if s.mode = .parked then s.nodes else s.nodes.age n
    nlc := if s.nlc.link = .silent then s.nlc else { s.nlc with quiet := countDown n s.nlc.quiet }
    wear := if s.mode = .ready then { s.wear with readyMs := min periodicMs (s.wear.readyMs + n) } else s.wear }

/-- The expiry of a timer acts when the timer stands at its end. A timer that is stopped, or that has been started again since,
has not expired, and nothing happens (R51, R138, R157). DEDUCED (log 2). -/
def State.expire (timer : Timer) (act : State → State) (s : State) : State :=
  if timer = some 0 then act s else s

/-! ## The notice set -/

/-- The code of a notice kind (section 10.5). -/
def NoticeKind.code : NoticeKind → Nat
  | .mode => 0
  | .faultRaised => 1
  | .faultCleared => 2
  | .restriction => 3
  | .engine => 4
  | .wear => 5
  | .event => 6
  | .reject => 7
  | .tunnel => 8
  | .store => 9

/-- A slot after a setting of its kind: it becomes pending with count 1, or counts on to 255; the detail is the latest (R201). -/
def NoticeSlot.note (detail : Nat) (n : NoticeSlot) : NoticeSlot :=
  if n.pending then ⟨true, satAdd 255 n.count 1, detail⟩ else ⟨true, 1, detail⟩

/-- The slot of a notice kind. -/
def State.noticeOf (s : State) (k : NoticeKind) : NoticeSlot := s.notices[Fin.ofNat 10 k.code]

/-- Sets a notice (R201). -/
def State.notify (k : NoticeKind) (detail : Nat) (s : State) : State :=
  s.setNotices (s.notices.set (Fin.ofNat 10 k.code) ((s.noticeOf k).note detail))

/-! ## The mode -/

/-- The mode codes (R201, R212). -/
def Mode.code : Mode → Nat
  | .parked => 0
  | .standby => 1
  | .ready => 2
  | .shutdown => 3
  | .halted => 4

/-- A change of mode sets notice MODE with the new mode (R2); the access level falls to DRIVE as the mode leaves STANDBY (R215). -/
def State.enterMode (m : Mode) (s : State) : State :=
  let s := (s.setMode m).notify .mode m.code
  if m = .standby then s else s.setHli { s.hli with access := .drive }

/-! ## Node addresses and records -/

/-- A node's address (R24). -/
def nodeCode : NodeAddr → Nat
  | .eng => 1
  | .inv => 2
  | .bat => 3
  | .bkf => 4
  | .bkr => 5
  | .aux1 => 6
  | .aux2 => 7

/-- The node with an address from 1 to 7. -/
def nodeOfCode : Nat → Option NodeAddr
  | 1 => some .eng
  | 2 => some .inv
  | 3 => some .bat
  | 4 => some .bkf
  | 5 => some .bkr
  | 6 => some .aux1
  | 7 => some .aux2
  | _ => none

/-- The seven nodes in address order. -/
def allNodes : List NodeAddr := [.eng, .inv, .bat, .bkf, .bkr, .aux1, .aux2]

/-- A node's record. -/
def NodeTable.get (t : NodeTable) : NodeAddr → NodeRecord
  | .eng => t.eng
  | .inv => t.inv
  | .bat => t.bat
  | .bkf => t.bkf
  | .bkr => t.bkr
  | .aux1 => t.aux1
  | .aux2 => t.aux2

/-- The table with a node's record replaced. -/
def NodeTable.put (t : NodeTable) (n : NodeAddr) (r : NodeRecord) : NodeTable :=
  match n with
  | .eng => { t with eng := r }
  | .inv => { t with inv := r }
  | .bat => { t with bat := r }
  | .bkf => { t with bkf := r }
  | .bkr => { t with bkr := r }
  | .aux1 => { t with aux1 := r }
  | .aux2 => { t with aux2 := r }

/-- A node's record in the state. -/
def State.node (s : State) (n : NodeAddr) : NodeRecord := s.nodes.get n

/-- The state with a node's record replaced. -/
def State.setNode (s : State) (n : NodeAddr) (r : NodeRecord) : State := s.setNodes (s.nodes.put n r)

end Sys2Proof.Machine
end

