-- ==== Sys2Proof/Machine/Flags.lean ====
section
/-! DEFINITION. The flags and codes found from the state: fault codes and classes, the effective restriction, nATTN, and
the codes that replies carry. -/

namespace Sys2Proof.Machine

/-! ## Fault kinds (R189) -/

/-- A fault kind's code (R189). -/
def FaultKind.code : FaultKind → Nat
  | .demandStale => 1
  | .batStale => 2
  | .batLost => 3
  | .invLost => 4
  | .engLost => 5
  | .brkLost => 6
  | .linkErrors => 7
  | .crankFail => 8
  | .stopFail => 9
  | .engReported => 10
  | .invReported => 11
  | .batReported => 12
  | .brkReported => 13
  | .frictionSaturated => 14
  | .storeBad => 15
  | .zoneReserve => 16

/-- The sixteen kinds in code order. -/
def allFaultKinds : List FaultKind :=
  [.demandStale, .batStale, .batLost, .invLost, .engLost, .brkLost, .linkErrors, .crankFail,
   .stopFail, .engReported, .invReported, .batReported, .brkReported, .frictionSaturated, .storeBad, .zoneReserve]

/-- The kind with a code from 1 to 16. -/
def faultOfCode (c : Nat) : Option FaultKind := allFaultKinds.find? (fun k => k.code == c)

/-- Whether a kind is of class LATCHED (R189); the others are SELF. -/
def FaultKind.latched : FaultKind → Bool
  | .brkLost | .crankFail | .stopFail | .brkReported | .storeBad => true
  | .demandStale | .batStale | .batLost | .invLost | .engLost | .linkErrors | .engReported | .invReported
  | .batReported | .frictionSaturated | .zoneReserve => false

/-- A kind's minimum level (R189). -/
def FaultKind.minLevel : FaultKind → Level
  | .batLost | .batReported => .derate
  | .invLost | .invReported | .brkReported => .limp
  | .brkLost => .safeStop
  | .demandStale | .batStale | .engLost | .linkErrors | .crankFail | .stopFail | .engReported | .frictionSaturated
  | .storeBad | .zoneReserve => .note

/-- A restriction level's code (section 10, head). -/
def Level.code : Level → Nat
  | .none => 0
  | .note => 1
  | .derate => 2
  | .limp => 3
  | .safeStop => 4

/-- The level a response table entry may take with a code from 1 to 4 (R190). -/
def levelOfCode : Nat → Option Level
  | 1 => some .note
  | 2 => some .derate
  | 3 => some .limp
  | 4 => some .safeStop
  | _ => none

/-- The higher of two levels. -/
def Level.max (a b : Level) : Level := if a.code < b.code then b else a

/-- A kind's response table entry. -/
def FaultUnit.response (f : FaultUnit) (k : FaultKind) : Response := f.table[Fin.ofNat 16 (k.code - 1)]

/-- The response table with a kind's entry replaced. -/
def FaultUnit.setResponse (f : FaultUnit) (k : FaultKind) (r : Response) : FaultUnit :=
  { f with table := f.table.set (Fin.ofNat 16 (k.code - 1)) r }

/-- A kind's entry in the active fault list. -/
def FaultUnit.entry (f : FaultUnit) (k : FaultKind) : Option ActiveFault := f.active.find? (fun e => e.kind == k)

/-! ## The effective restriction (R195) -/

/-- The highest level among the entries. -/
def highestLevel (active : List ActiveFault) : Level := active.foldl (fun l e => l.max e.level) .none

/-- The effective level: NONE when the list is empty or holds only NOTE entries (R195). -/
def effLevel (active : List ActiveFault) : Level :=
  match highestLevel active with
  | .note => .none
  | l => l

/-- Whether an entry's factor enters k: its level is DERATE or LIMP (R195). -/
def ActiveFault.scales (e : ActiveFault) : Bool :=
  match e.level with
  | .derate => true
  | .limp => true
  | .none => false
  | .note => false
  | .safeStop => false

/-- The restriction factor k: the least factor among the DERATE and LIMP entries, or 256 (R195). -/
def effFactor (active : List ActiveFault) : Nat :=
  active.foldl (fun k e => if e.scales then min k e.factor else k) 256

/-- The effective restriction level as it stands. -/
def State.level (s : State) : Level := effLevel s.faults.active

/-- The restriction factor k as it stands. -/
def State.factor (s : State) : Nat := effFactor s.faults.active

/-! ## nATTN (R202) -/

/-- The codes 0 to 9 of the notice kinds. -/
def noticeCodes : List (Fin 10) := [0, 1, 2, 3, 4, 5, 6, 7, 8, 9]

/-- nATTN is low while at least one slot is pending and has its mask bit set (R202). An unpowered part drives nothing. -/
def State.nattnLow (s : State) : Bool :=
  s.supply == .on && noticeCodes.any (fun i => s.notices[i].pending && Nat.testBit (s.par .attention) i.val)

/-! ## Status codes (11_host_link.md section 11.1) -/

/-- Status OK. -/
def stOk : Byte := 0
/-- Status CLAMPED. -/
def stClamped : Byte := 1
/-- Status BUSY. -/
def stBusy : Byte := 2
/-- Status MODE. -/
def stMode : Byte := 3
/-- Status LEVEL. -/
def stLevel : Byte := 4
/-- Status UNKNOWN. -/
def stUnknown : Byte := 5
/-- Status LENGTH. -/
def stLength : Byte := 6
/-- Status VALUE. -/
def stValue : Byte := 7
/-- Status INHIBITED. -/
def stInhibited : Byte := 8
/-- Status MISMATCH. -/
def stMismatch : Byte := 9
/-- Status FULL. -/
def stFull : Byte := 10
/-- Status ABSENT. -/
def stAbsent : Byte := 11
/-- Status ACTIVE. -/
def stActive : Byte := 12
/-- Status LINKFAIL. -/
def stLinkFail : Byte := 13

/-- OK, or CLAMPED when a value was held to its range. -/
def okOrClamped (clamped : Bool) : Byte := if clamped then stClamped else stOk

/-! ## Codes of states -/

/-- A completion code as replies send it (section 11.3). -/
def Completion.code : Completion → Byte
  | .done => 1
  | .doneLimited => 2
  | .nakNotReady => 3
  | .nakInvalid => 4
  | .noAck => 5
  | .ackCrc => 6
  | .bitErr => 7
  | .lost => 8
  | .aborted => 9

/-- The code of a completion that may be none. -/
def codeOrNone : Option Completion → Byte
  | none => 0
  | some c => c.code

/-- The shutdown progress code (R213). -/
def Progress.code : Progress → Byte
  | .idle => 0
  | .engineWait => 1
  | .saving => 2

/-- The access level code (R213). -/
def Access.code : Access → Byte
  | .drive => 0
  | .service => 1

/-- The motion state code (R213). -/
def Motion.code : Motion → Byte
  | .standstill => 0
  | .moving => 1

/-- The engine machine state code (section 8.1). -/
def EngineState.code : EngineState → Nat
  | .off => 0
  | .cranking => 1
  | .retryWait => 2
  | .warmup => 3
  | .run => 4
  | .cooldown => 5
  | .stopping => 6
  | .fault => 7

/-- The crank cause code, 0 for none (section 11.3). -/
def crankCode : Option CrankCause → Byte
  | none => 0
  | some .host => 1
  | some .hostOverride => 2
  | some .socLow => 3
  | some .demand => 4
  | some .scheduled => 5

/-- The stop cause code, 0 for none (section 11.3). -/
def stopCode : Option StopCause → Byte
  | none => 0
  | some .auto => 1
  | some .zone => 2
  | some .host => 3
  | some .mode => 4
  | some .shutdown => 5
  | some .safe => 6

/-- The start-pending latch: bit 0 set, bit 1 OVERRIDE (section 11.3). -/
def latchCode : Option Bool → Byte
  | none => 0
  | some false => 1
  | some true => 3

/-- The schedule phase code (section 11.3). -/
def SchedulePhase.code : SchedulePhase → Byte
  | .countStops => 1
  | .countDistance => 2
  | .due => 3

/-- A limiting term's code (R100). -/
def LimitTerm.code : LimitTerm → Nat
  | .none => 0
  | .demand => 1
  | .stability => 2
  | .ramp => 3
  | .zero => 4
  | .abs => 5
  | .restriction => 6
  | .fade => 7
  | .battery => 8
  | .motor => 9

/-- An end reason's code (R111). -/
def EndReason.code : EndReason → Byte
  | .released => 1
  | .standstill => 2
  | .mode => 3
  | .stale => 4

/-- A wear item's code (section 9.1). -/
def WearKind.code : WearKind → Nat
  | .padFL => 0
  | .padFR => 1
  | .padRL => 2
  | .padRR => 3
  | .battery => 4
  | .starts => 5

/-- The item with a code from 0 to 5. -/
def wearOfCode : Nat → Option WearKind
  | 0 => some .padFL
  | 1 => some .padFR
  | 2 => some .padRL
  | 3 => some .padRR
  | 4 => some .battery
  | 5 => some .starts
  | _ => none

/-- A wear state's code (section 11.3). -/
def WearState.code : WearState → Byte
  | .ok => 0
  | .warn => 1
  | .limit => 2
  | .unknown => 3

/-- A load state's code (section 11.3). -/
def LoadState.code : LoadState → Byte
  | .inFlight => 0
  | .good => 1
  | .bad => 2

/-- A save result's code (section 11.3). -/
def SaveResult.code : SaveResult → Byte
  | .none => 0
  | .pass => 1
  | .fail => 2

/-- The triggers a save carries: bit 0 RESET, bit 1 SHUTDOWN, bit 2 PERIODIC (section 11.3). -/
def Triggers.bits (t : Triggers) : Nat := bit t.reset + 2 * bit t.shutdown + 4 * bit t.periodic

/-- A presence state's code (R213). -/
def Presence.code : Presence → Byte
  | .absent => 0
  | .present => 1
  | .stale => 2
  | .lost => 3

end Sys2Proof.Machine
end

