-- ==== Sys2Proof/Machine/Operands.lean ====
section
/-! DEFINITION. The operand forms: request payloads, node link frames, report payloads, the host framer and the pulse
classes. -/

namespace Sys2Proof.Machine

/-! ## The DEMAND payload (R12, R212) -/

/-- The fields of a DEMAND request, as its 13 bytes give them. -/
structure DemandFields where
  traction : Nat
  brake : Nat
  speed : Nat
  mass : Nat
  pAux : Nat
  doorsOpen : Bool
  reverse : Bool
deriving DecidableEq, Repr

/-- Reads a DEMAND payload (R212). -/
def demandFields (d : List Byte) : DemandFields :=
  { traction := unsigned (field d 0 4), brake := unsigned (field d 4 2), speed := unsigned (field d 6 2),
    mass := unsigned (field d 8 2), pAux := unsigned (field d 10 2),
    doorsOpen := (byteAt d 12).getLsbD 0, reverse := (byteAt d 12).getLsbD 1 }

/-- The effective mass: 0 is m_max; other values are held to m_min..m_max (R12). -/
def clampMass (lo hi m : Nat) : Nat := if m = 0 then hi else if m < lo then lo else if hi < m then hi else m

/-- Whether any field of a demand is clamped (R12); a mass of 0 is not. -/
def DemandFields.clamped (lo hi : Nat) (f : DemandFields) : Bool :=
  decide (120000 < f.traction) || decide (500 < f.brake) || decide (3000 < f.speed) ||
  (f.mass != 0 && (decide (f.mass < lo) || decide (hi < f.mass))) || decide (60000 < f.pAux)

/-- Whether brake over traction applies, after clamping (R12). -/
def DemandFields.override (f : DemandFields) : Bool := f.traction != 0 && f.brake != 0

/-- The demand record that a DEMAND leaves: clamped fields, with traction 0 under brake over traction (R12). -/
def DemandFields.record (lo hi : Nat) (f : DemandFields) : DemandRecord :=
  { traction := if f.override then 0 else min 120000 f.traction, brake := min 500 f.brake, speed := min 3000 f.speed,
    mass := clampMass lo hi f.mass, pAux := min 60000 f.pAux, doorsOpen := f.doorsOpen, reverse := f.reverse }

/-! ## Node link frames (R24, R25) -/

/-- A frame class's value (R24). -/
def classCode : FrameClass → Nat
  | .report => 0
  | .setpoint => 1
  | .command => 2
  | .tunnel => 3

/-- The class a queue entry is sent with (R24, R66). -/
def EntryKind.cls : EntryKind → FrameClass
  | .pressure => .setpoint
  | .torque => .setpoint
  | .force => .setpoint
  | .command => .command
  | .tunnel _ => .tunnel

/-- A kind's priority (R66, R76). -/
def EntryKind.priority : EntryKind → Nat
  | .pressure => 1
  | .torque => 2
  | .command => 3
  | .force => 4
  | .tunnel _ => 6

/-- H1: priority, target, class (R24). -/
def header1 (priority target cls : Nat) : Byte := byte (priority * 32 + target * 4 + cls)

/-- H2: source 0, the retry flag, the payload length (R24, R25). -/
def header2 (retry : Bool) (len : Nat) : Byte := byte (bit retry * 16 + len)

/-- The target address in H1 (R24). -/
def targetCode (h1 : Byte) : Nat := h1.toNat / 4 % 8

/-- The class in H1 (R24). -/
def frameClass (h1 : Byte) : FrameClass :=
  match h1.toNat % 4 with
  | 0 => .report
  | 1 => .setpoint
  | 2 => .command
  | _ => .tunnel

/-- The source address in H2: none for the 620's own address 0 (R24). -/
def frameSource (h2 : Byte) : Option NodeAddr := nodeOfCode (h2.toNat / 32)

/-- The retry flag in H2 (R24). -/
def frameRetry (h2 : Byte) : Bool := h2.getLsbD 4

/-- The payload length in H2 (R24). -/
def payloadLength (h2 : Byte) : Nat := h2.toNat % 16

/-- The bytes of an entry's frame from H1 to the CRC byte (R25, R26). -/
def Entry.frame (e : Entry) : List Byte :=
  let head := header1 e.priority (nodeCode e.target) (classCode e.kind.cls) :: header2 (decide (1 ≤ e.attempts)) e.payload.length :: e.payload
  head ++ [crc8 head]

/-- The payload of a PRESSURE entry in CONTROL mode (R66). -/
def controlPayload (kPa : Nat) : List Byte := 1 :: be16 kPa

/-- The payload of a PRESSURE entry in RELEASE mode (R66). -/
def releasePayload : List Byte := [0, 0, 0]

/-- The payload of a TORQUE entry (R66). -/
def torquePayload (nm : Int) : List Byte := be16 (twos16 nm)

/-- The payload of a FORCE entry, in units of 10 N (R66). -/
def forcePayload (units : Nat) : List Byte := be16 units

/-- The payload of ENG COMMAND START (R66). -/
def startPayload : List Byte := [1]

/-- The payload of ENG COMMAND STOP (R66). -/
def stopPayload : List Byte := [2]

/-- The four ack codes (R24). -/
def ackAccepted : Byte := 0x00
/-- Ack LIMITED. -/
def ackLimited : Byte := 0x01
/-- Ack NOT_READY. -/
def ackNotReady : Byte := 0x10
/-- Ack INVALID. -/
def ackInvalid : Byte := 0x11

/-- The bytes of the 620's acknowledgement: the ack byte and its CRC-8 (R26, R37). -/
def ackFrame (code : Byte) : List Byte := [code, crc8 [code]]

/-- The completion an ack byte with a good CRC gives; another value gives ACK_CRC (R28). -/
def completionOfAck (ack : Byte) : Completion :=
  if ack = ackAccepted then .done
  else if ack = ackLimited then .doneLimited
  else if ack = ackNotReady then .nakNotReady
  else if ack = ackInvalid then .nakInvalid
  else .ackCrc

/-- The completion an acknowledgement of two well-formed bytes gives: a bad CRC-8 is ACK_CRC (R26, R28). -/
def completionOfWindow (ack crc : Byte) : Completion := if crc = crc8 [ack] then completionOfAck ack else .ackCrc

/-- The ack byte a deferred reply gives for a completion, 0xFF where it is absent (R77). -/
def ackByteOf : Option Completion → Byte
  | some .done => ackAccepted
  | some .doneLimited => ackLimited
  | some .nakNotReady => ackNotReady
  | some .nakInvalid => ackInvalid
  | some .noAck => 0xFF
  | some .ackCrc => 0xFF
  | some .bitErr => 0xFF
  | some .lost => 0xFF
  | some .aborted => 0xFF
  | none => 0xFF

/-- Whether a completion counts as a failure: NO_ACK, ACK_CRC, BITERR (R30, R32). -/
def Completion.failed : Completion → Bool
  | .noAck => true
  | .ackCrc => true
  | .bitErr => true
  | .done => false
  | .doneLimited => false
  | .nakNotReady => false
  | .nakInvalid => false
  | .lost => false
  | .aborted => false

/-- Whether a good acknowledgement closed the exchange and took the entry: DONE, DONE_LIMITED, NAK_INVALID (R30, R77). -/
def Completion.acked : Completion → Bool
  | .done => true
  | .doneLimited => true
  | .nakInvalid => true
  | .nakNotReady => false
  | .noAck => false
  | .ackCrc => false
  | .bitErr => false
  | .lost => false
  | .aborted => false

/-! ## Pulses on the node link (R21) -/

/-- The classes of a dominant pulse by its length (R21). -/
inductive PulseClass where
  | noise | bit1 | bit0 | sof | brk | formError
deriving DecidableEq, Repr

/-- The class of a dominant pulse of a length in ns (R21). -/
def classifyPulse (ns : Nat) : PulseClass :=
  if ns < 500 then .noise
  else if ns < 2000 then .bit1
  else if ns < 4000 then .bit0
  else if 10000 ≤ ns ∧ ns ≤ 14000 then .sof
  else if 160000 ≤ ns then .brk
  else .formError

/-! ## Report payloads (R46, R47) -/

/-- The payload length of a role's report; AUX1 and AUX2 send none (R46). -/
def reportLength : NodeAddr → Option Nat
  | .eng => some 6
  | .inv => some 8
  | .bat => some 10
  | .bkf => some 7
  | .bkr => some 7
  | .aux1 => none
  | .aux2 => none

/-- The alive counter of a report's status byte (R46). -/
def aliveOf (payload : List Byte) : BitVec 4 := BitVec.ofNat 4 ((byteAt payload 0).toNat / 16)

/-- The flags of a report's status byte; SLIP is read for BKF and BKR only (R46, R47). -/
def reportFlags (brake : Bool) (payload : List Byte) : ReportFlags :=
  let b := byteAt payload 0
  { alive := aliveOf payload, ready := b.getLsbD 3, fault := b.getLsbD 2, slip := brake && b.getLsbD 1 }

/-- The engine state a code gives; a code above 4 is FAULT (R47). -/
def engineOfCode : Nat → EngineReported
  | 0 => .off
  | 1 => .cranking
  | 2 => .running
  | 3 => .stopping
  | _ => .fault

/-- An engine state's code (R46). -/
def EngineReported.code : EngineReported → Nat
  | .off => 0
  | .cranking => 1
  | .running => 2
  | .stopping => 3
  | .fault => 4

/-- Converts an ENG report (R46, R47). -/
def engReportOf (p : List Byte) : EngReport :=
  { flags := reportFlags false p, engine := engineOfCode (byteAt p 1).toNat,
    force := min fCap (unsigned (field p 2 2) * 10), coolant := ((byteAt p 4).toNat : Int) - 40,
    rpm := (byteAt p 5).toNat * 20 }

/-- Converts an INV report (R46, R47). -/
def invReportOf (p : List Byte) : InvReport :=
  { flags := reportFlags false p, speed := signed16 (field p 1 2), tMot := min 4000 (unsigned (field p 3 2)),
    tGen := min 4000 (unsigned (field p 5 2)), temp := ((byteAt p 7).toNat : Int) - 40 }

/-- Converts a BAT report (R46, R47). -/
def batReportOf (p : List Byte) : BatReport :=
  { flags := reportFlags false p, soc := min 1000 (unsigned (field p 1 2)), pChg := min 800 (unsigned (field p 3 2)) * 500,
    pDis := min 800 (unsigned (field p 5 2)) * 500, power := signed16 (field p 7 2) * 500,
    temp := ((byteAt p 9).toNat : Int) - 40 }

/-- Converts a BKF or BKR report (R46, R47). -/
def brkReportOf (p : List Byte) : BrkReport :=
  { flags := reportFlags true p, pressure := min 1000 (unsigned (field p 1 2)), padLeft := signed16 (field p 3 2),
    padRight := signed16 (field p 5 2) }

/-- The status byte of a stored report (R213). -/
def ReportFlags.encode (f : ReportFlags) : Byte :=
  byte (f.alive.toNat * 16 + bit f.ready * 8 + bit f.fault * 4 + bit f.slip * 2)

/-- A stored ENG report in the report's own coding (R213). -/
def EngReport.encode (r : EngReport) : List Byte :=
  [r.flags.encode, byte r.engine.code] ++ be16 (r.force / 10) ++ [byte (r.coolant + 40).toNat, byte (r.rpm / 20)]

/-- A stored INV report in the report's own coding (R213). -/
def InvReport.encode (r : InvReport) : List Byte :=
  [r.flags.encode] ++ be16 (twos16 r.speed) ++ be16 r.tMot ++ be16 r.tGen ++ [byte (r.temp + 40).toNat]

/-- A stored BAT report in the report's own coding (R213). -/
def BatReport.encode (r : BatReport) : List Byte :=
  [r.flags.encode] ++ be16 r.soc ++ be16 (r.pChg / 500) ++ be16 (r.pDis / 500) ++ be16 (twos16 (r.power / 500)) ++
    [byte (r.temp + 40).toNat]

/-- A stored brake report in the report's own coding (R213). -/
def BrkReport.encode (r : BrkReport) : List Byte :=
  [r.flags.encode] ++ be16 r.pressure ++ be16 (twos16 r.padLeft) ++ be16 (twos16 r.padRight)

/-- A node's stored report in the report's own coding; empty when none is stored. -/
def NodeTable.storedBytes (t : NodeTable) : NodeAddr → List Byte
  | .eng => (t.engReport.map EngReport.encode).getD []
  | .inv => (t.invReport.map InvReport.encode).getD []
  | .bat => (t.batReport.map BatReport.encode).getD []
  | .bkf => (t.bkfReport.map BrkReport.encode).getD []
  | .bkr => (t.bkrReport.map BrkReport.encode).getD []
  | .aux1 => []
  | .aux2 => []

/-! ## The host framer (R205) -/

/-- What the framer makes of a byte: nothing yet, a framing error to count, or a complete frame with its bytes from the
length byte to the last payload byte and its CRC-16. -/
inductive FramerEvent where
  | quiet
  | framingError
  | complete (bytes : List Byte) (crc : BitVec 16)
deriving DecidableEq, Repr

/-- The framer on one byte; `none` is a bad byte, whose stop bit is low (R205). -/
def Framer.receive : Framer → Option Byte → Framer × FramerEvent
  | .hunt, some b => if b = 0xC3 then (.length, .quiet) else (.hunt, .quiet)
  | .hunt, none => (.hunt, .quiet)
  | .length, none => (.hunt, .framingError)
  | .length, some b =>
      if 2 ≤ b.toNat ∧ b.toNat ≤ 250 then (.body b.toNat [b], .quiet) else (.hunt, .framingError)
  | .body _ _, none => (.hunt, .framingError)
  | .body len got, some b =>
      let got := got ++ [b]
      if got.length ≤ len then (.body len got, .quiet) else (.check got [], .quiet)
  | .check _ _, none => (.hunt, .framingError)
  | .check got [], some b => (.check got [b], .quiet)
  | .check got (c :: _), some b => (.hunt, .complete got (BitVec.ofNat 16 (c.toNat * 256 + b.toNat)))

/-! ## The frame of the host link (11_host_link.md section 11.1) -/

/-- A frame with the CRC-16 it carries: sync, the bytes from the length byte on, the CRC-16 high byte first (R206). -/
def hostFrameCarrying (covered : List Byte) (crc : BitVec 16) : List Byte := 0xC3 :: covered ++ be16 crc.toNat

/-- The bytes that the CRC-16 covers: length, tag, kind, payload (R206). -/
def hostFrameCovered (tag kind : Byte) (payload : List Byte) : List Byte := byte (payload.length + 2) :: tag :: kind :: payload

/-- A good frame of either direction (R206). -/
def hostFrameBytes (tag kind : Byte) (payload : List Byte) : List Byte :=
  let covered := hostFrameCovered tag kind payload
  hostFrameCarrying covered (crc16 covered)

/-- The bytes of a reply on HTX: the request's tag, its kind with bit 7 set, and the payload (R209). -/
def Reply.frame (r : Reply) : List Byte := hostFrameBytes r.tag (r.kind ||| 0x80) r.payload

end Sys2Proof.Machine
end

