-- ==== Sys2Proof/Machine/Symbols.lean ====
section
/-! DEFINITION. The symbols of the node link: what the 620 drives on NTX and NLEN, and how the NLC reads NRX: bits, bytes, frames,
the echo of its own symbols and the ack window (R20, R21, R24, R26, R27, R28, R36, R38, R41). Times are in ns. -/

namespace Sys2Proof.Machine

/-- The bit time at 250 kbit/s (section 2.1). -/
def bitNs : Nat := 4000

/-- 1/8 bit time: how far an edge may stand from its expected moment (R21). -/
def slackNs : Nat := 500

/-- An SOF: 3 bit times (R20). -/
def sofNs : Nat := 12000

/-- An EOD: 2 bit times (R21). -/
def eodNs : Nat := 8000

/-- An EOF: 6 bit times (R21). -/
def eofNs : Nat := 24000

/-- A break of the 620: 48 bit times (R33). -/
def breakNs : Nat := 192000

/-! ## What the 620 drives (R20, R33, R37, R41) -/

/-- The symbol of a bit: dominant for the first quarter of the bit time for a 1, for the first three for a 0 (R20). -/
def symbolPulse (start : Nat) (one : Bool) : Pulse := ⟨start, if one then 1000 else 3000⟩

/-- The bits of a byte, most significant first (R24). -/
def byteBits (b : Byte) : List Bool :=
  [b.getLsbD 7, b.getLsbD 6, b.getLsbD 5, b.getLsbD 4, b.getLsbD 3, b.getLsbD 2, b.getLsbD 1, b.getLsbD 0]

/-- The bits of bytes in the order they are sent (R24). -/
def bitsOf (bytes : List Byte) : List Bool := bytes.flatMap byteBits

/-- The symbols of bits, one bit time apart (R20). -/
def symbolsFrom (start : Nat) : List Bool → Wave
  | [] => []
  | b :: bs => symbolPulse start b :: symbolsFrom (start + bitNs) bs

/-- What the 620 drives: its dominant pulses, the moment it begins to drive the bus and the moment it releases it. Moments count
from the leading edge of the SOF of the frame on the bus, or from the start of a break. -/
structure Drive where
  pulses : Wave
  startNs : Nat
  endNs : Nat
deriving DecidableEq, Repr

/-- A frame, from the start of its SOF to the end of its CRC byte (R20, R24, R41). -/
def frameDrive (bytes : List Byte) : Drive :=
  ⟨⟨0, sofNs⟩ :: symbolsFrom sofNs (bitsOf bytes), 0, sofNs + bitNs * (8 * bytes.length)⟩

/-- A frame whose bus was released at a moment: by R27 at a mismatch, else with its CRC byte (R27, R41). -/
def endedDrive (bytes : List Byte) (releasedNs : Nat) : Drive := { frameDrive bytes with endNs := releasedNs }

/-- An acknowledgement, from the end of the EOD for as long as it is driven: 16 symbols, or up to a failed echo check
(R37, R38, R41). -/
def AckSent.drive (a : AckSent) : Drive := ⟨symbolsFrom a.startNs (bitsOf a.bytes), a.startNs, a.startNs + a.drivenNs⟩

/-- A break (R33). -/
def breakDrive : Drive := ⟨[⟨0, breakNs⟩], 0, breakNs⟩

/-- What the transmitter drives of the frame on the bus, or of a break (R27, R33, R41). The symbols stand at their nominal moments
(log 26). -/
def Tx.drives : Tx → List Drive
  | .frame bytes => [frameDrive bytes]
  | .ended _ bytes releasedNs => [endedDrive bytes releasedNs]
  | .brk .driving => [breakDrive]
  | .brk .recognised => [breakDrive]
  | .brk .released => []
  | .idle => []

/-- All that the NLC drives of the frame on the bus: its own frame or a break, and the acknowledgement it last sent. After a lost
arbitration it may be both: the 620's frame up to the mismatch, and the acknowledgement of the frame that won (R27, R41). -/
def LinkController.drives (n : LinkController) : List Drive := n.tx.drives ++ (n.ack.map AckSent.drive).toList

/-- Whether the 620 drives the bus at a moment. -/
def Drive.covers (d : Drive) (t : Nat) : Bool := decide (d.startNs ≤ t) && decide (t < d.endNs)

/-- The level of a pin. -/
inductive PinLevel where
  | low | high
deriving DecidableEq, Repr

/-- Whether the bus is dominant at a moment of a wave. -/
def dominantAt (w : Wave) (t : Nat) : Bool := w.any (fun p => decide (p.edge ≤ t) && decide (t < p.edge + p.width))

/-- NTX at a moment: low asks for the dominant level, high releases the bus (R20). -/
def LinkController.ntx (n : LinkController) (t : Nat) : PinLevel :=
  if n.drives.any (fun d => d.covers t && dominantAt d.pulses t) then .low else .high

/-- NLEN at a moment: asserted while the 620 drives the bus, released at once when the echo check stops it (R41). -/
def LinkController.nlen (n : LinkController) (t : Nat) : Bool := n.drives.any (fun d => d.covers t)

/-- NRX at a moment of a wave: the bus level (R20). -/
def nrx (w : Wave) (t : Nat) : PinLevel := if dominantAt w t then .low else .high

/-! ## Symbols and bytes as the receiver reads them (R21, R22) -/

/-- What the receiver finds where it expects a symbol: a bit with its leading edge and the pulses after it; nothing by the
window's end; a form error; a break. -/
inductive SymbolRead where
  | bit (one : Bool) (edge : Nat) (rest : Wave)
  | missing
  | formError
  | brk
deriving DecidableEq, Repr

/-- The next symbol, its leading edge expected from `lo` to `hi`. Noise is passed over; a pulse that begins earlier, or whose
length is no bit's, is a form error; a pulse of the length of a break is one (R21, R22, R34). The lengths of R21 give the level at
the middle of the symbol. DESIGN CHOICE (log 48): a run that becomes a break is a break wherever it begins in the frame; the form
error its early edge makes counts no CRC error. -/
def nextSymbol (lo hi : Nat) : Wave → SymbolRead
  | [] => .missing
  | p :: rest =>
    match classifyPulse p.width with
    | .noise => nextSymbol lo hi rest
    | .bit1 => if p.edge < lo then .formError else if hi < p.edge then .missing else .bit true p.edge rest
    | .bit0 => if p.edge < lo then .formError else if hi < p.edge then .missing else .bit false p.edge rest
    | .brk => if hi < p.edge then .missing else .brk
    | .sof => if hi < p.edge then .missing else .formError
    | .formError => if hi < p.edge then .missing else .formError

/-- A run of symbols read to its end: the value, the moment one bit time after the last leading edge, the pulses after it. -/
inductive Reading (α : Type) where
  | ok (value : α) (ends : Nat) (rest : Wave)
  | formError
  | brk
deriving DecidableEq, Repr

/-- The bits of a run of symbols, the first edge expected at `e`, every later one a bit time after the last (R21). -/
def readBits : Nat → Nat → Wave → Reading (List Bool)
  | 0, e, w => .ok [] e w
  | n + 1, e, w =>
    match nextSymbol (e - slackNs) (e + slackNs) w with
    | .missing => .formError
    | .formError => .formError
    | .brk => .brk
    | .bit b edge rest =>
      match readBits n (edge + bitNs) rest with
      | .ok bs ends rest => .ok (b :: bs) ends rest
      | .formError => .formError
      | .brk => .brk

/-- The number of bits sent most significant first (R24). -/
def numberOf (bits : List Bool) : Nat := bits.foldl (fun n b => 2 * n + bit b) 0

/-- Bytes read from the bus (R24). -/
def readBytes : Nat → Nat → Wave → Reading (List Byte)
  | 0, e, w => .ok [] e w
  | n + 1, e, w =>
    match readBits 8 e w with
    | .formError => .formError
    | .brk => .brk
    | .ok bits ends rest =>
      match readBytes n ends rest with
      | .ok bytes ends rest => .ok (byte (numberOf bits) :: bytes) ends rest
      | .formError => .formError
      | .brk => .brk

/-- Whether a stretch that ends at `till` stays recessive but for noise; else what stands in it (R21, R22). DESIGN CHOICE (log 48):
a run in the stretch that becomes a break is a break and no form error. -/
def readQuiet (till : Nat) : Wave → Reading Unit
  | [] => .ok () till []
  | p :: rest =>
    match classifyPulse p.width with
    | .noise => readQuiet till rest
    | .brk => if till ≤ p.edge then .ok () till (p :: rest) else .brk
    | .bit1 => if till ≤ p.edge then .ok () till (p :: rest) else .formError
    | .bit0 => if till ≤ p.edge then .ok () till (p :: rest) else .formError
    | .sof => if till ≤ p.edge then .ok () till (p :: rest) else .formError
    | .formError => if till ≤ p.edge then .ok () till (p :: rest) else .formError

/-- How many noise pulses a wave holds (R22). -/
def noiseCount (w : Wave) : Nat := (w.filter (fun p => classifyPulse p.width == .noise)).length

/-- Whether a wave holds a pulse of the length of a break (R21). -/
def hasBreak (w : Wave) : Bool := w.any (fun p => classifyPulse p.width == .brk)

/-! ## Frames as the receiver follows them (R24, R26, R36) -/

/-- A wave as the receiver follows it: nothing but noise; a first pulse that is no SOF; a frame with its H1, H2 and payload, the
end of its EOD and the pulses after it, of good CRC or not; a form error or a length above 12 before the end of the EOD; a break
before it. -/
inductive FrameRead where
  | nothing
  | noSof
  | good (h1 h2 : Byte) (payload : List Byte) (eod : Nat) (rest : Wave)
  | badCrc (eod : Nat) (rest : Wave)
  | formError
  | brk
deriving DecidableEq, Repr

/-- Payload, CRC byte and EOD of a frame whose header has been read (R26, R36). -/
def readBody (h1 h2 : Byte) (ends : Nat) (rest : Wave) : FrameRead :=
  let len := payloadLength h2
  if 12 < len then .formError
  else match readBytes (len + 1) ends rest with
    | .formError => .formError
    | .brk => .brk
    | .ok bytes ends rest =>
      match readQuiet (ends + eodNs) rest with
      | .formError => .formError
      | .brk => .brk
      | .ok _ eod rest =>
        let payload := bytes.take len
        if byteAt bytes len = crc8 (h1 :: h2 :: payload) then .good h1 h2 payload eod rest else .badCrc eod rest

/-- A frame followed from the leading edge of its SOF (R36). -/
def readFrame : Wave → FrameRead
  | [] => .nothing
  | p :: rest =>
    match classifyPulse p.width with
    | .noise => readFrame rest
    | .brk => .brk
    | .bit1 => .noSof
    | .bit0 => .noSof
    | .formError => .noSof
    | .sof =>
      match readBytes 2 (p.edge + sofNs) rest with
      | .formError => .formError
      | .brk => .brk
      | .ok head ends rest => readBody (byteAt head 0) (byteAt head 1) ends rest

/-- An ack window and the EOF behind it: no leading edge within 1 bit time of the EOD, two well-formed bytes, a form error, or a
break. `ends` is the end of the window, and `closes` tells whether the EOF stays recessive (R21, R28). -/
inductive WindowRead where
  | empty (ends : Nat) (closes : Bool)
  | ack (code crc : Byte) (ends : Nat) (closes : Bool)
  | formError
  | brk
deriving DecidableEq, Repr

/-- Whether the EOF from a moment on stays recessive (R21). -/
def eofCloses (ends : Nat) (rest : Wave) : Bool :=
  match readQuiet (ends + eofNs) rest with
  | .ok _ _ _ => true
  | .formError => false
  | .brk => false

/-- The ack window of a frame whose EOD ends at `eod`: empty, or 16 symbols, with nothing but noise behind the last one's pulse to
the end of its bit time (R21, R28). -/
def readWindow (eod : Nat) (w : Wave) : WindowRead :=
  match nextSymbol eod (eod + bitNs) w with
  | .missing => .empty (eod + bitNs) (eofCloses (eod + bitNs) w)
  | .formError => .formError
  | .brk => .brk
  | .bit _ edge _ =>
    match readBytes 2 edge w with
    | .formError => .formError
    | .brk => .brk
    | .ok bytes ends rest =>
      match readQuiet ends rest with
      | .formError => .formError
      | .brk => .brk
      | .ok _ _ rest => .ack (byteAt bytes 0) (byteAt bytes 1) ends (eofCloses ends rest)

/-- The bus after an ack window: the EOF runs out, or the 9-bit rule after a form error in the window or the EOF (R21, R23, R28). -/
def WindowRead.bus : WindowRead → Bus
  | .empty _ closes => if closes then .closing else .waiting
  | .ack _ _ _ closes => if closes then .closing else .waiting
  | .formError => .waiting
  | .brk => .waiting

/-! ## The echo of the 620's own symbols (R27, R38) -/

/-- The leading edge of a symbol that the 620 drives at `e`: the one on the bus within 1/8 bit time, to which every sender
resynchronises, else its own moment (R21, section 2.3). -/
def symbolEdge (e : Nat) : Wave → Nat
  | [] => e
  | p :: rest =>
    if classifyPulse p.width ≠ .noise ∧ e - slackNs ≤ p.edge ∧ p.edge ≤ e + slackNs then p.edge else symbolEdge e rest

/-- The level the 620 reads back at the middle of a symbol: a pulse that reaches to that moment, as one of 2 µs from the symbol's
leading edge does, is dominant there (R21, R27). DESIGN CHOICE (log 47): a pulse of the length of noise counts here too. -/
def dominantMid (w : Wave) (t : Nat) : Bool := w.any (fun p => decide (p.edge ≤ t) && decide (t ≤ p.edge + p.width))

/-- How far the echo check of the 620's own frame goes: every bit agreed, up to a moment; arbitration lost, or a bit error, found at
a moment (R27). -/
inductive Echo where
  | agreed (ends : Nat)
  | lost (ns : Nat)
  | bitErr (ns : Nat)
deriving DecidableEq, Repr

/-- The echo check of bits at the middle of each symbol, the first `header` of them in H1 and H2: a 1 read back as 0 there is a
lost arbitration, any other mismatch a bit error, and the moment is that middle (R27). A noise pulse there: log 47. -/
def echoBits (w : Wave) : Nat → Nat → List Bool → Echo
  | _, e, [] => .agreed e
  | header, e, b :: bs =>
    let edge := symbolEdge e w
    if dominantMid w (edge + bitNs / 2) = b then
      (if b = true ∧ 0 < header then .lost (edge + bitNs / 2) else .bitErr (edge + bitNs / 2))
    else echoBits w (header - 1) (edge + bitNs) bs

/-- What became of a frame of the 620: an empty window or two well-formed ack bytes, with the end of the window and the bus behind
it; a form error in the window, a lost arbitration or a bit error, with the moment at which the 620 no longer drove the bus; a break
before it could be settled (R27, R28). -/
inductive SendOutcome where
  | emptyWindow (ends : Nat) (bus : Bus)
  | acked (code crc : Byte) (ends : Nat) (bus : Bus)
  | windowError (ns : Nat)
  | lost (ns : Nat)
  | bitErr (ns : Nat)
  | brk
deriving DecidableEq, Repr

/-- The moment at which the outcome is settled within the wave: the end of the ack window. The others wait for the idle bus
(R29). -/
def SendOutcome.settledNs : SendOutcome → Option Nat
  | .emptyWindow ends _ => some ends
  | .acked _ _ ends _ => some ends
  | .windowError _ => none
  | .lost _ => none
  | .bitErr _ => none
  | .brk => none

/-- How long the bus is dominant from the start of the 620's SOF. -/
def sofDominant : Wave → Nat
  | [] => 0
  | p :: _ => if p.edge = 0 then p.width else 0

/-- The pulses of a wave from a moment on. DESIGN CHOICE (log 49): what begins in the bit time of the 620's last CRC symbol is not
among those from the EOD on, though it may hold through EOD and ack window. -/
def pulsesFrom (t : Nat) (w : Wave) : Wave := w.filter (fun p => decide (t ≤ p.edge))

/-- The outcome of a frame of the 620, its bytes from H1 to the CRC byte, by the wave it reads back (R27, R28). The bus is to be
dominant throughout the SOF; a recessive level there is a bit error at that moment (R27). A dominant level that begins in the last
CRC symbol and makes no leading edge in EOD and window leaves the window empty: NO_ACK, before any bus reset (DESIGN CHOICE,
log 49). -/
def sendOutcome (bytes : List Byte) (w : Wave) : SendOutcome :=
  if sofDominant w < sofNs then .bitErr (sofDominant w)
  else match echoBits w 16 sofNs (bitsOf bytes) with
    | .lost ns => .lost ns
    | .bitErr ns => .bitErr ns
    | .agreed ends =>
      match readQuiet (ends + eodNs) (pulsesFrom ends w) with
      | .formError => .bitErr ends
      | .brk => .brk
      | .ok _ eod rest =>
        match readWindow eod rest with
        | .empty till closes => .emptyWindow till (WindowRead.bus (.empty till closes))
        | .ack code crc till closes => .acked code crc till (WindowRead.bus (.ack code crc till closes))
        | .formError => .windowError ends
        | .brk => .brk

/-- The moment, counted from the end of the EOD, at which the echo check of the 620's acknowledgement fails: none when every bit
reads back as sent (R38). DESIGN CHOICE (log 56): each symbol is read at its nominal middle, counted from the end of the EOD, and no
leading edge of the wave moves that moment, where R38 applies the check of R27 and does not say whether R21's resynchronisation holds
for a sender in the ack window. A noise pulse at the middle of a symbol: log 47. -/
def ackEcho (eod : Nat) (w : Wave) (start : Nat) : List Bool → Option Nat
  | [] => none
  | b :: bs =>
    if dominantMid w (eod + start + bitNs / 2) = b then some (start + bitNs / 2) else ackEcho eod w (start + bitNs) bs

end Sys2Proof.Machine
end

