-- ==== Sys2Proof/Machine/HostLine.lean ====
section
/-! DEFINITION. The line of the host link: what HTX shows of a reply, and how the HLI reads HRX: start bits, bytes, frames, and the
commands they spell (11_host_link.md section 11.1; R205, R206, R207, R212). -/

namespace Sys2Proof.Machine

/-! ## Bits on the line (section 11.1) -/

/-- The bit time at 1,000,000 bit/s, in ns (section 11.1). -/
def hostBitNs : Nat := 1000

/-- What HRX or HTX shows, one level for each bit time; between bytes it is high (section 11.1; log 58). -/
abbrev HostLine := List PinLevel

/-- The level of a data bit: high for a 1. PRESUMED (log 58). -/
def bitLevel (one : Bool) : PinLevel := if one then .high else .low

/-- The data bit that a level is (log 58). -/
def PinLevel.isHigh : PinLevel → Bool
  | .high => true
  | .low => false

/-- The 8 data bits of a byte, least significant first (section 11.1). -/
def dataLevels (b : Byte) : HostLine :=
  [bitLevel (b.getLsbD 0), bitLevel (b.getLsbD 1), bitLevel (b.getLsbD 2), bitLevel (b.getLsbD 3), bitLevel (b.getLsbD 4),
   bitLevel (b.getLsbD 5), bitLevel (b.getLsbD 6), bitLevel (b.getLsbD 7)]

/-- The number of data bits sent least significant first (section 11.1). -/
def levelsNumber (levels : HostLine) : Nat := levels.foldr (fun l n => bit l.isHigh + 2 * n) 0

/-- A byte with the stop bit it shows: a low start bit, 8 data bits, no parity bit, 1 stop bit (section 11.1; log 58). -/
def charLine (b : Byte) (stop : PinLevel) : HostLine := .low :: (dataLevels b ++ [stop])

/-- A byte as either side sends it: its stop bit is high (section 11.1, R205). -/
def byteLine (b : Byte) : HostLine := charLine b .high

/-- Bytes with no gap between them (R209). -/
def bytesLine (bytes : List Byte) : HostLine := bytes.flatMap byteLine

/-- Bytes with the idle line before each, in µs (R205). -/
def spacedLine (bytes : List (Nat × Byte)) : HostLine := bytes.flatMap (fun p => List.replicate p.1 .high ++ byteLine p.2)

/-! ## HTX (R209, R212) -/

/-- A reply on HTX (R209, R212). -/
def Reply.line (r : Reply) : HostLine := bytesLine r.frame

/-- HTX at a moment, in ns from the start bit of the reply in progress; high while none is sent and once it has ended (R209, R212). -/
def HostLink.htx (h : HostLink) (t : Nat) : PinLevel :=
  match h.sending with
  | none => .high
  | some r => r.line.getD (t / hostBitNs) .high

/-! ## HRX as the HLI samples it (R205) -/

/-- What the HLI takes from HRX: a stretch with no byte, in µs; a byte whose stop bit is high; a bad byte (R205). -/
inductive HrxEvent where
  | quiet (us : Nat)
  | byte (b : Byte)
  | badByte
deriving DecidableEq, Repr

/-- The byte of 8 data bits, good only with a high stop bit (R205). -/
def takeChar (data : HostLine) : PinLevel → HrxEvent
  | .high => .byte (byte (levelsNumber data))
  | .low => .badByte

/-- HRX sampled for start bits, `us` bit times after the last stop bit: a low level begins a byte of 8 data bits and a stop bit
(R205). A byte that the line breaks off is not taken. DESIGN CHOICE (log 59): after a bad byte the very next bit time may hold a
start bit. -/
def sampleLine (us : Nat) : HostLine → List HrxEvent
  | [] => [.quiet us]
  | .high :: rest => sampleLine (us + 1) rest
  | .low :: d0 :: d1 :: d2 :: d3 :: d4 :: d5 :: d6 :: d7 :: stop :: rest =>
      .quiet us :: takeChar [d0, d1, d2, d3, d4, d5, d6, d7] stop :: sampleLine 0 rest
  | .low :: _ => [.quiet us]

/-! ## The commands a line spells (R205, R207) -/

/-- The command of a ROUTE frame by its sub-operation (section 11.3). -/
def routeCommand (tag : Byte) : List Byte → Instr
  | [] => .requestUnknownKind tag 0x02 []
  | sub :: rest =>
    match sub.toNat with
    | 0 => .routeZoneEnter tag rest
    | 1 => .routeZoneExit tag rest
    | 2 => .routeSchedule tag rest
    | 3 => .routeCancel tag rest
    | _ => .requestUnknownKind tag 0x02 (sub :: rest)

/-- The command of an ENGINE frame by its sub-operation (section 11.3). -/
def engineCommand (tag : Byte) : List Byte → Instr
  | [] => .requestUnknownKind tag 0x03 []
  | sub :: rest =>
    match sub.toNat with
    | 0 => .engineStart tag rest
    | 1 => .engineStop tag rest
    | 2 => .engineAutoOn tag rest
    | 3 => .engineAutoOff tag rest
    | 4 => .engineResetFault tag rest
    | _ => .requestUnknownKind tag 0x03 (sub :: rest)

/-- The command of a MODE frame by its target (section 11.3). -/
def modeCommand (tag : Byte) : List Byte → Instr
  | [] => .requestUnknownKind tag 0x04 []
  | sub :: rest =>
    match sub.toNat with
    | 0 => .modePark tag rest
    | 1 => .modeStandby tag rest
    | 2 => .modeReady tag rest
    | 3 => .modeShutdown tag rest
    | 4 => .modeHalt tag rest
    | _ => .requestUnknownKind tag 0x04 (sub :: rest)

/-- The command of a FAULTS frame by its page (section 11.3). -/
def faultsCommand (tag : Byte) : List Byte → Instr
  | [] => .requestUnknownKind tag 0x0C []
  | sub :: rest =>
    match sub.toNat with
    | 0 => .faultsList tag rest
    | 1 => .faultsTable tag rest
    | _ => .requestUnknownKind tag 0x0C (sub :: rest)

/-- The command of an ACCESS frame by its level (section 11.3). -/
def accessCommand (tag : Byte) : List Byte → Instr
  | [] => .requestUnknownKind tag 0x0F []
  | sub :: rest =>
    match sub.toNat with
    | 0 => .accessDrive tag rest
    | 1 => .accessService tag rest
    | _ => .requestUnknownKind tag 0x0F (sub :: rest)

/-- The command of a TUNNEL frame by its sub-operation (section 11.3). -/
def tunnelCommand (tag : Byte) : List Byte → Instr
  | [] => .requestUnknownKind tag 0x10 []
  | sub :: rest =>
    match sub.toNat with
    | 0 => .tunnelSend tag rest
    | 1 => .tunnelFetch tag rest
    | _ => .requestUnknownKind tag 0x10 (sub :: rest)

/-- The command of a DESCRIBE frame by its page (section 11.3). -/
def describeCommand (tag : Byte) : List Byte → Instr
  | [] => .requestUnknownKind tag 0x11 []
  | sub :: rest =>
    match sub.toNat with
    | 0 => .describeIdentity tag rest
    | 1 => .describeCapacities tag rest
    | 2 => .describeStore tag rest
    | _ => .requestUnknownKind tag 0x11 (sub :: rest)

/-- The command of a good frame: the row that names its kind and first payload byte, REQUEST_UNKNOWN_KIND for all others (R207,
section 11.3). -/
def requestCommand (tag kind : Byte) (data : List Byte) : Instr :=
  match kind.toNat with
  | 0x01 => .demand tag data
  | 0x02 => routeCommand tag data
  | 0x03 => engineCommand tag data
  | 0x04 => modeCommand tag data
  | 0x05 => .status tag data
  | 0x06 => .notices tag data
  | 0x07 => .events tag data
  | 0x08 => .wearRead tag data
  | 0x09 => .wearReset tag data
  | 0x0A => .configSet tag data
  | 0x0B => .configGet tag data
  | 0x0C => faultsCommand tag data
  | 0x0D => .faultClear tag data
  | 0x0E => .responseSet tag data
  | 0x0F => accessCommand tag data
  | 0x10 => tunnelCommand tag data
  | 0x11 => describeCommand tag data
  | _ => .requestUnknownKind tag kind data

/-- The tag, kind and payload of the frame that carries a request; none for a command that is no host request (section 11.3). -/
def requestFields : Instr → Option (Byte × Byte × List Byte)
  | .requestUnknownKind tag kind data => some (tag, kind, data)
  | .demand tag data => some (tag, 0x01, data)
  | .routeZoneEnter tag data => some (tag, 0x02, 0 :: data)
  | .routeZoneExit tag data => some (tag, 0x02, 1 :: data)
  | .routeSchedule tag data => some (tag, 0x02, 2 :: data)
  | .routeCancel tag data => some (tag, 0x02, 3 :: data)
  | .engineStart tag data => some (tag, 0x03, 0 :: data)
  | .engineStop tag data => some (tag, 0x03, 1 :: data)
  | .engineAutoOn tag data => some (tag, 0x03, 2 :: data)
  | .engineAutoOff tag data => some (tag, 0x03, 3 :: data)
  | .engineResetFault tag data => some (tag, 0x03, 4 :: data)
  | .modePark tag data => some (tag, 0x04, 0 :: data)
  | .modeStandby tag data => some (tag, 0x04, 1 :: data)
  | .modeReady tag data => some (tag, 0x04, 2 :: data)
  | .modeShutdown tag data => some (tag, 0x04, 3 :: data)
  | .modeHalt tag data => some (tag, 0x04, 4 :: data)
  | .status tag data => some (tag, 0x05, data)
  | .notices tag data => some (tag, 0x06, data)
  | .events tag data => some (tag, 0x07, data)
  | .wearRead tag data => some (tag, 0x08, data)
  | .wearReset tag data => some (tag, 0x09, data)
  | .configSet tag data => some (tag, 0x0A, data)
  | .configGet tag data => some (tag, 0x0B, data)
  | .faultsList tag data => some (tag, 0x0C, 0 :: data)
  | .faultsTable tag data => some (tag, 0x0C, 1 :: data)
  | .faultClear tag data => some (tag, 0x0D, data)
  | .responseSet tag data => some (tag, 0x0E, data)
  | .accessDrive tag data => some (tag, 0x0F, 0 :: data)
  | .accessService tag data => some (tag, 0x0F, 1 :: data)
  | .tunnelSend tag data => some (tag, 0x10, 0 :: data)
  | .tunnelFetch tag data => some (tag, 0x10, 1 :: data)
  | .describeIdentity tag data => some (tag, 0x11, 0 :: data)
  | .describeCapacities tag data => some (tag, 0x11, 1 :: data)
  | .describeStore tag data => some (tag, 0x11, 2 :: data)
  | .powerOn _ | .nreset _ | .nresync _ | .svcLow | .svcHigh | .wakeOnHrx | .wakeOnNode | .wakeEnd => none
  | .hostFrameBadCrc _ _ | .hostFramingError _ | .interByteGapTimeout _ | .replyEnd => none
  | .freshnessTimerExpiry | .lowSpeedTimerExpiry | .slipHoldTimerExpiry | .staleTimerExpiry _ | .lostTimerExpiry _ => none
  | .crankTimerExpiry | .restTimerExpiry | .cooldownTimerExpiry | .stopTimerExpiry | .quietTimerExpiry => none
  | .periodicSaveTrigger | .storeLoadComplete | .saveComplete _ => none
  | .reportReceived _ _ _ _ | .tunnelFrameReceived _ _ _ _ | .nodeFrameRefused _ _ _ _ _ | .dnlFrameCrcError _ => none
  | .noisePulse _ | .busIdle _ | .busReset _ | .frameCompletion _ | .powerLoss _ => none

/-- The command of a completed frame, its bytes from the length byte to the last payload byte and the CRC-16 it carries (R206,
R207). -/
def frameCommand (bytes : List Byte) (crc : BitVec 16) : Instr :=
  match bytes with
  | _ :: tag :: kind :: data =>
    if crc16 bytes = crc then requestCommand tag kind data else .hostFrameBadCrc (tag :: kind :: data) crc
  | short => .hostFrameBadCrc short.tail crc

/-- What the framer makes of an event on HRX: where it goes, and the commands it gives. A gap counts inside a frame alone, when it is
longer than 200 µs; the byte that ends it is examined in HUNT (R205). -/
def Framer.takes (f : Framer) : HrxEvent → Framer × List Instr
  | .quiet us => if f ≠ .hunt ∧ 200 < us then (.hunt, [.interByteGapTimeout us]) else (f, [])
  | .byte b =>
    match f.receive (some b) with
    | (g, .quiet) => (g, [])
    | (g, .framingError) => (g, [.hostFramingError (.lengthByte b)])
    | (g, .complete bytes crc) => (g, [frameCommand bytes crc])
  | .badByte =>
    match f.receive none with
    | (g, .quiet) => (g, [])
    | (g, .framingError) => (g, [.hostFramingError .badByte])
    | (g, .complete bytes crc) => (g, [frameCommand bytes crc])

/-- The commands that the events on HRX give, from where the framer stands (R205, R207). -/
def Framer.commands : Framer → List HrxEvent → List Instr
  | _, [] => []
  | f, e :: es => (f.takes e).2 ++ (f.takes e).1.commands es

/-- What HRX shows puts the commands it spells into the queue, in order. A PARKED part receives nothing: the first falling edge starts
a wake, and bytes of a wake are discarded (R9, R205). -/
def State.hearHrx (line : HostLine) (s : State) : State :=
  let heard :=
    if s.mode = .parked then (if .low ∈ line ∧ s.waking = false then [Instr.wakeOnHrx] else [])
    else s.hli.framer.commands (sampleLine 0 line)
  s.setPending (s.pending ++ heard)

end Sys2Proof.Machine
end

