-- ==== Sys2Proof/Machine/HostLink.lean ====
section
/-! DEFINITION. The Host Link Interface: the inbox, the reply line and the checks of a completed frame (11_host_link.md). -/

namespace Sys2Proof.Machine

/-! ## The reply line (R208, R209) -/

/-- A reply becomes ready: it is sent at once on an idle line, and waits in order otherwise (R209). -/
def State.ready (r : Reply) (s : State) : State :=
  match s.hli.sending with
  | none => s.setHli { s.hli with sending := some r }
  | some _ => s.setHli { s.hli with waiting := s.hli.waiting ++ [r] }

/-- The slots with a slot freed, where the reply held one. -/
def freed (slots : Vector (Option InboxRequest) 4) : Option (Fin 4) → Vector (Option InboxRequest) 4
  | none => slots
  | some i => slots.set i none

/-- No reply is due: the line is idle, none waits, and no slot is held. -/
def HostLink.settled (h : HostLink) : Bool := h.sending.isNone && h.waiting.isEmpty && h.slots.all Option.isNone

/-- In PARKED the clock goes to slow running once the replies due at entry have been sent, unless a wake has begun (R8, R211). -/
def State.slowDown (s : State) : State :=
  if s.mode = .parked ∧ s.waking = false ∧ s.hli.settled = true then s.setSlowClock true else s

/-- The last byte of the reply in progress has been sent: its slot is free and the next ready reply begins (R208, R209). -/
def State.endReply (s : State) : State :=
  match s.hli.sending with
  | none => s
  | some r =>
    (s.setHli { s.hli with slots := freed s.hli.slots r.slot, sending := s.hli.waiting.head?,
                           waiting := s.hli.waiting.tail }).slowDown

/-- How many replies given BUSY without a slot wait in the reply line (R208). -/
def HostLink.busyWaiting (h : HostLink) : Nat := (h.waiting.filter (fun r => r.slot.isNone)).length

/-- Answers BUSY without a slot; the frame is discarded unanswered while 4 such replies wait (R208). -/
def State.answerBusy (tag kind : Byte) (s : State) : State :=
  if 4 ≤ s.hli.busyWaiting then s else s.ready ⟨tag, kind, [stBusy], none⟩

/-! ## The inbox (R208) -/

/-- The four slots in order. -/
def slotNumbers : List (Fin 4) := [0, 1, 2, 3]

/-- The first free inbox slot. -/
def HostLink.freeSlot (h : HostLink) : Option (Fin 4) := slotNumbers.find? (fun i => h.slots[i].isNone)

/-- How many slots hold a CONFIRMED TUNNEL SEND whose reply is still due or being sent (R208). -/
def HostLink.deferredHeld (h : HostLink) : Nat :=
  (slotNumbers.filter (fun i => match h.slots[i] with | some q => q.deferred | none => false)).length

/-- A request takes a slot (R208). -/
def State.takeSlot (i : Fin 4) (q : InboxRequest) (s : State) : State :=
  s.setHli { s.hli with slots := s.hli.slots.set i (some q) }

/-! ## Frames reaching a PARKED part (R9) -/

/-- A host frame that reaches a PARKED part wakes it and is discarded unanswered and uncounted; bytes that arrive during the
wake are discarded (R9). -/
def State.hostEdge (s : State) : State := if s.mode = .parked then s.setWaking true else s

/-! ## The checks of R207 -/

/-- What the frame's own form decides, before the owner is asked: kind, sub-operation and length (R207). -/
inductive Form where
  | unknownKind | unknownSub | badLength | good
deriving DecidableEq, Repr

/-- What the owner of the state made of a request: the new state, and the reply payload, or none when the reply is deferred. -/
structure Taken where
  state : State
  reply : Option (List Byte)

/-- A reply payload given at once. -/
def Taken.now (s : State) (payload : List Byte) : Taken := ⟨s, some payload⟩

/-- A completed frame with a good CRC (R207, R208, R209): BUSY without a slot for a third CONFIRMED TUNNEL SEND and for a full
inbox; otherwise a slot is taken and the first failing check answered, or the request is handed to the block that owns its
state. `inHalted` is set for DESCRIBE and STATUS. -/
def State.request (tag kind : Byte) (confirmed inHalted : Bool) (form : Form) (owner : Fin 4 → State → Taken) (s : State) :
    State :=
  if s.mode = .parked then s.hostEdge
  else
    let s := s.setHli { s.hli with framer := .hunt }
    if confirmed && decide (2 ≤ s.hli.deferredHeld) then s.answerBusy tag kind
    else match s.hli.freeSlot with
      | none => s.answerBusy tag kind
      | some i =>
        let s1 := s.takeSlot i ⟨tag, kind, false⟩
        match form with
        | .unknownKind => s1.ready ⟨tag, kind, [stUnknown], some i⟩
        | .unknownSub => s1.ready ⟨tag, kind, [stValue], some i⟩
        | .badLength => s1.ready ⟨tag, kind, [stLength], some i⟩
        | .good =>
          if s.mode = .halted && !inHalted then s1.ready ⟨tag, kind, [stMode], some i⟩
          else
            let t := owner i s1
            match t.reply with
            | some payload => t.state.ready ⟨tag, kind, payload, some i⟩
            | none => t.state.takeSlot i ⟨tag, kind, true⟩

/-- The form of a request whose only remaining question is its length. -/
def lengthForm (good : Bool) : Form := if good then .good else .badLength

end Sys2Proof.Machine
end

