-- ==== Sys2Proof/Machine/Nlc.lean ====
section
/-! DEFINITION. The Node Link Controller: the setpoint queue, offers and supersession, the frame in flight and its
completion, holds, node loss, and the link in PARKED and HALTED (02_driveline_node_link.md, 04_setpoint_queue_and_tunnel.md). -/

namespace Sys2Proof.Machine

/-- ABSENT or LOST: offers are not taken and readers see substitutes (R56, R67). -/
def Presence.gone : Presence → Bool
  | .absent => true
  | .lost => true
  | .present => false
  | .stale => false

/-- The HALT frames of R10: origin MODE at priority 0 (R66). -/
def Entry.isHalt (e : Entry) : Bool := e.origin == .mode && e.priority == 0

/-- Whether an entry waits, not in flight, for a target and kind. -/
def Entry.waitsFor (t : NodeAddr) (k : EntryKind) (e : Entry) : Bool := e.target == t && e.kind == k && !e.inFlight

/-- An entry's join order within the millisecond (section 4.1). -/
def nextOrder (now : Time) (q : List Entry) : Nat :=
  (q.filter (fun e => e.entryTime == now)).foldl (fun m e => max m (e.order + 1)) 0

/-- The queue with a new entry behind all of its priority and lower-numbered ones (R65). -/
def enqueue (e : Entry) : List Entry → List Entry
  | [] => [e]
  | x :: xs => if x.priority ≤ e.priority then x :: enqueue e xs else e :: x :: xs

/-! ## Starting a frame (R23, R65) -/

/-- Whether the NLC may send the entry now: not held, not already in flight. -/
def Entry.sendable (e : Entry) : Bool := !e.held && !e.inFlight

/-- The queue with its first sendable entry marked in flight. -/
def startFirst : List Entry → List Entry
  | [] => []
  | e :: es => if e.sendable then { e with inFlight := true } :: es else e :: startFirst es

/-- Starts the first unheld entry's frame, or leaves the bus idle (R23, R25). -/
def State.startFrame (s : State) : State :=
  match s.nlc.queue.find? Entry.sendable with
  | none => s.setNlc { s.nlc with tx := .idle, bus := .idle, ack := none }
  | some e =>
    s.setNlc { s.nlc with queue := startFirst s.nlc.queue, tx := .frame e.frame, bus := .busy, ack := none }

/-- Whether the NLC transmits entries: on the link, or sending the HALT frames (R23, R43). -/
def Link.sends : Link → Bool
  | .up => true
  | .halting => true
  | .leaving => false
  | .away => false
  | .silent => false

/-- An entry that joins, or is released, while the bus is idle is started at once if it is then first (R23, R65, R71). -/
def State.kick (s : State) : State :=
  if s.nlc.bus = .idle ∧ s.nlc.tx = .idle ∧ s.nlc.breakDue = false ∧ s.nlc.link.sends then s.startFrame else s

/-! ## Offers (R67, R68, R69) -/

/-- Whether an offer to a node is taken: its record is neither ABSENT nor LOST (R67). -/
def State.takes (s : State) (t : NodeAddr) : Bool := !(s.node t).presence.gone

/-- The queue after a supersession in place: payload and origin are the offer's, the attempt count clears (R68). -/
def supersede (t : NodeAddr) (k : EntryKind) (payload : List Byte) (origin : Origin) (q : List Entry) : List Entry :=
  q.map (fun e => if e.waitsFor t k then { e with payload := payload, origin := origin, attempts := 0 } else e)

/-- The entry an offer joins as (R67); HALT frames join unheld. -/
def State.newEntry (s : State) (t : NodeAddr) (k : EntryKind) (payload : List Byte) (priority : Nat) (origin : Origin)
    (reply : ReplyMode) : Entry :=
  { target := t, kind := k, payload := payload, priority := priority, origin := origin, attempts := 0,
    held := (s.node t).held && priority != 0, entryTime := s.runTime, order := nextOrder s.runTime s.nlc.queue,
    reply := reply, last := none, inFlight := false, fate := .returns }

/-- An offer: not taken for an ABSENT or LOST target; it supersedes a waiting entry of the same target and kind in place;
otherwise it joins (R67). -/
def State.offerAt (t : NodeAddr) (k : EntryKind) (payload : List Byte) (priority : Nat) (origin : Origin) (reply : ReplyMode)
    (s : State) : State :=
  if s.takes t then
    if s.nlc.queue.any (Entry.waitsFor t k) then
      s.setNlc { s.nlc with queue := supersede t k payload origin s.nlc.queue }
    else
      (s.setNlc { s.nlc with queue := enqueue (s.newEntry t k payload priority origin reply) s.nlc.queue }).kick
  else s

/-- A control offer, at the kind's own priority (R66, R67). -/
def State.offer (t : NodeAddr) (k : EntryKind) (payload : List Byte) (origin : Origin) (s : State) : State :=
  s.offerAt t k payload k.priority origin .none

/-! ## Replies of tunnel entries (R77) -/

/-- The tunnel number of an entry, 0 for a control entry. -/
def Entry.tunnelNumber (e : Entry) : Nat :=
  match e.kind with
  | .tunnel i => i.val + 1
  | .pressure => 0
  | .torque => 0
  | .command => 0
  | .force => 0

/-- The deferred reply of a CONFIRMED TUNNEL SEND becomes ready (R77, section 11.3). -/
def State.releaseReply (status : Byte) (code : Option Completion) (e : Entry) (s : State) : State :=
  match e.reply with
  | .confirmed tag slot =>
    s.ready ⟨tag, 0x10, [status, 0, byte e.tunnelNumber, byte (nodeCode e.target), codeOrNone code, ackByteOf code], some slot⟩
  | .none => s
  | .posted => s

/-- Removes the waiting entries a test picks; each CONFIRMED one releases its reply with LINKFAIL and a code (R73, R74). DESIGN CHOICE
(log 51): the replies that one event releases become ready in queue order, and ahead of the reply to the request that released them,
MODE PARK, MODE HALT or a CONFIG_SET of t_lost (R54, R73); R209 allows either order. -/
def State.dropWaiting (picks : Entry → Bool) (code : Entry → Option Completion) (s : State) : State :=
  let gone := s.nlc.queue.filter (fun e => picks e && !e.inFlight)
  let s := s.setNlc { s.nlc with queue := s.nlc.queue.filter (fun e => !(picks e && !e.inFlight)) }
  gone.foldl (fun s e => s.releaseReply stLinkFail (code e) e) s

/-! ## Leaving the link and falling silent (R42, R43) -/

/-- Whether the transmitter is idle, or has released a break and only waits for the idle bus. -/
def Tx.quiet : Tx → Bool
  | .idle => true
  | .brk .released => true
  | .brk .driving => false
  | .brk .recognised => false
  | .frame _ => false
  | .ended _ _ _ => false

/-- The NLC leaves the link for PARKED once nothing is in flight, no break is due, and the bus is idle after a break it sent; it
falls silent in HALTED once nothing is left to send and no break is due or being sent (R42, R43). -/
def State.linkCheck (s : State) : State :=
  match s.nlc.link with
  | .leaving =>
    if s.nlc.breakDue = false ∧ s.nlc.tx = .idle then s.setNlc { s.nlc with link := .away, bus := .waiting, ack := none } else s
  | .halting =>
    if s.nlc.breakDue = false ∧ s.nlc.tx.quiet = true ∧ s.nlc.queue.isEmpty = true then
      s.setNlc { s.nlc with link := .silent, tx := .idle, bus := .waiting, ack := none }
    else s
  | .up => s
  | .away => s
  | .silent => s

/-! ## Completion (R29 to R32, R69, R71, R72, R73) -/

/-- The node record after a completion (R31): last code; limited flag; held flag; miss count on the third counted failure. DESIGN CHOICE
(log 57): NAK_INVALID, and the NAK_NOT_READY that is terminal for a HALT frame, leave the limited flag as it stands, by R31's table, where
R45 describes the flag as 'last terminal ack was LIMITED'. -/
def NodeRecord.complete (c : Completion) (hold third : Bool) (r : NodeRecord) : NodeRecord :=
  { r with lastCode := some c
           limited := (match c with | .done => false | .doneLimited => true | _ => r.limited)
           held := r.held || hold
           misses := if third then satAdd max16 r.misses 1 else r.misses }

/-- The consecutive-failure counter and the break it makes due (R32). -/
def LinkController.countFailure (c : Completion) (n : LinkController) : LinkController :=
  if c.failed then { n with failures := min 8 (n.failures + 1), breakDue := n.breakDue || decide (8 ≤ n.failures + 1) }
  else if c = .done ∨ c = .doneLimited then { n with failures := 0 }
  else n

/-- Every entry to a node but HALT frames is held (R71). -/
def holdEntries (t : NodeAddr) (q : List Entry) : List Entry :=
  q.map (fun e => if e.target == t && !e.isHalt then { e with held := true } else e)

/-- The queue once the entry in flight has settled: removed, or back in its place with its attempt count and code (R72). -/
def settleQueue (remove : Bool) (attempts : Nat) (c : Completion) (q : List Entry) : List Entry :=
  if remove then q.filter (fun e => !e.inFlight)
  else q.map (fun e => if e.inFlight then { e with inFlight := false, attempts := attempts, last := some c } else e)

/-- The attempt count after a completion (R30). -/
def Entry.attemptsAfter (e : Entry) (c : Completion) : Nat := if c.failed then e.attempts + 1 else e.attempts

/-- Whether a completion is the entry's third counted failure (R30). -/
def Entry.thirdFailure (e : Entry) (c : Completion) : Bool := c.failed && decide (3 ≤ e.attemptsAfter c)

/-- Whether a completion is terminal for the entry (R29, R30): a HALT frame's NAK_NOT_READY is. -/
def Entry.terminal (e : Entry) (c : Completion) : Bool :=
  c.acked || e.thirdFailure c || (c == .nakNotReady && e.isHalt)

/-- Whether the entry sets its node's hold: NAK_NOT_READY, but for a HALT frame and an entry to a LOST node (R31, R73). The
record is looked at too: an entry that HALTED entry marked as final takes no mark of its node's later loss. -/
def Entry.holds (e : Entry) (c : Completion) (target : Presence) : Bool :=
  c == .nakNotReady && !e.isHalt && e.fate != .nodeLost && target != .lost

/-- Whether the entry leaves the queue as it settles: on a terminal code, when PARKED, HALTED or its node's loss ordained it,
or when a newer entry for the same target and kind waits (R30, R69, R73). -/
def Entry.leaves (e : Entry) (c : Completion) (q : List Entry) : Bool :=
  e.terminal c || e.fate != .returns || q.any (Entry.waitsFor e.target e.kind)

/-- The completion of the frame in flight is settled (R30, R31, R32, R72), and the bus is as given afterwards. Every completion is
written into its target's record, in every mode (R31). DEDUCED (log 36): one that settles in PARKED is written into the record that
R45 gave its values on PARKED entry, where it stands through the wake. -/
def State.settle (c : Completion) (bus : Bus) (s : State) : State :=
  match s.nlc.queue.find? (fun e => e.inFlight) with
  | none => s
  | some e =>
    let hold := e.holds c (s.node e.target).presence
    let s := s.setNode e.target ((s.node e.target).complete c hold (e.thirdFailure c))
    let s := if c = .nakInvalid then s.notify .reject (nodeCode e.target) else s
    let remove := e.leaves c s.nlc.queue
    let q := settleQueue remove (e.attemptsAfter c) c s.nlc.queue
    let q := if hold then holdEntries e.target q else q
    let n := s.nlc.countFailure c
    let s := s.setNlc { n with queue := q, tx := .idle, bus := bus }
    if remove then s.releaseReply (if c.acked then stOk else stLinkFail) (some c) e else s

/-! ## Holds and node loss (R71, R73) -/

/-- The release of a node's hold: its record's held flag and its entries' clear, and an idle bus takes the first (R71). -/
def State.releaseHold (n : NodeAddr) (s : State) : State :=
  if (s.node n).held then
    let s := s.setNode n { s.node n with held := false }
    (s.setNlc { s.nlc with queue := s.nlc.queue.map (fun e => if e.target == n then { e with held := false } else e) }).kick
  else s

/-- A node's record has entered LOST: its waiting entries go, its hold ends, and an entry in flight will not return (R73). -/
def State.nodeLostQueue (n : NodeAddr) (s : State) : State :=
  let s := s.dropWaiting (fun e => e.target == n) (fun e => e.last)
  let s := s.setNode n { s.node n with held := false }
  (s.setNlc { s.nlc with queue := s.nlc.queue.map (fun e =>
    if e.target == n && e.inFlight && e.fate == .returns then { e with fate := .nodeLost } else e) }).linkCheck

/-! ## PARKED and HALTED (R8, R10, R74) -/

/-- PARKED or HALTED entry takes the return from an entry in flight (R30); one whose node has entered LOST keeps that mark, since
its NAK_NOT_READY sets no hold (R73), also where PARKED entry has made the record ABSENT. -/
def Fate.withoutRetry : Fate → Fate
  | .returns => .final
  | .final => .final
  | .nodeLost => .nodeLost

/-- The entry in flight completes without retry and is then removed (R30). -/
def lastAttempt (q : List Entry) : List Entry :=
  q.map (fun e => if e.inFlight then { e with fate := e.fate.withoutRetry } else e)

/-- Entry to PARKED empties the queue but for the entry in flight; the NLC leaves the link once that has completed and no
break is due or being sent (R8, R42). -/
def State.parkLink (s : State) : State :=
  let s := s.dropWaiting (fun _ => true) (fun _ => some .aborted)
  (s.setNlc { s.nlc with queue := lastAttempt s.nlc.queue, link := .leaving }).linkCheck

/-- Offers a HALT frame at priority 0 (R10). -/
def State.offerHalt (t : NodeAddr) (k : EntryKind) (payload : List Byte) (s : State) : State :=
  s.offerAt t k payload 0 .mode .none

/-- Entry to HALTED: queued entries go, the entry in flight completes without retry, and the HALT frames are queued (R10). -/
def State.haltLink (s : State) : State :=
  let s := s.dropWaiting (fun _ => true) (fun _ => some .aborted)
  let s := s.setNlc { s.nlc with queue := lastAttempt s.nlc.queue, link := .halting }
  let s := s.offerHalt .inv .torque (torquePayload 0)
  let s := s.offerHalt .eng .command stopPayload
  let s := s.offerHalt .bkf .pressure releasePayload
  let s := s.offerHalt .bkr .pressure releasePayload
  s.linkCheck

/-- The end of a wake: an empty queue, no break due, and the receiver starting by the 9-bit rule (R9, R42). DEDUCED (log 16):
when the wake ends before the link has been left, an entry still in flight is removed as by PARKED, and a break still due is
dropped while the consecutive-failure counter stands. -/
def State.rejoinLink (s : State) : State :=
  let left := s.nlc.queue
  let s := s.setNlc { s.nlc with queue := [], tx := .idle, bus := .waiting, link := .up, breakDue := false, ack := none }
  left.foldl (fun s e => s.releaseReply stLinkFail (some .aborted) e) s

/-! ## Wake-on-node (R9, R42) -/

/-- Whether the NLC receives: everywhere but off the link and on the silent link (R22, R42, R43). DEDUCED (log 15): while it
leaves the link in PARKED it goes on receiving, acknowledging and counting noise, and through a wake that begins then, although
R22 names PARKED and the wake as modes without a noise count. -/
def Link.receives : Link → Bool
  | .up => true
  | .leaving => true
  | .halting => true
  | .away => false
  | .silent => false

/-- A dominant level on NRX wakes a PARKED part that has left the link, when P40 bit 10 is set (R9, R42). -/
def State.nodeEdge (s : State) : State :=
  if s.mode = .parked ∧ s.nlc.link = .away ∧ Nat.testBit (s.par .attention) 10 = true then s.setWaking true else s

/-- A level that is dominant past the moment at which the NLC leaves the link wakes the part, as one that becomes dominant later does
(R9, R42; log 14). -/
def State.levelAfter (dominant : Bool) (s : State) : State := if dominant then s.nodeEdge else s

/-- An event on the node link: taken while the NLC receives, else only a dominant level that may wake the part. -/
def State.onLink (act : State → State) (s : State) : State := if s.nlc.link.receives then act s else s.nodeEdge

end Sys2Proof.Machine
end

