-- ==== Sys2Proof/Machine/Limits.lean ====
section
/-! DEFINITION. The Node Table as its readers see it, with the substitutes of R56, and the electric limit set
(03_node_table_and_electric_limits.md sections 3.4 and 3.7). -/

namespace Sys2Proof.Machine

/-! ## Substitutes (R56) -/

/-- The charge limit P_chg readers see (R56). -/
def NodeTable.chargeSeen (t : NodeTable) : Nat :=
  if t.bat.presence.gone then 0 else (t.batReport.map BatReport.pChg).getD 0

/-- The discharge limit P_dis readers see (R56). -/
def NodeTable.dischargeSeen (t : NodeTable) : Nat :=
  if t.bat.presence.gone then 0 else (t.batReport.map BatReport.pDis).getD 0

/-- The SOC readers see: the stored value, held; none if no report is stored (R56). -/
def NodeTable.socSeen (t : NodeTable) : Option Nat := t.batReport.map BatReport.soc

/-- The drive torque limit readers see (R56). -/
def NodeTable.driveTorqueSeen (t : NodeTable) : Nat :=
  if t.inv.presence.gone then 0 else (t.invReport.map InvReport.tMot).getD 0

/-- The recovery torque limit readers see (R56). -/
def NodeTable.recoveryTorqueSeen (t : NodeTable) : Nat :=
  if t.inv.presence.gone then 0 else (t.invReport.map InvReport.tGen).getD 0

/-- The engine state readers see (R56). -/
def NodeTable.engineSeen (t : NodeTable) : EngineReported :=
  if t.eng.presence.gone then .fault else (t.engReport.map EngReport.engine).getD .fault

/-- The available wheel force readers see (R56). -/
def NodeTable.wheelForceSeen (t : NodeTable) : Nat :=
  if t.eng.presence.gone then 0 else (t.engReport.map EngReport.force).getD 0

/-- The coolant temperature: not named by R56, so the stored value; none if no report is stored. -/
def NodeTable.coolantSeen (t : NodeTable) : Option Int := t.engReport.map EngReport.coolant

/-- A brake record's SLIP as readers see it (R56). -/
def slipOf (r : NodeRecord) (b : Option BrkReport) : Bool :=
  if r.presence.gone then true else (b.map (fun x => x.flags.slip)).getD true

/-- Whether either brake record shows SLIP (R56). -/
def NodeTable.slipSeen (t : NodeTable) : Bool := slipOf t.bkf t.bkfReport || slipOf t.bkr t.bkrReport

/-- A brake record's pad temperatures, left and right, none where not available (R56). -/
def padsOf (r : NodeRecord) (b : Option BrkReport) : Option Int × Option Int :=
  if r.presence.gone then (none, none) else (b.map BrkReport.padLeft, b.map BrkReport.padRight)

/-! ## The electric limit set (R61, R62) -/

/-- The derate D of a BATTERY wear state (R62). -/
def derateOf : WearState → Nat
  | .ok => 256
  | .warn => 192
  | .unknown => 192
  | .limit => 128

/-- A wear item. -/
def State.wearItem (s : State) (k : WearKind) : WearItem := s.wear.items[Fin.ofNat 6 k.code]

/-- The derate D as it stands. -/
def State.derate (s : State) : Nat := derateOf (s.wearItem .battery).state

/-- P_chg_eff (R61). -/
def State.chargePower (s : State) : Nat := s.nodes.chargeSeen * s.derate / 256

/-- P_dis_eff (R61). -/
def State.dischargePower (s : State) : Nat := s.nodes.dischargeSeen * s.derate / 256

end Sys2Proof.Machine
end

