-- ==== Sys2Proof/Machine/Blend.lean ====
section
/-! DEFINITION. The two computations as pure functions: the eight stages of a blend (05_brake_blending.md section 5.3) and
the five stages of a split (07_propulsion_split.md section 7.3). -/

namespace Sys2Proof.Machine

/-! ## Stages shared by blend and split -/

/-- The wheel force of a motor torque: floor(T × G × 10 ÷ r) (R90, R94, R127). -/
def wheelForce (g r torque : Nat) : Nat := torque * g * 10 / r

/-- The motor torque of a wheel force: floor(F × r ÷ (G × 10)) (R94, R133). -/
def motorTorque (g r force : Nat) : Nat := force * r / (g * 10)

/-- The battery bound of recovery, F_bat: below 0.5 m/s no quotient is formed (R91). -/
def batteryBound (eta v pAcc : Nat) : Nat := if v < 50 then fCap else min fCap (pAcc * 256 * 100 / (eta * v))

/-- The fade factor f (R92). -/
def fadeFactor (vLo vHi v : Nat) : Nat :=
  if vHi ≤ v then 256 else if v ≤ vLo then 0 else 256 * (v - vLo) / (vHi - vLo)

/-! ## Inputs of a blend (section 5.3) -/

/-- The inputs a blend reads once, at its start (R88). `nodeLost` is set when the INV or the BAT record is LOST, `slip` when
the slip-hold is active or a brake record reads SLIP set. -/
structure BlendInputs where
  mass : Nat
  brake : Nat
  speed : Nat
  pAux : Nat
  reverse : Bool
  charge : Nat
  tGen : Nat
  level : Level
  factor : Nat
  front : WearState
  rear : WearState
  nodeLost : Bool
  slip : Bool
  held : Bool
  prev : Nat
deriving DecidableEq, Repr

/-- Why F_restr is forced to 0, the first reason in the chain of R100 (R93). -/
inductive Forcing where
  | none | zero | abs | safeStop
deriving DecidableEq, Repr

/-- The forcing of stage 5 (R93). -/
def BlendInputs.forcing (i : BlendInputs) : Forcing :=
  if i.held || i.reverse || i.nodeLost then .zero
  else if i.slip then .abs
  else if i.level = .safeStop then .safeStop
  else .none

/-! ## Stages 1 to 6 -/

/-- Stage 1: F_dem (R89). -/
def BlendInputs.fDem (i : BlendInputs) : Nat := i.mass * i.brake / 100

/-- Stage 2: F_mot (R90). -/
def BlendInputs.fMot (p : Params) (i : BlendInputs) : Nat := wheelForce (getParam p .gearG) (getParam p .wheelR) i.tGen

/-- Stage 3: F_bat (R91). -/
def BlendInputs.fBat (p : Params) (i : BlendInputs) : Nat := batteryBound (getParam p .eta) i.speed (i.charge + i.pAux)

/-- Stage 4: the fade factor f (R92). -/
def BlendInputs.fade (p : Params) (i : BlendInputs) : Nat := fadeFactor (getParam p .vLo) (getParam p .vHi) i.speed

/-- Stage 4: F_fade (R92). -/
def BlendInputs.fFade (p : Params) (i : BlendInputs) : Nat := min (i.fMot p) (i.fBat p) * i.fade p / 256

/-- Stage 5: F_restr (R93). -/
def BlendInputs.fRestr (p : Params) (i : BlendInputs) : Nat :=
  if i.forcing = .none then i.fFade p * i.factor / 256 else 0

/-- Stage 6: the stability bound (R94). -/
def BlendInputs.fStab (p : Params) (i : BlendInputs) : Nat := i.fDem * getParam p .qReg / 256

/-- Stage 6: the ramp bound (R94). -/
def BlendInputs.fRamp (p : Params) (i : BlendInputs) : Nat := i.prev + getParam p .rampUp

/-- Stage 6: the candidate, the least of the four bounds (R94). -/
def BlendInputs.fCand (p : Params) (i : BlendInputs) : Nat :=
  min (min i.fDem (i.fStab p)) (min (i.fRamp p) (i.fRestr p))

/-- Stage 6: the whole inverter torque T_reg (R94). -/
def BlendInputs.tReg (p : Params) (i : BlendInputs) : Nat := motorTorque (getParam p .gearG) (getParam p .wheelR) (i.fCand p)

/-- Stage 6: F_reg, the force the inverter delivers at T_reg (R94). -/
def BlendInputs.fReg (p : Params) (i : BlendInputs) : Nat := wheelForce (getParam p .gearG) (getParam p .wheelR) (i.tReg p)

/-! ## Stages 7 and 8 -/

/-- The order of wear states on an axle: OK < WARN = UNKNOWN < LIMIT (R96). -/
def wearRank : WearState → Nat
  | .ok => 0
  | .warn => 1
  | .unknown => 1
  | .limit => 2

/-- The worse of an axle's two sides (R96). -/
def worse (a b : WearState) : WearState := if wearRank a < wearRank b then b else a

/-- The front share q_f, held within 90..140 (R96). -/
def frontShare (qFront qShift : Nat) (front rear : WearState) : Nat :=
  let q := if wearRank rear < wearRank front then qFront - qShift
           else if wearRank front < wearRank rear then qFront + qShift
           else qFront
  max 90 (min 140 q)

/-- Friction force (R96). -/
def BlendInputs.fFriction (p : Params) (i : BlendInputs) : Nat := i.fDem - i.fReg p

/-- Stage 7: the front axle's force (R96). -/
def BlendInputs.fFront (p : Params) (i : BlendInputs) : Nat :=
  min (i.fFriction p) (i.fDem * frontShare (getParam p .qFront) (getParam p .qShift) i.front i.rear / 256)

/-- Stage 7: the rear axle's force (R96). -/
def BlendInputs.fRear (p : Params) (i : BlendInputs) : Nat := i.fFriction p - i.fFront p

/-- Division rounded up. -/
def ceilDiv (n d : Nat) : Nat := (n + (d - 1)) / d

/-- Stage 8: an axle's pressure (R97). -/
def axlePressure (pMax k force : Nat) : Nat := min pMax (ceilDiv force k)

/-- Stage 8: an axle's shortfall (R97). -/
def axleShort (pMax k force : Nat) : Nat := force - min force (pMax * k)

/-! ## The limiting term and the result -/

/-- The chain of R100 where F_cand equals F_restr. -/
def BlendInputs.chainTerm (p : Params) (i : BlendInputs) : LimitTerm :=
  if i.forcing = .zero then .zero
  else if i.forcing = .abs then .abs
  else if i.factor < 256 ∨ i.level = .safeStop then .restriction
  else if i.fade p < 256 ∧ i.fFade p < min (i.fMot p) (i.fBat p) then .fade
  else if i.fBat p ≤ i.fMot p then .battery
  else .motor

/-- The limiting term (R100). -/
def BlendInputs.term (p : Params) (i : BlendInputs) : LimitTerm :=
  if i.fCand p = i.fDem then .demand
  else if i.fCand p = i.fStab p then .stability
  else if i.fCand p = i.fRamp p then .ramp
  else i.chainTerm p

/-- The blend result (section 5.1). -/
def BlendInputs.result (p : Params) (trigger : BlendTrigger) (i : BlendInputs) : BlendResult :=
  { trigger := trigger, fDem := i.fDem, fReg := i.fReg p, tReg := i.tReg p, fFront := i.fFront p, fRear := i.fRear p,
    pFront := axlePressure (getParam p .pMax) (getParam p .kFront) (i.fFront p),
    pRear := axlePressure (getParam p .pMax) (getParam p .kRear) (i.fRear p),
    shortFront := axleShort (getParam p .pMax) (getParam p .kFront) (i.fFront p),
    shortRear := axleShort (getParam p .pMax) (getParam p .kRear) (i.fRear p), term := i.term p }

/-- Whether an axle falls short (R99). -/
def BlendResult.short (r : BlendResult) : Bool := decide (0 < r.shortFront) || decide (0 < r.shortRear)

/-- The detail of FRICTION_SATURATED: 1 front, 2 rear, 3 both (R99). -/
def BlendResult.shortDetail (r : BlendResult) : Nat := bit (decide (0 < r.shortFront)) + 2 * bit (decide (0 < r.shortRear))

/-! ## Inputs of a split (section 7.3) -/

/-- The inputs a demand split reads once, at its start (R125). -/
structure SplitInputs where
  traction : Nat
  speed : Nat
  pAux : Nat
  reverse : Bool
  tMot : Nat
  discharge : Nat
  tGen : Nat
  charge : Nat
  level : Level
  factor : Nat
  machine : EngineState
  force : Nat
  soc : Option Nat
deriving DecidableEq, Repr

/-- Stage 1: F_req of a demand split (R126). -/
def SplitInputs.fReq (p : Params) (i : SplitInputs) : Nat :=
  match i.level with
  | .safeStop => 0
  | .limp => min i.traction (getParam p .fLimp)
  | .none => i.traction
  | .note => i.traction
  | .derate => i.traction

/-- Stage 2: the motor bound F_mot_d (R127). -/
def SplitInputs.fMotD (p : Params) (i : SplitInputs) : Nat := wheelForce (getParam p .gearG) (getParam p .wheelR) i.tMot

/-- Stage 2: P_avail (R127). -/
def SplitInputs.pAvail (i : SplitInputs) : Nat := i.discharge - i.pAux

/-- Stage 2: the battery bound F_bat_d (R127). -/
def SplitInputs.fBatD (p : Params) (i : SplitInputs) : Nat :=
  if i.speed < 50 then fCap else min fCap (i.pAvail * getParam p .eta * 100 / (256 * i.speed))

/-- Stage 2: F_e_cap (R127). -/
def SplitInputs.fECap (p : Params) (i : SplitInputs) : Nat := min (i.fMotD p) (i.fBatD p) * i.factor / 256

/-- Stage 3: F_eng_cap (R128). -/
def SplitInputs.fEngCap (p : Params) (i : SplitInputs) : Nat :=
  if i.reverse then 0
  else match i.machine with
    | .run => i.force
    | .warmup => i.force * getParam p .warmCap / 256
    | .off => 0
    | .cranking => 0
    | .retryWait => 0
    | .cooldown => 0
    | .stopping => 0
    | .fault => 0

/-- Whether charge-sustaining is active (R129). -/
def SplitInputs.sustaining (p : Params) (i : SplitInputs) : Bool :=
  i.machine == .run && (match i.soc with | some soc => decide (soc < getParam p .socTarget) | none => false) &&
    decide (100 ≤ i.speed) && i.level != .safeStop && !i.reverse

/-- Stage 4: F_e (R130). -/
def SplitInputs.fE (p : Params) (i : SplitInputs) : Nat :=
  if i.sustaining p then min (i.fReq p - min (i.fReq p) (i.fEngCap p)) (i.fECap p) else min (i.fReq p) (i.fECap p)

/-- Stage 4: F_eng (R130). -/
def SplitInputs.fEng (p : Params) (i : SplitInputs) : Nat :=
  if i.sustaining p then min (i.fReq p) (i.fEngCap p) else min (i.fReq p - i.fE p) (i.fEngCap p)

/-- Stage 4: F_short (R130). -/
def SplitInputs.fShort (p : Params) (i : SplitInputs) : Nat := i.fReq p - i.fE p - i.fEng p

/-- Stage 4: the recovery bound F_gen (R131). -/
def SplitInputs.fGen (p : Params) (i : SplitInputs) : Nat :=
  min (wheelForce (getParam p .gearG) (getParam p .wheelR) i.tGen) (batteryBound (getParam p .eta) i.speed (i.charge + i.pAux))

/-- Stage 4: the charge-sustaining force F_cs (R130, R131). -/
def SplitInputs.fCs (p : Params) (i : SplitInputs) : Nat :=
  if i.sustaining p && i.fE p == 0 then
    min (getParam p .pCs * 100 / i.speed) (min (i.fEngCap p - i.fEng p) (i.fGen p))
  else 0

/-- Stage 5: T_inv, its magnitude rounded toward 0 (R133). -/
def SplitInputs.tInv (p : Params) (i : SplitInputs) : Int :=
  if i.fCs p ≤ i.fE p then (motorTorque (getParam p .gearG) (getParam p .wheelR) (i.fE p - i.fCs p) : Int)
  else -(motorTorque (getParam p .gearG) (getParam p .wheelR) (i.fCs p - i.fE p) : Int)

/-- The split result (section 7.1). -/
def SplitInputs.result (p : Params) (i : SplitInputs) : SplitResult :=
  { fReq := i.fReq p, fECap := i.fECap p, fE := i.fE p, fEng := i.fEng p, fCs := i.fCs p, fShort := i.fShort p,
    tInv := i.tInv p, engForce := (i.fEng p + i.fCs p) / 10 }

end Sys2Proof.Machine
end

