-- ==== Sys2Proof/Machine/FaultMonitor.lean ====
section
/-! DEFINITION. The Fault Monitor: raises and ends of cause, and the requests FAULT_CLEAR, RESPONSE_SET and FAULTS
(10_faults_restrictions_and_notices.md). -/

namespace Sys2Proof.Machine

/-! ## Raises and ends of cause (R191 to R196) -/

/-- Notice RESTRICTION when the effective level or k has changed (R196). -/
def State.noteRestriction (s before : State) : State :=
  if s.level = before.level ∧ s.factor = before.factor then s else s.notify .restriction s.level.code

/-- A new entry: it copies the response table as it stands (R192). -/
def FaultUnit.newEntry (f : FaultUnit) (k : FaultKind) (detail : Nat) (now : Time) : ActiveFault :=
  { kind := k, level := (f.response k).level, factor := (f.response k).factor, firstRaise := now, count := 1,
    detail := detail, causePresent := true }

/-- An entry raised again: its count goes up to 255, the detail is replaced, the cause is present (R192). -/
def ActiveFault.again (detail : Nat) (e : ActiveFault) : ActiveFault :=
  { e with count := satAdd 255 e.count 1, detail := detail, causePresent := true }

/-- The list after a raise (R192). -/
def FaultUnit.addRaise (f : FaultUnit) (k : FaultKind) (detail : Nat) (now : Time) : FaultUnit :=
  match f.entry k with
  | none => { f with active := f.active ++ [f.newEntry k detail now] }
  | some _ => { f with active := f.active.map (fun e => if e.kind = k then e.again detail else e) }

/-- The list without a kind's entry (R193, R198). -/
def FaultUnit.remove (f : FaultUnit) (k : FaultKind) : FaultUnit :=
  { f with active := f.active.filter (fun e => !(e.kind == k)) }

/-- The list with a kind's cause-present flag cleared (R193). -/
def FaultUnit.dropCause (f : FaultUnit) (k : FaultKind) : FaultUnit :=
  { f with active := f.active.map (fun e => if e.kind = k then { e with causePresent := false } else e) }

/-- A raise as the Fault Monitor takes it; in HALTED it is discarded (R192, R200). The hand-on of a change to SAFE_STOP
(R196) is in `State.raise`. -/
def State.raiseCore (k : FaultKind) (detail : Nat) (s : State) : State :=
  if s.mode = .halted then s
  else ((s.setFaults (s.faults.addRaise k detail s.runTime)).notify .faultRaised k.code).noteRestriction s

/-- The removal of a kind's entry, with notice FAULT_CLEARED and, if the restriction changed, RESTRICTION (R193, R198). -/
def State.removeFault (k : FaultKind) (s : State) : State :=
  ((s.setFaults (s.faults.remove k)).notify .faultCleared k.code).noteRestriction s

/-- An end of cause: a SELF entry goes, a LATCHED one keeps its place with the flag clear; in HALTED it is discarded
(R193, R200). -/
def State.endCause (k : FaultKind) (s : State) : State :=
  if s.mode = .halted then s
  else match s.faults.entry k with
    | none => s
    | some _ => if k.latched then s.setFaults (s.faults.dropCause k) else s.removeFault k

/-- Ends the causes of several kinds, in order. -/
def State.endCauses (ks : List FaultKind) (s : State) : State := ks.foldl (fun s k => s.endCause k) s

/-- Whether a raise or removal took the effective level to SAFE_STOP, the change handed to the BBU and the ESC (R196). -/
def becameSafeStop (before after : State) : Bool := before.level != .safeStop && after.level == .safeStop

/-! ## FAULT_CLEAR (R198) -/

/-- The FAULT_CLEAR reply: status, kind code, entries left, effective level, k (R198). -/
def State.faultClearReply (s : State) (status kind : Byte) : List Byte :=
  [status, kind, byte s.faults.active.length, byte s.level.code] ++ be16 s.factor

/-- FAULT_CLEAR (R198). -/
def State.takeFaultClear (data : List Byte) (s : State) : Taken :=
  let kind := byteAt data 0
  match faultOfCode kind.toNat with
  | none => .now s (s.faultClearReply stValue kind)
  | some k =>
    match s.faults.entry k with
    | none => .now s (s.faultClearReply stOk kind)
    | some e =>
      if k.latched && !e.causePresent then
        let s := s.removeFault k
        .now s (s.faultClearReply stOk kind)
      else .now s (s.faultClearReply stActive kind)

/-! ## RESPONSE_SET (R190) -/

/-- The class code of a kind (R199). -/
def FaultKind.classCode (k : FaultKind) : Nat := bit k.latched

/-- A response table entry as FAULTS page 1 and RESPONSE_SET send it: level, factor, minimum level, class (R190, R199). -/
def FaultUnit.entryBytes (f : FaultUnit) (k : FaultKind) : List Byte :=
  [byte (f.response k).level.code, byte (f.response k).factor, byte k.minLevel.code, byte k.classCode]

/-- The RESPONSE_SET reply: status, kind code, and what the entry now holds; a kind the table lacks has zeros. DESIGN CHOICE
(log 33). -/
def State.responseReply (s : State) (status kind : Byte) : List Byte :=
  match faultOfCode kind.toNat with
  | none => [status, kind, 0, 0, 0, 0]
  | some k => status :: kind :: s.faults.entryBytes k

/-- The entry a RESPONSE_SET leaves: the level raised to the kind's minimum, the factor held to 64..255 (R190). -/
def clampResponse (k : FaultKind) (level : Level) (factor : Nat) : Response := ⟨k.minLevel.max level, max 64 (min 255 factor)⟩

/-- RESPONSE_SET (R190). -/
def State.takeResponseSet (data : List Byte) (s : State) : Taken :=
  let kind := byteAt data 0
  let factor := (byteAt data 2).toNat
  if s.mode ≠ .standby then .now s (s.responseReply stMode kind)
  else if s.hli.access ≠ .service then .now s (s.responseReply stLevel kind)
  else match faultOfCode kind.toNat, levelOfCode (byteAt data 1).toNat with
    | some k, some level =>
      if (s.faults.entry k).isSome then .now s (s.responseReply stActive kind)
      else
        let r := clampResponse k level factor
        let s := s.setFaults (s.faults.setResponse k r)
        .now s (s.responseReply (okOrClamped (r.level != level || r.factor != factor)) kind)
    | none, _ => .now s (s.responseReply stValue kind)
    | some _, none => .now s (s.responseReply stValue kind)

/-! ## FAULTS (R199) -/

/-- An entry of FAULTS page 0 (R199). -/
def ActiveFault.encode (e : ActiveFault) : List Byte :=
  [byte e.kind.code, byte e.level.code, byte e.factor] ++ be32 e.firstRaise.toNat ++
    [byte e.count, byte e.detail, byte (bit e.causePresent + 2 * e.kind.classCode)]

/-- FAULTS page 0: the active fault list (R199). -/
def State.faultsPage0 (s : State) : List Byte :=
  [stOk, byte s.level.code] ++ be16 s.factor ++ [byte s.faults.active.length] ++ s.faults.active.flatMap ActiveFault.encode

/-- FAULTS page 1: the response table (R199). -/
def State.faultsPage1 (s : State) : List Byte :=
  stOk :: allFaultKinds.flatMap (fun k => byte k.code :: s.faults.entryBytes k)

/-- FAULTS: page 0, page 1; a page above 1 is answered VALUE, with the status alone (R199; log 34). -/
def State.takeFaults (page : Byte) (s : State) : Taken :=
  if page = 0 then .now s s.faultsPage0 else if page = 1 then .now s s.faultsPage1 else .now s [stValue]

/-! ## NOTICES (R203) -/

/-- The pending slots as NOTICES sends them, in code order (R203). -/
def noticeBytes (ns : Vector NoticeSlot 10) : List Byte :=
  (noticeCodes.filter (fun i => ns[i].pending)).flatMap (fun i => [byte i.val, byte ns[i].count, byte ns[i].detail])

/-- How many slots are pending. -/
def pendingKinds (ns : Vector NoticeSlot 10) : Nat := (noticeCodes.filter (fun i => ns[i].pending)).length

/-- NOTICES returns the pending slots and clears every slot (R203). -/
def State.takeNotices (s : State) : Taken :=
  .now (s.setNotices noNotices)
    ([stOk] ++ be16 (s.par .attention % 1024) ++ [byte (pendingKinds s.notices)] ++ noticeBytes s.notices)

end Sys2Proof.Machine
end

