-- ==== Sys2Proof/Machine/Wear.lean ====
section
/-! DEFINITION. The Wear Accounting Unit and the wear store (09_wear_accounting_and_the_wear_store.md). -/

namespace Sys2Proof.Machine

/-- The six items in code order. -/
def allWear : List WearKind := [.padFL, .padFR, .padRL, .padRR, .battery, .starts]

/-- The state with a wear item replaced. -/
def State.setWearItem (k : WearKind) (w : WearItem) (s : State) : State :=
  s.setWear { s.wear with items := s.wear.items.set (Fin.ofNat 6 k.code) w }

/-! ## Thresholds and states (R166, R167, R168) -/

/-- The parameter of an item's warn threshold (R168). -/
def WearKind.warnParam : WearKind → Param
  | .padFL | .padFR | .padRL | .padRR => .padWarn
  | .battery => .batteryWarn
  | .starts => .startsWarn

/-- The parameter of an item's limit threshold (R168). -/
def WearKind.limitParam : WearKind → Param
  | .padFL | .padFR | .padRL | .padRR => .padLimit
  | .battery => .batteryLimit
  | .starts => .startsLimit

/-- The state a value gives against its thresholds: limit first, then warn (R166). -/
def wearStateOf (warn limit value : Nat) : WearState :=
  if limit ≤ value then .limit else if warn ≤ value then .warn else .ok

/-- The state an item's value gives against its thresholds as they stand. -/
def State.wearStateFor (s : State) (k : WearKind) (value : Nat) : WearState :=
  wearStateOf (s.par k.warnParam) (s.par k.limitParam) value

/-- An item takes new contents, with notice WEAR if its state changed (R167). -/
def State.putWear (k : WearKind) (w : WearItem) (s : State) : State :=
  if (s.wearItem k).state = w.state then s.setWearItem k w else (s.setWearItem k w).notify .wear k.code

/-- The state an item takes as its value changes: UNKNOWN stays (R166). -/
def State.refound (s : State) (k : WearKind) (w : WearItem) : WearItem :=
  if w.state = .unknown then w else { w with state := s.wearStateFor k w.value }

/-- An item's value and remainder change; the state is found again (R166, R167). -/
def State.accrue (k : WearKind) (value remainder : Nat) (s : State) : State :=
  s.putWear k (s.refound k { s.wearItem k with value := value, remainder := remainder })

/-- Weighted energy joins an item's remainder; each whole unit taken out adds 1 to the value (R170, R171). -/
def State.addEnergy (k : WearKind) (unit amount : Nat) (s : State) : State :=
  let r := (s.wearItem k).remainder + amount
  s.accrue k (satAdd max32 (s.wearItem k).value (r / unit)) (r % unit)

/-- A change of any threshold finds all six states again (R168). DESIGN CHOICE (log 45): in code order, where R168 gives none; it
shows in the detail of notice WEAR. -/
def State.recheckWear (s : State) : State := allWear.foldl (fun s k => s.putWear k (s.refound k (s.wearItem k))) s

/-! ## Accumulation (R169 to R173) -/

/-- The weight of a pad temperature (R170): T2 is compared first. -/
def padWeight (t1 t2 : Nat) : Option Int → Nat
  | none => 4
  | some t => if (t2 : Int) ≤ t then 4 else if (t1 : Int) ≤ t then 2 else 1

/-- One axle's whole joules, shared between its sides and weighted: the odd joule goes left (R169, R170). -/
def State.padAxle (left right : WearKind) (temps : Option Int × Option Int) (joules : Nat) (s : State) : State :=
  let w := padWeight (s.par .tempT1) (s.par .tempT2)
  (s.addEnergy left 10000 ((joules + 1) / 2 * w temps.1)).addEnergy right 10000 (joules / 2 * w temps.2)

/-- The BBU's hand-on of friction energy (R169). DESIGN CHOICE (log 45): FL, FR, RL, RR in this order, where R169 gives none; it
shows in the detail of notice WEAR. -/
def State.padWear (front rear : Nat) (s : State) : State :=
  let s := s.padAxle .padFL .padFR (padsOf s.nodes.bkf s.nodes.bkfReport) front
  s.padAxle .padRL .padRR (padsOf s.nodes.bkr s.nodes.bkrReport) rear

/-- The weight of a battery step (R171). -/
def batteryWeight (soc : Nat) (temp : Int) : Nat :=
  (if soc < 250 ∨ 850 < soc then 2 else 1) * (if 45 ≤ temp then 2 else 1)

/-- The battery step of a fresh BAT report, with the ms since the previous one (R171). -/
def State.batteryWear (r : BatReport) (since : Nat) (s : State) : State :=
  s.addEnergy .battery 100000000 (r.power.natAbs * min since (s.par .tStale) * batteryWeight r.soc r.temp)

/-- The starts increment of an ENG COMMAND START taken into the queue (R159, R173): 3 with the coolant below 40 °C, else 1. -/
def startsIncrement (coolant : Option Int) : Nat :=
  match coolant with
  | some t => if t < 40 then 3 else 1
  | none => 1

/-- The STARTS item takes an increment (R173). -/
def State.startWear (s : State) : State :=
  s.accrue .starts (satAdd max32 (s.wearItem .starts).value (startsIncrement s.nodes.coolantSeen)) (s.wearItem .starts).remainder

/-! ## The image (R180) -/

/-- Bytes 0 to 39 of the image: values, reset counts, generation. -/
def imageHead (items : Vector WearItem 6) (generation : BitVec 32) : List Byte :=
  items.toList.flatMap (fun w => be32 w.value) ++ items.toList.flatMap (fun w => be16 w.resets) ++ be32 generation.toNat

/-- The whole image: bytes 0 to 39 and their CRC-32. -/
def imageOf (items : Vector WearItem 6) (generation : BitVec 32) : List Byte :=
  imageHead items generation ++ be32 (crc32 (imageHead items generation)).toNat

/-- An image is good when it has its 44 bytes and the CRC over bytes 0 to 39 equals bytes 40 to 43 (R180). -/
def goodImage (bs : List Byte) : Bool :=
  bs.length == 44 && unsigned (field bs 40 4) == (crc32 (bs.take 40)).toNat

/-- The image a load finds good, if any; a store never written, or left bad by a cut-off save, reads as bad (R180, R188). -/
def StoreContents.goodBytes : StoreContents → Option (List Byte)
  | .neverWritten => none
  | .cutOff => none
  | .image bs => if goodImage bs then some bs else none

/-! ## Saving (R183, R184, R185) -/

/-- No trigger. -/
def Triggers.none : Triggers := ⟨false, false, false⟩

/-- The union of two saves' triggers (R185). -/
def Triggers.merge (a b : Triggers) : Triggers :=
  ⟨a.reset || b.reset, a.shutdown || b.shutdown, a.periodic || b.periodic⟩

/-- A save starts: snapshot of the values and reset counts, the next generation, the image (R184). DESIGN CHOICE (log 44): the
generation that follows 4294967295 is 0, where R184 states none. -/
def WearUnit.startSave (t : Triggers) (w : WearUnit) : WearUnit :=
  { w with generation := w.generation + 1, save := some ⟨t, imageOf w.items (w.generation + 1)⟩ }

/-- A trigger begins a save, or is merged into the pending one (R185). -/
def WearUnit.trigger (t : Triggers) (w : WearUnit) : WearUnit :=
  if w.save.isNone ∧ w.load ≠ .inFlight then w.startSave t
  else { w with waiting := some ((w.waiting.getD .none).merge t) }

/-- The pending save begins, if there is one (R184, R185). -/
def WearUnit.beginWaiting (w : WearUnit) : WearUnit :=
  match w.waiting with
  | none => w
  | some t => { w with waiting := none }.startSave t

/-- A save trigger is handed to the WAU (R183). -/
def State.saveTrigger (t : Triggers) (s : State) : State := s.setWear (s.wear.trigger t)

/-- What a reset or power loss leaves in the store: untouched when no save is in flight, else as the command says (R188). -/
def WearUnit.cutStore (cut : WriteCut) (w : WearUnit) : StoreContents :=
  match w.save with
  | none => w.store
  | some job =>
    match cut with
    | .keptOld => w.store
    | .wroteNew => .image job.image
    | .leftBad => .cutOff

/-! ## The load (R181, R182) -/

/-- An item once a good image has been loaded (R181). -/
def State.loadedItem (s : State) (bs : List Byte) (k : WearKind) : WearItem :=
  let w := s.wearItem k
  let value := satAdd max32 (unsigned (field bs (4 * k.code) 4)) w.value
  { w with value := value, resets := unsigned (field bs (24 + 2 * k.code) 2), state := s.wearStateFor k value }

/-- The completion of a load that found a good image; it sets no notice WEAR (R181). -/
def State.loadGood (bs : List Byte) (s : State) : State :=
  let s := allWear.foldl (fun s k => s.setWearItem k (s.loadedItem bs k)) s
  s.setWear { s.wear with generation := BitVec.ofNat 32 (unsigned (field bs 36 4)), load := .good }

/-- The completion of a load that found a bad image, but for the raise of STORE_BAD (R182). -/
def State.loadBad (s : State) : State := s.setWear { s.wear with load := .bad }

/-! ## The completion of a save (R184) -/

/-- Whether the store reads back the image written. -/
def SaveJob.verified (job : SaveJob) (readBack : Option (List Byte)) : Bool :=
  match readBack with
  | none => true
  | some bs => bs == job.image

/-- The store after a save: what it reads back. -/
def SaveJob.written (job : SaveJob) (readBack : Option (List Byte)) : StoreContents := .image (readBack.getD job.image)

/-- A save completes: result and notice STORE, then IDLE, then the pending save begins (R184, R185). -/
def State.endSave (job : SaveJob) (readBack : Option (List Byte)) (s : State) : State :=
  let ok := job.verified readBack
  let s := s.setWear { s.wear with lastSave := if ok then .pass else .fail, save := none, store := job.written readBack }
  let s := s.notify .store (if ok then 0 else 1)
  s.setWear s.wear.beginWaiting

/-! ## WEAR_READ (R175) -/

/-- One item of WEAR_READ (section 11.3). -/
def State.wearBytes (s : State) (k : WearKind) : List Byte :=
  let w := s.wearItem k
  be32 w.value ++ [w.state.code] ++ be16 w.resets ++ be32 (s.par k.warnParam) ++ be32 (s.par k.limitParam)

/-- The save state byte: bit 7 SAVING, bits 0 to 2 the triggers carried (section 11.3). -/
def saveByte : Option SaveJob → Byte
  | none => 0
  | some job => byte (128 + job.triggers.bits)

/-- The pending save byte (section 11.3). -/
def waitingByte (t : Option Triggers) : Byte := byte ((t.map Triggers.bits).getD 0)

/-- WEAR_READ (R175). -/
def State.takeWearRead (s : State) : Taken :=
  .now s ([stOk] ++ allWear.flatMap s.wearBytes ++
    [s.wear.load.code, saveByte s.wear.save, waitingByte s.wear.waiting] ++ be32 s.wear.generation.toNat ++
    [s.wear.lastSave.code])

/-! ## WEAR_RESET (R176, R177, R178) -/

/-- The long WEAR_RESET reply: status, item code, value, state, reset count (section 11.3). -/
def State.wearResetReply (s : State) (status : Byte) (k : WearKind) : List Byte :=
  let w := s.wearItem k
  [status, byte k.code] ++ be32 w.value ++ [w.state.code] ++ be16 w.resets

/-- Whether some item is UNKNOWN (R182). -/
def State.anyUnknown (s : State) : Bool := allWear.any (fun k => (s.wearItem k).state == .unknown)

/-- An accepted WEAR_RESET: value, remainder, state, reset count, notice, trigger RESET, and the end of STORE_BAD's cause when
no item is UNKNOWN (R178, R182). -/
def State.resetWear (k : WearKind) (value : Nat) (s : State) : State :=
  let s := s.putWear k { value := value, remainder := 0, state := s.wearStateFor k value, resets := satAdd max16 (s.wearItem k).resets 1 }
  let s := s.saveTrigger ⟨true, false, false⟩
  if s.anyUnknown then s else s.endCause .storeBad

/-- WEAR_RESET (R176, R177, R178). -/
def State.takeWearReset (data : List Byte) (s : State) : Taken :=
  let item := byteAt data 0
  if s.mode ≠ .standby then .now s [stMode, item]
  else if s.hli.access ≠ .service then .now s [stLevel, item]
  else match wearOfCode item.toNat with
    | none => .now s [stValue, item]
    | some k =>
      if s.wear.load = .inFlight then .now s [stBusy, item]
      else if (s.wearItem k).value ≠ unsigned (field data 1 4) then .now s (s.wearResetReply stMismatch k)
      else
        let s := s.resetWear k (unsigned (field data 5 4))
        .now s (s.wearResetReply stOk k)

end Sys2Proof.Machine
end

