-- ==== Sys2Proof/Machine/Engine.lean ====
section
/-! DEFINITION. The Engine Start Controller: entries to its states, stop causes, start causes and the pre-start schedule
(08_engine_start_stop_control.md). What raises a fault kind (R147, R152) and the reports are in EngineEvents.lean. -/

namespace Sys2Proof.Machine

/-! ## Changes of the machine state (R140) -/

/-- ENGINE_WAIT ends: the WAU is given the shutdown trigger and progress becomes SAVING (R6). -/
def State.endEngineWait (s : State) : State := (s.setProgress .saving).saveTrigger ⟨false, true, false⟩

/-- Whether a change to a machine state ends ENGINE_WAIT (R6). -/
def State.waitsForEngine (s : State) (m : EngineState) : Bool :=
  s.mode == .shutdown && s.progress == .engineWait && (m == .off || m == .fault)

/-- The machine state changes: notice ENGINE (R140), the off-dwell starts from 0 on entry to OFF, the causes of CRANK_FAIL and
STOP_FAIL end as FAULT is left (R154), and ENGINE_WAIT ends at OFF or FAULT (R6). -/
def State.setEngine (m : EngineState) (s : State) : State :=
  let old := s.esc.machine
  if old = m then s
  else
    let s := s.setEsc { s.esc with machine := m, offDwell := if m = .off then 0 else s.esc.offDwell }
    let s := s.notify .engine m.code
    let s := if old = .fault then s.endCauses [.crankFail, .stopFail] else s
    if s.waitsForEngine m then s.endEngineWait else s

/-- The ESC offers ENG FORCE 0 (R142, R143, R151, R152). -/
def State.offerNoForce (s : State) : State := s.offer .eng .force (forcePayload 0) .engine

/-- The ESC offers ENG COMMAND STOP (R152). -/
def State.offerStop (s : State) : State := s.offer .eng .command stopPayload .engine

/-- The ESC offers ENG COMMAND START, and hands the WAU the increment when the offer is taken (R145, R147, R159). -/
def State.offerStart (s : State) : State :=
  let taken := s.takes .eng
  let s := s.offer .eng .command startPayload .engine
  if taken then s.startWear else s

/-- Whether the engine is in service: WARMUP or RUN. -/
def EngineState.inService : EngineState → Bool
  | .warmup => true
  | .run => true
  | .off => false
  | .cranking => false
  | .retryWait => false
  | .cooldown => false
  | .stopping => false
  | .fault => false

/-- Entry to STOPPING (R152). -/
def State.enterStopping (s : State) : State :=
  let s := if s.esc.machine.inService then s.offerNoForce else s
  let s := (s.setEsc { s.esc with cooldownTimer := none, crankTimer := none, restTimer := none }).offerStop
  (s.setEsc { s.esc with stopTimer := some (s.par .tStop), stopExpiries := 0 }).setEngine .stopping

/-- Entry to COOLDOWN with a stop cause (R151); a t_cool of 0 passes straight on into STOPPING (R152). -/
def State.enterCooldown (c : StopCause) (s : State) : State :=
  let s := s.offerNoForce
  let s := s.setEsc { s.esc with stopCause := some c, cooldownTimer := some (s.par .tCool * 1000) }
  let s := s.setEngine .cooldown
  if s.par .tCool = 0 then s.enterStopping else s

/-- A crank is abandoned (R151). -/
def State.abandonCrank (c : StopCause) (s : State) : State :=
  (s.setEsc { s.esc with crankCause := none, stopCause := some c }).enterStopping

/-- Entry to CRANKING (R145). -/
def State.enterCranking (c : CrankCause) (s : State) : State :=
  let s := s.offerStart
  let s := s.setEsc { s.esc with attempts := 1, crankCause := some c, crankTimer := some (s.par .tCrank), schedule := none,
                                 latch := none, stopCause := none }
  s.setEngine .cranking

/-! ## Stop causes (R150, R151) -/

/-- A stop cause while the engine is in service (R151); AUTO arises in RUN only. -/
def State.stopRunning (c : StopCause) (immediate : Bool) (s : State) : State :=
  if c = .host ∧ immediate = true then (s.setEsc { s.esc with stopCause := some .host }).enterStopping
  else s.enterCooldown c

/-- A stop cause during a crank: an override crank goes on through a zone entry (R151). -/
def State.stopCranking (c : StopCause) (s : State) : State :=
  match c with
  | .host => s.abandonCrank .host
  | .mode => s.abandonCrank .mode
  | .shutdown => s.abandonCrank .shutdown
  | .safe => s.abandonCrank .safe
  | .zone => if s.esc.crankCause = some .hostOverride then s else s.abandonCrank .zone
  | .auto => s

/-- A stop cause in COOLDOWN (R151). -/
def State.stopCooling (c : StopCause) (immediate : Bool) (s : State) : State :=
  match c with
  | .zone => s.setEsc { s.esc with stopCause := some .zone }
  | .mode => s.setEsc { s.esc with stopCause := some .mode }
  | .shutdown => s.setEsc { s.esc with stopCause := some .shutdown }
  | .safe => s.setEsc { s.esc with stopCause := some .safe }
  | .host => if immediate then (s.setEsc { s.esc with stopCause := some .host }).enterStopping else s
  | .auto => s

/-- A stop cause in STOPPING: recorded; the latch clears, except a latch with OVERRIDE at a zone entry (R151). -/
def State.stopStopping (c : StopCause) (s : State) : State :=
  s.setEsc { s.esc with stopCause := some c, latch := if c = .zone ∧ s.esc.latch = some true then some true else none }

/-- A stop cause acts by the machine state (R151). -/
def State.stopCause (c : StopCause) (immediate : Bool) (s : State) : State :=
  match s.esc.machine with
  | .warmup => s.stopRunning c immediate
  | .run => s.stopRunning c immediate
  | .cranking => s.stopCranking c
  | .retryWait => s.stopCranking c
  | .cooldown => s.stopCooling c immediate
  | .stopping => s.stopStopping c
  | .off => s
  | .fault => s

/-- Stop cause SAFE, when the Demand Unit is in STANDSTILL as the level reaches SAFE_STOP (R150, R196). -/
def State.safeCause (s : State) : State := if s.demand.motion = .standstill then s.stopCause .safe false else s

/-! ## Start causes (R144) -/

/-- Whether SOC_LOW stands (R144). -/
def State.socLow (s : State) : Bool :=
  s.esc.auto && (match s.nodes.socSeen with | some soc => decide (soc < s.par .socStart) | none => false)

/-- Whether DEMAND stands (R144): read from the PSU's value as it stands (log 21). -/
def State.demandStands (s : State) : Bool := s.esc.auto && decide (s.par .tDem * 1000 ≤ s.psu.above)

/-- Whether SCHEDULED stands (R144). -/
def State.scheduledStands (s : State) : Bool :=
  match s.esc.schedule with
  | some sch => sch.phase == .due
  | none => false

/-- The first standing cause (R144). -/
def State.standingCause (s : State) : Option CrankCause :=
  if s.socLow then some .socLow else if s.demandStands then some .demand else if s.scheduledStands then some .scheduled else none

/-- ENG is PRESENT with READY set in its last stored report (R144, R148). -/
def State.engReady (s : State) : Bool :=
  s.nodes.eng.presence == .present && (match s.nodes.engReport with | some r => r.flags.ready | none => false)

/-- The off-dwell asked for, ms: t_off_min, doubled while STARTS is WARN or UNKNOWN (R144). -/
def State.dwellNeeded (s : State) : Nat :=
  let base := s.par .tOffMin * 1000
  match (s.wearItem .starts).state with
  | .warn => 2 * base
  | .unknown => 2 * base
  | .ok => base
  | .limit => base

/-- The conditions of an auto or scheduled start (R144). -/
def State.startAllowed (s : State) : Bool :=
  s.mode == .ready && s.engReady && s.level != .safeStop && !s.demand.zone && decide (s.dwellNeeded ≤ s.esc.offDwell)

/-- Whether the present stop cause lets the engine return from COOLDOWN (R151). -/
def StopCause.returnable : Option StopCause → Bool
  | some .auto => true
  | some .host => true
  | some .zone => false
  | some .mode => false
  | some .shutdown => false
  | some .safe => false
  | none => false

/-- The engine returns to service from COOLDOWN (R151). -/
def State.returnToRun (s : State) : State :=
  (s.setEsc { s.esc with cooldownTimer := none, stopCause := none }).setEngine .run

/-- Whether an auto cause returns the engine from COOLDOWN (R151). -/
def State.autoReturns (s : State) : Bool :=
  (s.socLow || s.demandStands) && StopCause.returnable s.esc.stopCause && s.level != .safeStop && s.mode == .ready &&
    !s.demand.zone

/-- An evaluation point (R144, R151). -/
def State.evaluateStart (s : State) : State :=
  match s.esc.machine with
  | .off =>
    match s.standingCause with
    | some c => if s.startAllowed then s.enterCranking c else s
    | none => s
  | .cooldown => if s.autoReturns then s.returnToRun else s
  | .cranking => s
  | .retryWait => s
  | .warmup => s
  | .run => s
  | .stopping => s
  | .fault => s

/-- Whether stop cause AUTO arises on a hand-on (R150). -/
def State.autoStops (s : State) : Bool :=
  s.esc.machine == .run && s.esc.auto && decide (s.par .tElec * 1000 ≤ s.psu.sufficient) &&
    (s.wearItem .starts).state != .limit

/-- The PSU hands on its elapsed values (R137): an evaluation point (R144), and stop cause AUTO (R150). -/
def State.elapsedHandOn (s : State) : State :=
  let s := s.evaluateStart
  if s.autoStops then s.stopCause .auto false else s

/-! ## The pre-start schedule (R160, R161, R162) -/

/-- The phase two counts give (R160). -/
def phaseOf (stops distance : Nat) : SchedulePhase :=
  if 0 < stops then .countStops else if 0 < distance then .countDistance else .due

/-- The schedule becomes DUE: it is cleared unless the machine is OFF; the entry to DUE is an evaluation point, in COOLDOWN as in
OFF (R144, R151, R162). -/
def State.scheduleDue (s : State) : State :=
  (if s.esc.machine = .off then s else s.setEsc { s.esc with schedule := none }).evaluateStart

/-- The schedule takes new contents, and acts if it has become DUE. -/
def State.putSchedule (sch : Schedule) (s : State) : State :=
  let s := s.setEsc { s.esc with schedule := some sch }
  if sch.phase = .due then s.scheduleDue else s

/-- A passenger stop reaches the schedule (R161). -/
def State.scheduleStop (s : State) : State :=
  match s.esc.schedule with
  | none => s
  | some sch =>
    if sch.phase = .countStops then
      s.putSchedule ⟨phaseOf (sch.stops - 1) sch.distance, sch.stops - 1, sch.distance⟩
    else s

/-- Whole metres reach the schedule (R161). -/
def State.scheduleMetres (n : Nat) (s : State) : State :=
  match s.esc.schedule with
  | none => s
  | some sch =>
    if sch.phase = .countDistance ∧ 0 < n then
      s.putSchedule ⟨phaseOf 0 (sch.distance - n), sch.stops, sch.distance - n⟩
    else s

end Sys2Proof.Machine
end

