-- ==== Sys2Proof/Machine/EventLog.lean ====
section
/-! DEFINITION. The Event Log: opening, feeding and closing braking events, the ring, and EVENTS
(06_braking_event_log.md). -/

namespace Sys2Proof.Machine

/-! ## Blends as the BBU hands them (R103) -/

/-- What the BBU hands the Event Log with a blend: the blend's term and whether an axle fell short, whether it is a cut and a
slip cut, v and a, and the whole joules (R103). -/
structure FedBlend where
  term : LimitTerm
  short : Bool
  cut : Bool
  slipCut : Bool
  speed : Nat
  brake : Nat
  regJoules : Nat
  frontJoules : Nat
  rearJoules : Nat
deriving DecidableEq, Repr

/-- An empty tally. -/
def noTally : Vector Nat 9 := #v[0, 0, 0, 0, 0, 0, 0, 0, 0]

/-- A term's place in the tally; NONE is never tallied, since every blend has a term (R100, R113). -/
def tallyIndex (t : LimitTerm) : Fin 9 := Fin.ofNat 9 (t.code - 1)

/-- The tally counts a term once, up to 4294967295 (R107, R109). -/
def countTerm (t : LimitTerm) (tally : Vector Nat 9) : Vector Nat 9 :=
  tally.set (tallyIndex t) (satAdd max32 tally[tallyIndex t] 1)

/-- A 48-bit energy sum gains whole joules; past 48 bits its value is free (R107, R109; log 39). -/
def addJoules (sum : BitVec 48) (joules : Nat) : BitVec 48 :=
  if sum.toNat + joules < 2 ^ 48 then BitVec.ofNat 48 (sum.toNat + joules) else Config.energySumPast48 (sum.toNat + joules)

/-- An event opens on a demand blend with v above 0 (R108). -/
def openEvent (now : Time) (b : FedBlend) : OpenEvent :=
  { startTime := now, startSpeed := b.speed, peak := b.brake, regJoules := addJoules 0 b.regJoules,
    frontJoules := addJoules 0 b.frontJoules, rearJoules := addJoules 0 b.rearJoules, tally := countTerm b.term noTally,
    shortfall := b.short, slip := none }

/-- A slip cut acts on the slip accumulator (R110). -/
def feedSlip (speed : Nat) : Option (Nat × Nat) → Option (Nat × Nat)
  | none => some (speed, 1)
  | some (v, n) => some (v, satAdd 255 n 1)

/-- A blend feeds the open event (R109, R110). -/
def OpenEvent.feed (b : FedBlend) (e : OpenEvent) : OpenEvent :=
  { e with peak := max e.peak b.brake, regJoules := addJoules e.regJoules b.regJoules,
           frontJoules := addJoules e.frontJoules b.frontJoules, rearJoules := addJoules e.rearJoules b.rearJoules,
           tally := countTerm b.term e.tally, shortfall := e.shortfall || b.short,
           slip := if b.slipCut then feedSlip b.speed e.slip else e.slip }

/-- The slot after a blend: fed, opened, or left empty (R108, R109). -/
def EventLog.take (now : Time) (b : FedBlend) (l : EventLog) : EventLog :=
  match l.current with
  | some e => { l with current := some (e.feed b) }
  | none => if b.cut || b.speed == 0 then l else { l with current := some (openEvent now b) }

/-- The BBU hands on a demand blend or a cut re-blend (R103). -/
def State.logBlend (b : FedBlend) (s : State) : State := s.setLog (s.log.take s.runTime b)

/-! ## Closing (R111, R112, R113) -/

/-- The order in which equal counts are decided (R113). -/
def dominanceOrder : List LimitTerm :=
  [.abs, .zero, .restriction, .fade, .battery, .motor, .stability, .ramp, .demand]

/-- The term with the highest count, the earliest in the order among equals (R113). -/
def dominantTerm (tally : Vector Nat 9) : LimitTerm :=
  dominanceOrder.foldl (fun best t => if best = .none ∨ tally[tallyIndex best] < tally[tallyIndex t] then t else best) .none

/-- The closed record (R112). -/
def closedRecord (seq : BitVec 32) (now : Time) (speed : Nat) (reason : EndReason) (e : OpenEvent) : EventRecord :=
  { seq := seq, startSpeed := e.startSpeed, endSpeed := speed, duration := now - e.startTime, peak := e.peak,
    regKj := min max32 (e.regJoules.toNat / 1000), frontKj := min max32 (e.frontJoules.toNat / 1000),
    rearKj := min max32 (e.rearJoules.toNat / 1000), reason := reason, term := dominantTerm e.tally, shortfall := e.shortfall,
    slip := e.slip }

/-- How many records the ring holds at most (R114). -/
def ringSize : Nat := 32

/-- A record enters the ring: when 32 are held the oldest goes and is counted (R114). -/
def EventLog.enter (r : EventRecord) (l : EventLog) : EventLog :=
  if l.ring.length < ringSize then { l with ring := l.ring ++ [r], next := l.next + 1, current := none }
  else { l with ring := l.ring.tail ++ [r], next := l.next + 1, overwritten := l.overwritten + 1, current := none }

/-- A closing condition: the open event, if any, is closed and notice EVENT set with the low byte of its number (R111, R115). -/
def State.closeEvent (reason : EndReason) (s : State) : State :=
  match s.log.current with
  | none => s
  | some e =>
    let s1 := s.setLog (s.log.enter (closedRecord s.log.next s.runTime s.demand.record.speed reason e))
    s1.notify .event (s.log.next.toNat % 256)

/-! ## EVENTS (R116, R117) -/

/-- A record as EVENTS sends it (R116). -/
def EventRecord.encode (r : EventRecord) : List Byte :=
  be32 r.seq.toNat ++ be16 r.startSpeed ++ be16 r.endSpeed ++ be32 r.duration.toNat ++ be16 r.peak ++ be32 r.regKj ++
    be32 r.frontKj ++ be32 r.rearKj ++
    [r.reason.code, byte r.term.code, byte (bit r.shortfall + 2 * bit r.slip.isSome)] ++
    be16 ((r.slip.map Prod.fst).getD 0) ++ [byte ((r.slip.map Prod.snd).getD 0)]

/-- The oldest sequence number held, or the next one when the ring is empty (R116). -/
def EventLog.oldest (l : EventLog) : BitVec 32 := (l.ring.head?.map EventRecord.seq).getD l.next

/-- The records an EVENTS request returns, and whether its start was clamped (R117). -/
def EventLog.select (l : EventLog) (start : BitVec 32) : List EventRecord × Bool :=
  let ahead := (start - l.oldest).toNat
  let behind := (l.oldest - start).toNat
  if l.ring.isEmpty then ([], false)
  else if ahead < l.ring.length then ((l.ring.drop ahead).take 4, false)
  else if 1 ≤ behind ∧ behind ≤ 2147483648 then (l.ring.take 4, true)
  else ([], false)

/-- EVENTS (R116, R117). -/
def State.takeEvents (data : List Byte) (s : State) : Taken :=
  let l := s.log
  let found := l.select (BitVec.ofNat 32 (unsigned data))
  .now s ([okOrClamped found.2, byte found.1.length] ++ be32 l.oldest.toNat ++ be32 l.next.toNat ++ be32 l.overwritten.toNat ++
    [byte (bit l.current.isSome)] ++ found.1.flatMap EventRecord.encode)

end Sys2Proof.Machine
end

