-- ==== Sys2Proof/Machine/Brake.lean ====
section
/-! DEFINITION. The Brake Blend Unit: the blends and what they hand on, leaving braking, slip reports (05_brake_blending.md),
and a raise with the hand-on of SAFE_STOP (R196). -/

namespace Sys2Proof.Machine

/-! ## Inputs (R88, R93) -/

/-- Whether a node's record is LOST. -/
def State.lost (s : State) (n : NodeAddr) : Bool := (s.node n).presence == .lost

/-- The inputs of a blend as they stand (R88). -/
def State.blendInputs (s : State) (held : Bool) : BlendInputs :=
  { mass := s.demand.record.mass, brake := s.demand.record.brake, speed := s.demand.record.speed,
    pAux := s.demand.record.pAux, reverse := s.demand.record.reverse, charge := s.chargePower,
    tGen := s.nodes.recoveryTorqueSeen, level := s.level, factor := s.factor,
    front := worse (s.wearItem .padFL).state (s.wearItem .padFR).state,
    rear := worse (s.wearItem .padRL).state (s.wearItem .padRR).state,
    nodeLost := s.lost .inv || s.lost .bat, slip := s.bbu.slipHold.isSome || s.nodes.slipSeen, held := held,
    prev := s.bbu.prev }

/-! ## Raises that the BBU and the ESC hear of (R196) -/

/-- A raise, and if it took the effective level to SAFE_STOP, the change handed to the BBU and then to the ESC (R196). -/
def State.raiseWith (cut : State → State) (k : FaultKind) (detail : Nat) (s : State) : State :=
  let s' := s.raiseCore k detail
  if becameSafeStop s s' then (cut s').safeCause else s'

/-! ## What a blend hands on (R99 to R103) -/

/-- The three setpoints of a blend, in order (R101). -/
def State.offerBlend (r : BlendResult) (s : State) : State :=
  let s := s.offer .bkf .pressure (controlPayload r.pFront) .blend
  let s := s.offer .bkr .pressure (controlPayload r.pRear) .blend
  s.offer .inv .torque (torquePayload (-(r.tReg : Int))) .blend

/-- Units of 0.00001 J in a joule, and of 0.00001 m in a metre (R18, R102). -/
def unitsPerWhole : Nat := 100000

/-- The whole joules a blend delivers: recovered, front, rear (R102). -/
structure Joules where
  reg : Nat
  front : Nat
  rear : Nat
deriving DecidableEq, Repr

/-- The energy sums of a blend, remainder and new energy, in units of 0.00001 J (R102). -/
def BrakeUnit.energies (b : BrakeUnit) (r : BlendResult) (v dt : Nat) : Joules :=
  { reg := b.remReg + r.fReg * v * dt, front := b.remFront + (r.fFront - r.shortFront) * v * dt,
    rear := b.remRear + (r.fRear - r.shortRear) * v * dt }

/-- The joules taken out of the sums (R102). -/
def Joules.whole (e : Joules) : Joules := ⟨e.reg / unitsPerWhole, e.front / unitsPerWhole, e.rear / unitsPerWhole⟩

/-- The BBU after a blend: result, F_reg_prev, braking flag, energy remainders (R83, R94, R101, R102). -/
def BrakeUnit.blended (r : BlendResult) (e : Joules) (b : BrakeUnit) : BrakeUnit :=
  { b with prev := r.fReg, result := r, braking := true, remReg := e.reg % unitsPerWhole,
           remFront := e.front % unitsPerWhole, remRear := e.rear % unitsPerWhole }

/-- A shortfall raises FRICTION_SATURATED; a blend without one ends the cause if it was set (R99). -/
def State.saturation (cut : State → State) (r : BlendResult) (s : State) : State :=
  if r.short then (s.setBbu { s.bbu with saturated := true }).raiseWith cut .frictionSaturated r.shortDetail
  else if s.bbu.saturated then (s.setBbu { s.bbu with saturated := false }).endCause .frictionSaturated
  else s

/-- What the Event Log is handed with a blend (R103). -/
def fedBlend (r : BlendResult) (slipCut : Bool) (v a : Nat) (j : Joules) : FedBlend :=
  { term := r.term, short := r.short, cut := r.trigger == .cut, slipCut := slipCut, speed := v, brake := a,
    regJoules := j.reg, frontJoules := j.front, rearJoules := j.rear }

/-- A blend with its result: state, offers, wear, event feed (but for a held blend), saturation (R99 to R103; log 18). -/
def State.applyBlend (cut : State → State) (slipCut : Bool) (dt : Nat) (r : BlendResult) (s : State) : State :=
  let v := s.demand.record.speed
  let e := s.bbu.energies r v dt
  let s := (s.setBbu (s.bbu.blended r e)).offerBlend r
  let s := s.padWear e.whole.front e.whole.rear
  let s := if r.trigger = .held then s else s.logBlend (fedBlend r slipCut v s.demand.record.brake e.whole)
  s.saturation cut r

/-- The result a blend of a trigger gives on the state as it stands (section 5.3). -/
def State.blendResult (s : State) (trigger : BlendTrigger) : BlendResult :=
  (s.blendInputs (trigger == .held)).result s.params trigger

/-- A cut re-blend, while F_reg_prev is above 0 in READY (R86). A raise inside it finds F_reg_prev at 0. -/
def State.cutReblend (slipCut : Bool) (s : State) : State :=
  if s.mode = .ready ∧ 0 < s.bbu.prev then s.applyBlend id slipCut 0 (s.blendResult .cut) else s

/-- A held blend, where the record's brake request is above 0 (R84). -/
def State.heldBlend (s : State) : State :=
  if 0 < s.demand.record.brake then s.applyBlend (State.cutReblend false) false (s.par .tFresh) (s.blendResult .held) else s

/-- A demand blend with its time step (R82). -/
def State.demandBlend (dt : Nat) (s : State) : State := s.applyBlend (State.cutReblend false) false dt (s.blendResult .demand)

/-- A raise of a fault kind (R192, R196). -/
def State.raise (k : FaultKind) (detail : Nat) (s : State) : State := s.raiseWith (State.cutReblend false) k detail

/-! ## Leaving braking (R83) -/

/-- Leaving braking, with the end reason of the open event (R83). -/
def State.leaveBraking (reason : EndReason) (s : State) : State :=
  let s := (s.setBbu { s.bbu with prev := 0 }).closeEvent reason
  let s := if s.bbu.saturated then (s.setBbu { s.bbu with saturated := false }).endCause .frictionSaturated else s
  s.setBbu { s.bbu with result := .initial, braking := false }

/-! ## Slip reports (R85, R86) -/

/-- A slip report; the frozen BBU of HALTED discards it (R85). -/
def State.slipReport (s : State) : State :=
  if s.mode = .halted then s
  else (s.setBbu { s.bbu with lastSlip := some s.runTime, slipHold := some (s.par .tSlip) }).cutReblend true

/-- A change of t_slip sets a running timer to expire t_slip after the last slip time (R85). -/
def State.retimeSlip (s : State) : State :=
  match s.bbu.slipHold, s.bbu.lastSlip with
  | some _, some t =>
    let gone := elapsed s.runTime t
    s.setBbu { s.bbu with slipHold := if s.par .tSlip ≤ gone then none else some (s.par .tSlip - gone) }
  | some _, none => s
  | none, _ => s

/-! ## The zone reserve watch (R197) -/

/-- The reserve watch examines the SOC; in HALTED the mark moves too, and the raise or end of cause it hands on is discarded
(R197, R200). -/
def State.reserveWatch (s : State) : State :=
  match s.nodes.socSeen with
  | none => s
  | some soc =>
    if s.demand.zone = false then s
    else if s.faults.reserve then
      if s.par .socReserve + 20 ≤ soc then (s.setFaults { s.faults with reserve := false }).endCause .zoneReserve else s
    else if soc < s.par .socReserve then (s.setFaults { s.faults with reserve := true }).raise .zoneReserve (soc / 10)
    else s

/-- The watch ends: the mark clears and the cause of ZONE_RESERVE ends (R197). -/
def State.endReserve (s : State) : State := (s.setFaults { s.faults with reserve := false }).endCause .zoneReserve

end Sys2Proof.Machine
end

