-- ==== Sys2Proof/Machine/Propulsion.lean ====
section
/-! DEFINITION. The Propulsion Split Unit: demand split, braking hand-on, held split and the elapsed values
(07_propulsion_split.md). -/

namespace Sys2Proof.Machine

/-- The inputs of a demand split as they stand (R125). -/
def State.splitInputs (s : State) : SplitInputs :=
  { traction := s.demand.record.traction, speed := s.demand.record.speed, pAux := s.demand.record.pAux,
    reverse := s.demand.record.reverse, tMot := s.nodes.driveTorqueSeen, discharge := s.dischargePower,
    tGen := s.nodes.recoveryTorqueSeen, charge := s.chargePower, level := s.level, factor := s.factor,
    machine := s.esc.machine, force := s.nodes.wheelForceSeen, soc := s.nodes.socSeen }

/-- An elapsed value after a time step: it grows while its condition holds, and is 0 when it fails (R136). -/
def elapsedAfter (holds : Bool) (n dt : Nat) : Nat := if holds then satAdd max32 n dt else 0

/-- Whether the electric-sufficient condition holds (R136). -/
def State.sufficient (s : State) : Bool :=
  decide (s.psu.result.fReq ≤ s.psu.result.fECap) &&
    (match s.nodes.socSeen with | some soc => decide (s.par .socStop ≤ soc) | none => false)

/-- Both elapsed values are updated from the result just left, and handed to the ESC (R136, R137). -/
def State.updateElapsed (dt : Nat) (s : State) : State :=
  (s.setPsu { s.psu with above := elapsedAfter (decide (s.psu.result.fECap < s.psu.result.fReq)) s.psu.above dt,
                         sufficient := elapsedAfter s.sufficient s.psu.sufficient dt }).elapsedHandOn

/-- The split result is replaced whole (R122, R123, R134). -/
def State.setSplit (r : SplitResult) (s : State) : State := s.setPsu { s.psu with result := r }

/-- The PSU offers INV TORQUE (R134). -/
def State.offerTorque (t : Int) (s : State) : State := s.offer .inv .torque (torquePayload t) .split

/-- The PSU offers ENG FORCE (R134). -/
def State.offerForce (units : Nat) (s : State) : State := s.offer .eng .force (forcePayload units) .split

/-- A demand split (R121, R134). -/
def State.demandSplit (dt : Nat) (s : State) : State :=
  let r := s.splitInputs.result s.params
  (((s.setSplit r).offerTorque r.tInv).offerForce r.engForce).updateElapsed dt

/-- The braking hand-on after a demand blend (R122). -/
def State.brakingHandOn (dt : Nat) (s : State) : State := ((s.setSplit .initial).offerForce 0).updateElapsed dt

/-- A held split (R123). -/
def State.heldSplit (s : State) : State :=
  let s := s.setSplit .initial
  let s := if s.demand.record.brake = 0 then s.offerTorque 0 else s
  (s.offerForce 0).updateElapsed (s.par .tFresh)

/-- Leaving READY returns the PSU to its reset values (R120). -/
def State.resetSplit (s : State) : State := s.setPsu .initial

end Sys2Proof.Machine
end

