-- ==== Sys2Proof/Machine/EngineEvents.lean ====
section
/-! DEFINITION. What reaches the engine machine: ENG reports, the loss of ENG, its timers, ENGINE and ROUTE requests
(08_engine_start_stop_control.md; R19). -/

namespace Sys2Proof.Machine

/-! ## ENG reports (R141, R142, R146, R147, R149, R153) -/

/-- WARMUP below T_warm, RUN otherwise (R141, R146). -/
def State.runningState (s : State) (coolant : Int) : EngineState := if coolant < (s.par .tWarm : Int) then .warmup else .run

/-- A start succeeds (R146). -/
def State.startSucceeds (coolant : Int) (s : State) : State :=
  (s.setEsc { s.esc with crankTimer := none, restTimer := none, crankCause := none }).setEngine (s.runningState coolant)

/-- A crank attempt fails (R147). -/
def State.attemptFails (s : State) : State :=
  if s.esc.attempts < 3 then
    (s.setEsc { s.esc with crankTimer := none, restTimer := some (s.par .tRest) }).setEngine .retryWait
  else
    ((s.setEsc { s.esc with crankTimer := none, crankCause := none }).setEngine .fault).raise .crankFail s.esc.attempts

/-- A stall outside STOPPING: the cooldown timer stops, the stop cause and the latch clear (R142). -/
def State.stall (s : State) : State :=
  let s := if s.esc.machine.inService then s.offerNoForce else s
  (s.setEsc { s.esc with cooldownTimer := none, stopCause := none, latch := none }).setEngine .off

/-- A report of FAULT outside cranking: the running timer stops (R142); the stop cause and the latch clear (log 20). -/
def State.reportedEngineFault (s : State) : State :=
  let s := if s.esc.machine.inService then s.offerNoForce else s
  (s.setEsc { s.esc with cooldownTimer := none, stopTimer := none, stopCause := none, latch := none }).setEngine .fault

/-- Whether a latched start may be taken at OFF (R153). -/
def State.latchAllowed (s : State) (override : Bool) : Bool :=
  s.mode == .ready && s.level != .safeStop && (!s.demand.zone || override) && s.engReady

/-- The crank cause of a HOST START (R145). -/
def hostCause (override : Bool) : CrankCause := if override then .hostOverride else .host

/-- The stop ends: OFF, then the latched start or the evaluation of the causes (R153). -/
def State.stopEnds (s : State) : State :=
  let latch := s.esc.latch
  let s := (s.setEsc { s.esc with stopTimer := none, stopCause := none, latch := none }).setEngine .off
  match latch with
  | some override => if s.latchAllowed override then s.enterCranking (hostCause override) else s
  | none => s.evaluateStart

/-- Whether an ENG report is adopted: the first one, giving RUNNING, with the machine OFF, in STANDBY or READY (R141). -/
def State.adopts (s : State) (r : EngReport) : Bool :=
  s.esc.window && r.engine == .running && s.esc.machine == .off && (s.mode == .standby || s.mode == .ready)

/-- An ENG report in WARMUP (R142, R149). -/
def State.reportInWarmup (r : EngReport) (s : State) : State :=
  match r.engine with
  | .off => s.stall
  | .fault => s.reportedEngineFault
  | .running => if (s.par .tWarm : Int) ≤ r.coolant then s.setEngine .run else s
  | .cranking => s
  | .stopping => s

/-- An ENG report in RUN or COOLDOWN (R142). -/
def State.reportInRun (r : EngReport) (s : State) : State :=
  match r.engine with
  | .off => s.stall
  | .fault => s.reportedEngineFault
  | .running => s
  | .cranking => s
  | .stopping => s

/-- An ENG report in STOPPING (R142, R153). -/
def State.reportInStopping (r : EngReport) (s : State) : State :=
  match r.engine with
  | .off => s.stopEnds
  | .fault => s.reportedEngineFault
  | .running => s
  | .cranking => s
  | .stopping => s

/-- An ENG report in CRANKING (R146, R147). -/
def State.reportInCranking (r : EngReport) (s : State) : State :=
  match r.engine with
  | .running => s.startSucceeds r.coolant
  | .fault => s.attemptFails
  | .off => s
  | .cranking => s
  | .stopping => s

/-- An ENG report in RETRY_WAIT (R146). -/
def State.reportInRetry (r : EngReport) (s : State) : State := if r.engine = .running then s.startSucceeds r.coolant else s

/-- An ENG report handed to the ESC; the frozen ESC of HALTED takes none (R140). The first one closes the adoption window. DESIGN
CHOICE (log 61): an adoption leaves the attempt count as it stands, which after a wake may be that of the last start (R140, R146),
where R141 says that it stays 0. -/
def State.engineReport (r : EngReport) (s : State) : State :=
  if s.mode = .halted then s
  else
    let adopted := s.adopts r
    let s := s.setEsc { s.esc with window := false }
    match s.esc.machine with
    | .off => if adopted then s.setEngine (s.runningState r.coolant) else s
    | .cranking => s.reportInCranking r
    | .retryWait => s.reportInRetry r
    | .warmup => s.reportInWarmup r
    | .run => s.reportInRun r
    | .cooldown => s.reportInRun r
    | .stopping => s.reportInStopping r
    | .fault => s

/-- The ENG record has entered LOST (R143). -/
def State.engineLost (s : State) : State :=
  if s.mode = .halted ∨ s.esc.machine = .off ∨ s.esc.machine = .fault then s
  else
    let s := if s.esc.machine.inService then s.offerNoForce else s
    (s.setEsc { s.esc with crankTimer := none, restTimer := none, cooldownTimer := none, stopTimer := none, latch := none,
                           crankCause := none, stopCause := none }).setEngine .fault

/-! ## Timers (R147, R152) -/

/-- The rest timer expires: another START (R147). -/
def State.restExpires (s : State) : State :=
  let s := (s.setEsc { s.esc with restTimer := none }).offerStart
  (s.setEsc { s.esc with attempts := s.esc.attempts + 1, crankTimer := some (s.par .tCrank) }).setEngine .cranking

/-- The cooldown timer expires (R152). -/
def State.cooldownExpires (s : State) : State := (s.setEsc { s.esc with cooldownTimer := none }).enterStopping

/-- The stop timer expires: a second STOP, then FAULT with STOP_FAIL (R152). -/
def State.stopExpires (s : State) : State :=
  if s.esc.stopExpiries = 0 then
    let s := s.offerStop
    s.setEsc { s.esc with stopTimer := some (s.par .tStop), stopExpiries := 1 }
  else
    ((s.setEsc { s.esc with stopTimer := none, latch := none, stopCause := none }).setEngine .fault).raise .stopFail 2

/-! ## Replies (section 11.3) -/

/-- The schedule as ROUTE and ENGINE replies send it: phase, stops, distance (section 11.3). -/
def scheduleBytes : Option Schedule → List Byte
  | none => [0, 0] ++ be16 0
  | some sch => [sch.phase.code, byte sch.stops] ++ be16 sch.distance

/-- The ENGINE reply (R158, section 11.3). -/
def State.engineReply (s : State) (status : Byte) : List Byte :=
  [status, byte s.esc.machine.code, byte (bit s.esc.auto), byte s.esc.attempts, crankCode s.esc.crankCause,
   stopCode s.esc.stopCause, latchCode s.esc.latch] ++ scheduleBytes s.esc.schedule

/-- The ROUTE reply (section 11.3). -/
def State.routeReply (s : State) (status sub : Byte) : List Byte :=
  [status, sub, byte (bit s.demand.zone)] ++ scheduleBytes s.esc.schedule

/-- An ENGINE request answered with the state after it. -/
def Taken.engine (s : State) (status : Byte) : Taken := .now s (s.engineReply status)

/-- A ROUTE request answered with the state after it. -/
def Taken.route (s : State) (status sub : Byte) : Taken := .now s (s.routeReply status sub)

/-! ## ENGINE requests (R148, R150, R154, R155, R158) -/

/-- How COOLDOWN refuses a HOST START it does not take (R148). -/
def cooldownRefusal : Option StopCause → Byte
  | some .zone => stInhibited
  | some .safe => stMode
  | some .mode => stActive
  | some .shutdown => stActive
  | some .auto => stActive
  | some .host => stActive
  | none => stActive

/-- A HOST START that has passed the first three checks, by machine state (R148). -/
def State.hostStart (override : Bool) (s : State) : Taken :=
  match s.esc.machine with
  | .off => if s.engReady then .engine (s.enterCranking (hostCause override)) stOk else .engine s stAbsent
  | .cranking => .engine s stOk
  | .retryWait => .engine s stOk
  | .warmup => .engine s stOk
  | .run => .engine s stOk
  | .cooldown =>
    if StopCause.returnable s.esc.stopCause then .engine s.returnToRun stOk else .engine s (cooldownRefusal s.esc.stopCause)
  | .stopping => .engine (s.setEsc { s.esc with latch := some override }) stOk
  | .fault => .engine s stActive

/-- ENGINE START (R148); the OVERRIDE flag is bit 0 of its byte. -/
def State.takeEngineStart (data : List Byte) (s : State) : Taken :=
  let override := (byteAt data 0).getLsbD 0
  if s.mode ≠ .ready then .engine s stMode
  else if s.level = .safeStop then .engine s stMode
  else if s.demand.zone = true ∧ override = false then .engine s stInhibited
  else s.hostStart override

/-- ENGINE STOP (R150, R158); the IMMEDIATE flag is bit 0 of its byte. -/
def State.takeEngineStop (data : List Byte) (s : State) : Taken :=
  .engine (s.stopCause .host ((byteAt data 0).getLsbD 0)) stOk

/-- ENGINE AUTO_ON: an evaluation point (R155). -/
def State.takeAutoOn (s : State) : Taken := .engine (s.setEsc { s.esc with auto := true }).evaluateStart stOk

/-- ENGINE AUTO_OFF (R155). -/
def State.takeAutoOff (s : State) : Taken := .engine (s.setEsc { s.esc with auto := false }) stOk

/-- The machine leaves FAULT (R154). -/
def State.leaveFault (m : EngineState) (s : State) : State :=
  (s.setEsc { s.esc with attempts := 0, stopExpiries := 0 }).setEngine m

/-- ENGINE RESET_FAULT (R154, R158). -/
def State.takeResetFault (s : State) : Taken :=
  if s.mode = .shutdown then .engine s stMode
  else if s.esc.machine = .fault then
    match s.nodes.engineSeen with
    | .off => .engine (s.leaveFault .off) stOk
    | .running => .engine (s.leaveFault .run) stOk
    | .cranking => .engine s stActive
    | .stopping => .engine s stActive
    | .fault => .engine s stActive
  else .engine s stOk

/-! ## ROUTE requests (R19, R160) -/

/-- ROUTE ZONE_ENTER (R19). DESIGN CHOICE (log 19): the ESC takes stop cause ZONE before the Fault Monitor examines the reserve. -/
def State.takeZoneEnter (s : State) : Taken :=
  if s.demand.zone then .route s stOk 0
  else .route (((s.setDemand { s.demand with zone := true }).stopCause .zone false).reserveWatch) stOk 0

/-- ROUTE ZONE_EXIT: the cause of ZONE_RESERVE ends, and the ESC examines its causes (R19, R156, R197; log 19). -/
def State.takeZoneExit (s : State) : Taken :=
  if s.demand.zone then .route ((s.setDemand { s.demand with zone := false }).endReserve.evaluateStart) stOk 1
  else .route s stOk 1

/-- ROUTE SCHEDULE (R160). -/
def State.takeSchedule (data : List Byte) (s : State) : Taken :=
  let stops := (byteAt data 0).toNat
  let distance := unsigned (field data 1 2)
  if s.mode ≠ .ready then .route s stMode 2
  else
    let s := s.putSchedule ⟨phaseOf (min 15 stops) (min 10000 distance), min 15 stops, min 10000 distance⟩
    .route s (okOrClamped (decide (15 < stops) || decide (10000 < distance))) 2

/-- ROUTE CANCEL (R160). -/
def State.takeCancel (s : State) : Taken := .route (s.setEsc { s.esc with schedule := none }) stOk 3

end Sys2Proof.Machine
end

