-- ==== Sys2Proof/Machine/Reports.lean ====
section
/-! DEFINITION. The Node Table taking reports, its presence machines, and what it hands on
(03_node_table_and_electric_limits.md). -/

namespace Sys2Proof.Machine

/-! ## Faults of presence and reported faults (R55, R57) -/

/-- Whether a brake record is LOST (R55). -/
def State.brakeLost (s : State) : Bool := s.lost .bkf || s.lost .bkr

/-- A record has returned to PRESENT from STALE or LOST: the causes of its presence faults end (R53, R55). -/
def State.endPresenceFaults (n : NodeAddr) (s : State) : State :=
  match n with
  | .bat => s.endCauses [.batStale, .batLost]
  | .inv => s.endCause .invLost
  | .eng => s.endCause .engLost
  | .bkf => if s.brakeLost then s else s.endCause .brkLost
  | .bkr => if s.brakeLost then s else s.endCause .brkLost
  | .aux1 => s
  | .aux2 => s

/-- The fault kind a record's entry to LOST raises (R55). -/
def lossFault : NodeAddr → Option FaultKind
  | .eng => some .engLost
  | .inv => some .invLost
  | .bat => some .batLost
  | .bkf => some .brkLost
  | .bkr => some .brkLost
  | .aux1 => none
  | .aux2 => none

/-- The fault kind a node's FAULT flag raises (R57). -/
def reportedFault : NodeAddr → Option FaultKind
  | .eng => some .engReported
  | .inv => some .invReported
  | .bat => some .batReported
  | .bkf => some .brkReported
  | .bkr => some .brkReported
  | .aux1 => none
  | .aux2 => none

/-- The flags of a node's stored report. -/
def NodeTable.flagsOf (t : NodeTable) : NodeAddr → Option ReportFlags
  | .eng => t.engReport.map EngReport.flags
  | .inv => t.invReport.map InvReport.flags
  | .bat => t.batReport.map BatReport.flags
  | .bkf => t.bkfReport.map BrkReport.flags
  | .bkr => t.bkrReport.map BrkReport.flags
  | .aux1 => none
  | .aux2 => none

/-- Whether a node's stored report has its FAULT flag set; clear with no report stored (R57). -/
def NodeTable.faultFlag (t : NodeTable) (n : NodeAddr) : Bool := ((t.flagsOf n).map ReportFlags.fault).getD false

/-- Whether the cause of a node's reported fault is over: its flag is clear, and for the brakes the other's too (R57). -/
def NodeTable.faultOver (t : NodeTable) : NodeAddr → Bool
  | .bkf => !t.faultFlag .bkf && !t.faultFlag .bkr
  | .bkr => !t.faultFlag .bkf && !t.faultFlag .bkr
  | .eng => !t.faultFlag .eng
  | .inv => !t.faultFlag .inv
  | .bat => !t.faultFlag .bat
  | .aux1 => true
  | .aux2 => true

/-- The reported-fault kinds after a report has been stored, given the flag of the report before it (R57). -/
def State.actReported (n : NodeAddr) (before : Bool) (s : State) : State :=
  match reportedFault n with
  | none => s
  | some k =>
    if s.nodes.faultFlag n then (if before then s else s.raise k (nodeCode n))
    else if s.nodes.faultOver n then s.endCause k
    else s

/-! ## Presence (R50 to R54, R59) -/

/-- A record becomes STALE: stale-entry time, lost timer, BAT_STALE (R50, R51, R55). -/
def State.becomeStale (n : NodeAddr) (s : State) : State :=
  let s := s.setNode n { s.node n with presence := .stale, staleTime := some s.runTime, staleTimer := none,
                                       lostTimer := some (s.par .tLost) }
  if n = .bat then s.raise .batStale 3 else s

/-- The loss is handed to the BBU, the ESC and the NLC (R59; log 37). -/
def State.handLoss (n : NodeAddr) (s : State) : State :=
  let s := if n = .bat ∨ n = .inv then s.cutReblend false else s
  let s := if n = .eng then s.engineLost else s
  s.nodeLostQueue n

/-- A record becomes LOST: its fault is raised, then the loss is handed on (R52, R55, R59). -/
def State.becomeLost (n : NodeAddr) (s : State) : State :=
  let s := s.setNode n { s.node n with presence := .lost, staleTimer := none, lostTimer := none }
  let s := match lossFault n with
    | some k => s.raise k (nodeCode n)
    | none => s
  s.handLoss n

/-- A change of t_stale re-times a PRESENT record (R54). -/
def State.retimeStale (n : NodeAddr) (s : State) : State :=
  match (s.node n).presence, (s.node n).freshTime with
  | .present, some t =>
    let gone := elapsed s.runTime t
    if s.par .tStale ≤ gone then s.becomeStale n
    else s.setNode n { s.node n with staleTimer := some (s.par .tStale - gone) }
  | _, _ => s

/-- A change of t_lost re-times a STALE record (R54). -/
def State.retimeLost (n : NodeAddr) (s : State) : State :=
  match (s.node n).presence, (s.node n).staleTime with
  | .stale, some t =>
    let gone := elapsed s.runTime t
    if s.par .tLost ≤ gone then s.becomeLost n
    else s.setNode n { s.node n with lostTimer := some (s.par .tLost - gone) }
  | _, _ => s

/-! ## Taking a report (R48, R49, R53, R58) -/

/-- The classes of a report (R48). -/
inductive ReportClass where
  | fresh | again | retransmission
deriving DecidableEq, Repr

/-- The class of a report, by the record's last alive counter and the retry flag (R48). -/
def classifyReport (last : Option (BitVec 4)) (alive : BitVec 4) (retry : Bool) : ReportClass :=
  match last with
  | none => .fresh
  | some a => if a = alive then (if retry then .retransmission else .again) else .fresh

/-- The table with a node's report stored whole (R47, R49). -/
def NodeTable.store (t : NodeTable) (n : NodeAddr) (payload : List Byte) : NodeTable :=
  match n with
  | .eng => { t with engReport := some (engReportOf payload) }
  | .inv => { t with invReport := some (invReportOf payload) }
  | .bat => { t with batReport := some (batReportOf payload) }
  | .bkf => { t with bkfReport := some (brkReportOf payload) }
  | .bkr => { t with bkrReport := some (brkReportOf payload) }
  | .aux1 => t
  | .aux2 => t

/-- A record taken as fresh: PRESENT, its timers, its counts (R48, R53). -/
def NodeRecord.fresh (now : Time) (tStale : Nat) (r : NodeRecord) : NodeRecord :=
  { r with presence := .present, freshTime := some now, repeats := 0, staleTimer := some tStale, lostTimer := none }

/-- Whether a record is STALE or LOST (R53). -/
def Presence.overdue : Presence → Bool
  | .stale => true
  | .lost => true
  | .absent => false
  | .present => false

/-- A record becomes PRESENT by a fresh report or tunnel frame, and its presence faults' causes end (R53, R60). -/
def State.becomePresent (n : NodeAddr) (s : State) : State :=
  let was := (s.node n).presence
  let s := s.setNode n ((s.node n).fresh s.runTime (s.par .tStale))
  if was.overdue then s.endPresenceFaults n else s

/-- What a stored report hands on after presence (R58): hold release, ENG to the ESC, BAT to the WAU when it is fresh and to
the reserve watch, SLIP to the BBU. `since` is none for a repeat. DESIGN CHOICE (log 50): R197 gives the reserve watch no place in
R58's order; it runs after the hold release and the WAU's battery step. -/
def State.handOn (n : NodeAddr) (since : Option Nat) (s : State) : State :=
  let ready := ((s.nodes.flagsOf n).map ReportFlags.ready).getD false
  let slip := ((s.nodes.flagsOf n).map ReportFlags.slip).getD false
  let s := if ready then s.releaseHold n else s
  match n with
  | .eng => match s.nodes.engReport with
    | some r => s.engineReport r
    | none => s
  | .bat => match s.nodes.batReport with
    | some r => (match since with
      | some e => s.batteryWear r e
      | none => s).reserveWatch
    | none => s
  | .bkf => if slip then s.slipReport else s
  | .bkr => if slip then s.slipReport else s
  | .inv => s
  | .aux1 => s
  | .aux2 => s

/-- The ms since a record's previous fresh report, 0 when it has none (R58). -/
def State.sinceFresh (s : State) (n : NodeAddr) : Nat :=
  match (s.node n).freshTime with
  | some t => elapsed s.runTime t
  | none => 0

/-- A fresh report (R48, R49, R53, R57, R58). DESIGN CHOICE (log 54): the faults of R55 come before those of R57, where R58 puts both
into its first step and R194 allows either order. -/
def State.takeFresh (n : NodeAddr) (payload : List Byte) (s : State) : State :=
  let since := s.sinceFresh n
  let before := s.nodes.faultFlag n
  let s := s.setNodes (s.nodes.store n payload)
  let s := (s.setNode n { s.node n with lastAlive := some (aliveOf payload) }).becomePresent n
  (s.actReported n before).handOn n (some since)

/-- A repeat: stored in PRESENT only; the fifth makes the record STALE (R48, R50, R57, R58). The order of its faults: log 54. -/
def State.takeRepeat (n : NodeAddr) (payload : List Byte) (s : State) : State :=
  let count := satAdd 255 (s.node n).repeats 1
  if (s.node n).presence = .present then
    let before := s.nodes.faultFlag n
    let s := s.setNodes (s.nodes.store n payload)
    let s := s.setNode n { s.node n with repeats := count }
    let s := if 5 ≤ count then s.becomeStale n else s
    (s.actReported n before).handOn n none
  else s.setNode n { s.node n with repeats := count }

/-- The Node Table takes a report of the right length (R48). -/
def State.takeReport (n : NodeAddr) (payload : List Byte) (retry : Bool) (s : State) : State :=
  match classifyReport (s.node n).lastAlive (aliveOf payload) retry with
  | .fresh => s.takeFresh n payload
  | .again => s.takeRepeat n payload
  | .retransmission => s

/-! ## Auxiliary nodes (R60, R71) -/

/-- Whether a node is AUX1 or AUX2. -/
def isAux : NodeAddr → Bool
  | .aux1 => true
  | .aux2 => true
  | .eng => false
  | .inv => false
  | .bat => false
  | .bkf => false
  | .bkr => false

/-- An acknowledged TUNNEL frame from AUX1 or AUX2 counts as a fresh report and releases its hold (R60, R71); in PARKED the
table takes none (R63; log 15). -/
def State.auxPresence (n : NodeAddr) (s : State) : State :=
  if isAux n = true ∧ s.mode ≠ .parked then (s.becomePresent n).releaseHold n else s

/-! ## The loss of the table on PARKED entry (R45, R55, R57, R63) -/

/-- The kinds whose causes end as PARKED is entered: presence, reported faults (R55, R57, R200). DESIGN CHOICE (log 41): in code
order, where R63 and R200 give none; it shows in the detail of FAULT_CLEARED and the count of RESTRICTION. -/
def parkedCauses : List FaultKind :=
  [.batStale, .batLost, .invLost, .engLost, .brkLost, .engReported, .invReported, .batReported, .brkReported]

/-- Every record takes its PARKED entry values, and the causes of the presence and reported faults end (R45, R63). -/
def State.parkNodes (s : State) : State := (s.setNodes .initial).endCauses parkedCauses

end Sys2Proof.Machine
end

