-- ==== Sys2Proof/Machine/Demand.lean ====
section
/-! DEFINITION. The Demand Unit: an accepted DEMAND, the freshness and low-speed timers
(01_operating_modes_and_the_demand_stream.md section 1.5). -/

namespace Sys2Proof.Machine

/-! ## Δt and the stages of a DEMAND (R13) -/

/-- Δt: 10 ms on the first-in-READY mark or with no last-demand time, else the time elapsed, capped at t_fresh (R14). -/
def State.demandStep (s : State) : Nat :=
  if s.demand.firstInReady then 10
  else match s.demand.lastDemand with
    | none => 10
    | some t => min (elapsed s.runTime t) (s.par .tFresh)

/-- Stages 1 to 3: the clamped record, the last-demand time, the first-in-READY mark (R12, R13, R14). -/
def State.takeRecord (f : DemandFields) (s : State) : State :=
  s.setDemand { s.demand with record := f.record (s.par .mMin) (s.par .mMax), lastDemand := some s.runTime, firstInReady := false }

/-- Stage 4: the freshness timer restarts; a stale condition clears and the cause of DEMAND_STALE ends (R13). -/
def State.refresh (s : State) : State :=
  let was := s.demand.stale
  let s := s.setDemand { s.demand with freshness := some (s.par .tFresh), stale := false }
  if was then s.endCause .demandStale else s

/-- Stage 5: distance; the whole metres go to the counter and to the schedule (R18). -/
def State.addDistance (dt : Nat) (s : State) : State :=
  let r := s.demand.remainder + s.demand.record.speed * dt
  let metres := r / 100000
  let s := s.setDemand { s.demand with remainder := r % 100000, distance := s.demand.distance + BitVec.ofNat 32 metres }
  s.scheduleMetres metres

/-- Stage 6: the speed acts on the motion state and the low-speed timer (R16). -/
def DemandUnit.move (d : DemandUnit) : DemandUnit :=
  match d.motion with
  | .moving =>
    if 10 < d.record.speed then { d with lowSpeed := none }
    else match d.lowSpeed with
      | none => { d with lowSpeed := some lowSpeedMs }
      | some _ => d
  | .standstill => if 30 ≤ d.record.speed then { d with motion := .moving, stopEligible := false } else d

/-- Stage 6: a passenger stop (R17). -/
def State.passengerStop (s : State) : State :=
  if s.demand.record.doorsOpen = true ∧ s.demand.motion = .standstill ∧ s.demand.stopEligible = true then
    (s.setDemand { s.demand with stops := s.demand.stops + 1, stopEligible := false }).scheduleStop
  else s

/-- Stages 1 to 6 of an accepted DEMAND (R13). -/
def State.demandStages (f : DemandFields) (s : State) : State :=
  let dt := s.demandStep
  let s := ((s.takeRecord f).refresh).addDistance dt
  (s.setDemand s.demand.move).passengerStop

/-! ## The reply (R12, R104, R135, R212) -/

/-- The path of a DEMAND reply (R12). -/
inductive Path where
  | none | blend | split
deriving DecidableEq, Repr

/-- A path's code (section 11.3). -/
def Path.code : Path → Byte
  | .none => 0
  | .blend => 1
  | .split => 2

/-- The result flags: OVERRIDE, SHORT, SATURATED (section 11.3). -/
def resultFlags (override : Bool) (b : BlendResult) (p : SplitResult) : Byte :=
  byte (bit override + 2 * bit (decide (0 < p.fShort)) + 4 * bit b.short)

/-- The DEMAND reply (section 11.3). -/
def demandReply (status : Byte) (override : Bool) (path : Path) (b : BlendResult) (p : SplitResult) : List Byte :=
  [status, resultFlags override b p, path.code] ++ be32 b.fDem ++ be32 b.fReg ++ be32 b.fFront ++ be32 b.fRear ++
    be16 b.pFront ++ be16 b.pRear ++ be32 b.shortFront ++ be32 b.shortRear ++ [byte b.term.code] ++
    be32 p.fReq ++ be32 p.fE ++ be32 p.fEng ++ be32 p.fCs ++ be32 p.fShort ++ be16 (twos16 p.tInv)

/-! ## DEMAND (R13 stage 7) -/

/-- A braking DEMAND in READY: the demand blend, then the braking hand-on; the reply is built from this blend alone (R82,
R101, R104). -/
def State.brakeDemand (status : Byte) (override : Bool) (dt : Nat) (s : State) : Taken :=
  .now ((s.demandBlend dt).brakingHandOn dt) (demandReply status override .blend (s.blendResult .demand) .initial)

/-- A traction or coasting DEMAND in READY: braking is left if the braking flag is set, then the demand split (R83, R121,
R135). DESIGN CHOICE (log 43): R121 leaves the order open, and it shows where the end of FRICTION_SATURATED changes the level or k
that the split reads. -/
def State.tractionDemand (status : Byte) (override : Bool) (dt : Nat) (s : State) : Taken :=
  let s := if s.bbu.braking then s.leaveBraking .released else s
  .now (s.demandSplit dt) (demandReply status override .split .initial (s.splitInputs.result s.params))

/-- An accepted DEMAND (R12, R13). -/
def State.takeDemand (data : List Byte) (s : State) : Taken :=
  let f := demandFields data
  let status := okOrClamped (f.clamped (s.par .mMin) (s.par .mMax))
  let dt := s.demandStep
  let s := s.demandStages f
  if s.mode = .ready then
    if 0 < s.demand.record.brake then s.brakeDemand status f.override dt else s.tractionDemand status f.override dt
  else .now s (demandReply status f.override .none .initial .initial)

/-! ## The freshness timer (R15) -/

/-- The expiry in READY: stale condition, DEMAND_STALE, the event closes, the held computations, the timer restarts (R15). -/
def State.goStale (s : State) : State :=
  let s := (s.setDemand { s.demand with stale := true, freshness := none }).raise .demandStale 0
  let s := ((s.closeEvent .stale).heldSplit).heldBlend
  s.setDemand { s.demand with freshness := some (s.par .tFresh) }

/-- The freshness timer expires (R15). -/
def State.freshnessExpires (s : State) : State :=
  if s.mode = .ready then s.goStale else s.setDemand { s.demand with freshness := none }

/-! ## The low-speed timer (R16) -/

/-- The low-speed timer expires: STANDSTILL, the stop-eligible mark, the open event closes; at SAFE_STOP the ESC is given
cause SAFE (R16, R150). -/
def State.lowSpeedExpires (s : State) : State :=
  let s := s.setDemand { s.demand with motion := .standstill, stopEligible := true, lowSpeed := none }
  let s := s.closeEvent .standstill
  if s.level = .safeStop then s.stopCause .safe false else s

end Sys2Proof.Machine
end

