-- ==== Sys2Proof/Machine/Modes.lean ====
section
/-! DEFINITION. The Mode Controller: READY, shutdown, PARKED and wake, HALTED
(01_operating_modes_and_the_demand_stream.md sections 1.1 to 1.4). -/

namespace Sys2Proof.Machine

/-! ## Reasons and replies (R2) -/

/-- The reason codes of a MODE reply (R2). -/
inductive Reason where
  | none | wrongMode | invNotPresent | batNotPresent | bkfNotPresent | bkrNotPresent | storeLoading | safeStop
  | notStandstill | engineNotOff | saveInFlight
deriving DecidableEq, Repr

/-- A reason's value (R2). -/
def Reason.code : Reason → Byte
  | .none => 0x00
  | .wrongMode => 0x01
  | .invNotPresent => 0x02
  | .batNotPresent => 0x03
  | .bkfNotPresent => 0x04
  | .bkrNotPresent => 0x05
  | .storeLoading => 0x06
  | .safeStop => 0x07
  | .notStandstill => 0x08
  | .engineNotOff => 0x09
  | .saveInFlight => 0x0A

/-- A MODE request answered with the mode after it (R2, section 11.3). -/
def Taken.mode (s : State) (status : Byte) (reason : Reason) : Taken := .now s [status, byte s.mode.code, reason.code]

/-- A MODE request carried out, or finding its target reached (R2). -/
def Taken.carried (s : State) : Taken := .mode s stOk .none

/-- A MODE request refused with status MODE (R2). -/
def Taken.refusedFor (s : State) (reason : Reason) : Taken := .mode s stMode reason

/-! ## Into and out of READY (R3, R4, R5) -/

/-- The first unmet condition of MODE READY (R3). -/
def State.readyObstacle (s : State) : Option Reason :=
  if s.nodes.inv.presence ≠ .present then some .invNotPresent
  else if s.nodes.bat.presence ≠ .present then some .batNotPresent
  else if s.nodes.bkf.presence ≠ .present then some .bkfNotPresent
  else if s.nodes.bkr.presence ≠ .present then some .bkrNotPresent
  else if s.wear.load = .inFlight then some .storeLoading
  else if s.level = .safeStop then some .safeStop
  else none

/-- Entry to READY: the freshness timer restarts and the first-in-READY mark is set (R4). -/
def State.enterReady (s : State) : State :=
  let s := s.setDemand { s.demand with freshness := some (s.par .tFresh), firstInReady := true }
  s.enterMode .ready

/-- INV TORQUE 0 and RELEASE to both brake nodes enter the queue (R5, R6). -/
def State.offerRelease (s : State) : State :=
  let s := s.offer .inv .torque (torquePayload 0) .mode
  let s := s.offer .bkf .pressure releasePayload .mode
  s.offer .bkr .pressure releasePayload .mode

/-- The stale condition is cleared and the cause of DEMAND_STALE ends (R5). -/
def State.clearStale (s : State) : State :=
  let was := s.demand.stale
  let s := s.setDemand { s.demand with stale := false }
  if was then s.endCause .demandStale else s

/-- Leaving READY for STANDBY or SHUTDOWN, in the order of R5; the mode has changed (R5, R83, R120). -/
def State.leaveReady (c : StopCause) (s : State) : State :=
  let s := (s.leaveBraking .mode).resetSplit.offerRelease
  let s := s.stopCause c false
  let s := s.setEsc { s.esc with schedule := none }
  s.clearStale

/-! ## Shutdown (R6) -/

/-- The engine being OFF or FAULT as the request is taken ends ENGINE_WAIT at once (R6). -/
def State.beginEngineWait (s : State) : State :=
  if s.esc.machine = .off ∨ s.esc.machine = .fault then s.endEngineWait else s.setProgress .engineWait

/-- MODE SHUTDOWN from READY (R5, R6). -/
def State.shutdownFromReady (s : State) : State := ((s.enterMode .shutdown).leaveReady .shutdown).beginEngineWait

/-- MODE SHUTDOWN from STANDBY (R6). -/
def State.shutdownFromStandby (s : State) : State :=
  (((s.enterMode .shutdown).offerRelease).stopCause .shutdown false).beginEngineWait

/-! ## PARKED and wake (R8, R9) -/

/-- The Demand Unit on PARKED entry: both timers stop (R8). -/
def DemandUnit.park (d : DemandUnit) : DemandUnit := { d with freshness := none, lowSpeed := none }

/-- The BBU on PARKED entry (R81). -/
def BrakeUnit.park (b : BrakeUnit) : BrakeUnit :=
  { b with slipHold := none, lastSlip := none, result := .initial, saturated := false }

/-- Entry to PARKED, by MODE PARK or at the end of a shutdown; the clock goes to slow running at once when no reply is due (R8,
R45, R81, R197, R200, R211). DEDUCED (log 36): the records take their values now, ahead of the completion of an entry still in
flight. DESIGN CHOICE (log 41): the causes end in the order of `parkedCauses`, then FRICTION_SATURATED, then
ZONE_RESERVE, where R63 and R200 give none. -/
def State.enterParked (s : State) : State :=
  let s := (s.enterMode .parked).setProgress .idle
  let s := s.parkLink
  let s := s.parkNodes
  let s := (s.setDemand s.demand.park).setBbu s.bbu.park
  let s := (s.endCause .frictionSaturated).endReserve
  let s := s.setHli { s.hli with framer := .hunt }
  (s.setKeep false).slowDown

/-- The HLI after a wake: the framer in HUNT, the inbox and the replies empty, the level DRIVE; the counters stand (R211; log 17). -/
def HostLink.woken (h : HostLink) : HostLink :=
  { h with framer := .hunt, slots := #v[none, none, none, none], sending := none, waiting := [], access := .drive }

/-- The end of a wake (R9, R140, R42, R211). -/
def State.wakeEnds (s : State) : State :=
  let s := ((s.enterMode .standby).setKeep true).setSlowClock false
  let s := (s.setWaking false).rejoinLink
  let s := s.setHli s.hli.woken
  s.setEsc { s.esc with auto := s.par .autoReset != 0, window := true }

/-! ## HALTED (R10) -/

/-- Entry to HALTED: the open event closes with reason MODE as the mode changes, the HALT frames are queued, the shutdown
progress becomes none (R7, R10, R111). DESIGN CHOICE (log 60): taken in READY it keeps F_reg_prev and the rest of the BBU, and the
pre-start schedule, as they stand, by R10, R81's sentence on HALTED and R163's, where R81's second sentence, R83, R95 and R163's first
clear them as the mode leaves READY. -/
def State.enterHalted (s : State) : State :=
  let s := (s.enterMode .halted).closeEvent .mode
  (s.setProgress .idle).haltLink

/-! ## The MODE requests -/

/-- MODE READY (R3, R4, R7). -/
def State.takeModeReady (s : State) : Taken :=
  match s.mode with
  | .standby =>
    match s.readyObstacle with
    | some r => .refusedFor s r
    | none => .carried s.enterReady
  | .ready => .carried s
  | .shutdown => .refusedFor s .wrongMode
  | .parked => .refusedFor s .wrongMode
  | .halted => .refusedFor s .wrongMode

/-- MODE STANDBY (R5, R7). -/
def State.takeModeStandby (s : State) : Taken :=
  match s.mode with
  | .standby => .carried s
  | .ready =>
    if s.demand.motion = .standstill then .carried ((s.enterMode .standby).leaveReady .mode) else .refusedFor s .notStandstill
  | .shutdown =>
    if s.progress = .saving then .mode s stBusy .saveInFlight else .carried ((s.enterMode .standby).setProgress .idle)
  | .parked => .refusedFor s .wrongMode
  | .halted => .refusedFor s .wrongMode

/-- MODE SHUTDOWN (R6, R7). -/
def State.takeModeShutdown (s : State) : Taken :=
  match s.mode with
  | .standby => if s.demand.motion = .standstill then .carried s.shutdownFromStandby else .refusedFor s .notStandstill
  | .ready => if s.demand.motion = .standstill then .carried s.shutdownFromReady else .refusedFor s .notStandstill
  | .shutdown => .carried s
  | .parked => .refusedFor s .wrongMode
  | .halted => .refusedFor s .wrongMode

/-- MODE PARK (R7, R8). DESIGN CHOICE (log 52): it is taken in STANDBY while the load is in flight, a case that R188 says does not
arise and R8 does not refuse; PARKED is then entered with the load in flight. -/
def State.takeModePark (s : State) : Taken :=
  match s.mode with
  | .standby => if s.esc.machine = .off then .carried s.enterParked else .refusedFor s .engineNotOff
  | .ready => .refusedFor s .wrongMode
  | .shutdown => .refusedFor s .wrongMode
  | .parked => .refusedFor s .wrongMode
  | .halted => .refusedFor s .wrongMode

/-- MODE HALT (R10). -/
def State.takeModeHalt (s : State) : Taken :=
  match s.mode with
  | .standby => .carried s.enterHalted
  | .ready => .carried s.enterHalted
  | .shutdown => .carried s.enterHalted
  | .parked => .refusedFor s .wrongMode
  | .halted => .refusedFor s .wrongMode

/-- MODE with a target that is not one of the five values (R2). -/
def State.takeModeOther (s : State) : Taken := .mode s stValue .none

end Sys2Proof.Machine
end

