-- ==== Sys2Proof/Machine/Services.lean ====
section
/-! DEFINITION. The requests the HLI and the NLC own: CONFIG_SET and CONFIG_GET, ACCESS, STATUS, DESCRIBE, TUNNEL
(11_host_link.md, 04_setpoint_queue_and_tunnel.md section 4.5), and the store's completions. -/

namespace Sys2Proof.Machine

/-! ## CONFIG_SET (R217, R218) -/

/-- A value held to a parameter's range; P40 loses the bits above bit 10 instead (R217). -/
def rangeClamp (p : Param) (v : Nat) : Nat :=
  match p with
  | .attention => v % 2048
  | _ => max (paramRow p).lo (min (paramRow p).hi v)

/-- The cross-constraints, on a value already in range (R218). -/
def crossClamp (ps : Params) (p : Param) (v : Nat) : Nat :=
  match p with
  | .mMin => min v (getParam ps .mMax)
  | .mMax => max v (getParam ps .mMin)
  | .vLo => min v (getParam ps .vHi - 100)
  | .vHi => max v (getParam ps .vLo + 100)
  | .socStart => min v (getParam ps .socStop - 100)
  | .socStop => max v (getParam ps .socStart + 100)
  | _ => v

/-- The value a parameter takes from a CONFIG_SET (R217, R218). -/
def configValue (ps : Params) (p : Param) (v : Nat) : Nat := crossClamp ps p (rangeClamp p v)

/-- Whether a parameter is a wear threshold (R168). -/
def isThreshold : Param → Bool
  | .padWarn | .padLimit | .batteryWarn | .batteryLimit | .startsWarn | .startsLimit => true
  | _ => false

/-- What acts at once on a CONFIG_SET of a parameter: wear states (R168), presence timers (R54), the slip-hold timer (R85),
the reserve watch (R197). DESIGN CHOICE (log 40): several records that one change of t_stale or t_lost makes STALE or LOST do so
in address order, where R54 gives none. -/
def State.configActs (p : Param) (s : State) : State :=
  if isThreshold p then s.recheckWear
  else match p with
    | .tStale => allNodes.foldl (fun s n => s.retimeStale n) s
    | .tLost => allNodes.foldl (fun s n => s.retimeLost n) s
    | .tSlip => s.retimeSlip
    | .socReserve => s.reserveWatch
    | _ => s

/-- Whether the mode lets a parameter be changed: STANDBY, or for one marked L also READY and SHUTDOWN (R217). -/
def State.configMode (s : State) (p : Param) : Bool :=
  s.mode == .standby || ((paramRow p).live && (s.mode == .ready || s.mode == .shutdown))

/-- The CONFIG_SET reply: status, id, value held (R217). -/
def configReply (status id : Byte) (v : Nat) : List Byte := [status, id] ++ be32 v

/-- CONFIG_SET (R217, R218, R219). DESIGN CHOICE (log 51): where a change of t_lost makes a node LOST, the deferred TUNNEL replies that
R73 releases become ready ahead of the reply to the CONFIG_SET; R209 allows either order in one millisecond. -/
def State.takeConfigSet (data : List Byte) (s : State) : Taken :=
  let id := byteAt data 0
  let v := unsigned (field data 1 4)
  match paramOfId id.toNat with
  | none => .now s (configReply stValue id 0)
  | some p =>
    if s.configMode p = false then .now s (configReply stMode id (s.par p))
    else if (paramRow p).service = true ∧ s.hli.access ≠ .service then .now s (configReply stLevel id (s.par p))
    else
      let x := configValue s.params p v
      .now ((s.setParams (setParam s.params p x)).configActs p) (configReply (okOrClamped (x != v)) id x)

/-- The access byte of CONFIG_GET: bit 0 S, bit 1 L (R220). -/
def ParamRow.accessByte (r : ParamRow) : Byte := byte (bit r.service + 2 * bit r.live)

/-- CONFIG_GET (R220). -/
def State.takeConfigGet (data : List Byte) (s : State) : Taken :=
  let id := byteAt data 0
  match paramOfId id.toNat with
  | none => .now s [stValue, id]
  | some p =>
    let r := paramRow p
    .now s ([stOk, id] ++ be32 (s.par p) ++ be32 r.lo ++ be32 r.hi ++ be32 r.dflt ++ [r.accessByte])

/-! ## ACCESS (R215, R216) -/

/-- The state with an access level. -/
def State.setAccess (a : Access) (s : State) : State := s.setHli { s.hli with access := a }

/-- The ACCESS reply: status, level after the request (R216). -/
def Taken.access (s : State) (status : Byte) : Taken := .now s [status, s.hli.access.code]

/-- ACCESS DRIVE (R216). -/
def State.takeAccessDrive (s : State) : Taken := .access (s.setAccess .drive) stOk

/-- ACCESS SERVICE: at SERVICE level it changes nothing (R216). -/
def State.takeAccessService (s : State) : Taken :=
  if s.hli.access = .service then .access s stOk
  else if s.mode ≠ .standby then .access s stMode
  else if s.demand.motion ≠ .standstill then .access s stMode
  else if s.svc = false then .access s stLevel
  else .access (s.setAccess .service) stOk

/-- ACCESS with a level that is neither (R216). -/
def State.takeAccessOther (s : State) : Taken := .access s stValue

/-! ## STATUS (R213) -/

/-- Bytes filled with zeros to a length. -/
def padded (n : Nat) (bs : List Byte) : List Byte := bs ++ List.replicate (n - bs.length) 0

/-- A node record as STATUS sends it, 20 bytes (R213). -/
def State.recordBytes (s : State) (n : NodeAddr) : List Byte :=
  let r := s.node n
  let stored := s.nodes.storedBytes n
  [byte (nodeCode n), r.presence.code, byte (bit (!stored.isEmpty) + 2 * bit r.limited + 4 * bit r.held),
   codeOrNone r.lastCode] ++ be16 r.misses ++ be16 r.rejects ++ [byte r.repeats, byte stored.length] ++ padded 10 stored

/-- The STATUS reply (R213). -/
def State.statusReply (s : State) : List Byte :=
  [stOk, byte s.mode.code, s.progress.code, s.hli.access.code, byte (bit s.svc), byte s.level.code] ++ be16 s.factor ++
  [byte s.esc.machine.code, byte (bit s.demand.zone), s.demand.motion.code, byte (bit s.demand.stale)] ++
  be16 (s.nodes.socSeen.getD 0) ++ be32 s.demand.stops.toNat ++ be32 s.demand.distance.toNat ++ be32 s.runTime.toNat ++
  be16 s.nlc.crcErrors ++ be16 s.nlc.noise ++ be16 s.nlc.busResets ++ [byte s.nlc.failures] ++
  be16 s.hli.framingErrors ++ be16 s.hli.crcErrors ++ [byte s.nlc.queue.length, byte s.nlc.inbox.length] ++
  allNodes.flatMap s.recordBytes

/-- STATUS (R213). -/
def State.takeStatus (s : State) : Taken := .now s s.statusReply

/-! ## DESCRIBE (R214) -/

/-- The seven ASCII bytes "VABELIN" (R214). -/
def identityName : List Byte := [0x56, 0x41, 0x42, 0x45, 0x4C, 0x49, 0x4E]

/-- DESCRIBE page 0 (R214). -/
def State.takeIdentity (s : State) : Taken := .now s ([stOk, 2] ++ identityName ++ be16 620)

/-- DESCRIBE page 1 (R214). -/
def State.takeCapacities (s : State) : Taken := .now s [stOk, 7, 6, 32, 10, 16, 10, 4]

/-- DESCRIBE page 2 (R214). -/
def State.takeStoreState (s : State) : Taken :=
  .now s ([stOk] ++ be32 s.wear.generation.toNat ++ [s.wear.load.code, s.wear.lastSave.code])

/-- DESCRIBE with a page above 2 (R214). -/
def State.takePageOther (s : State) : Taken := .now s [stValue]

/-! ## TUNNEL (R75, R76, R78) -/

/-- Whether a tunnel slot is occupied: its entry is in the queue (R76). -/
def State.tunnelBusy (s : State) (i : Fin 4) : Bool := s.nlc.queue.any (fun e => e.kind == .tunnel i)

/-- The lowest-numbered free tunnel slot (R76). -/
def State.freeTunnel (s : State) : Option (Fin 4) := slotNumbers.find? (fun i => !s.tunnelBusy i)

/-- The first check of R75 that a TUNNEL SEND to a node fails, but for the tunnel slots. -/
def State.sendRefusal (s : State) (n : NodeAddr) : Option Byte :=
  match s.mode with
  | .ready => if isAux n = false then some stMode else if s.takes n = false then some stAbsent else none
  | .standby => if s.hli.access ≠ .service then some stLevel else if s.takes n = false then some stAbsent else none
  | .shutdown => some stMode
  | .parked => some stMode
  | .halted => some stMode

/-- A TUNNEL SEND that passed its checks: POSTED is answered at once, CONFIRMED later (R76). -/
def State.sendTunnel (n : NodeAddr) (i : Fin 4) (posted : Bool) (tag : Byte) (slot : Fin 4) (payload : List Byte) (s : State) :
    Taken :=
  let mode : ReplyMode := if posted then .posted else .confirmed tag slot
  let s := s.offerAt n (.tunnel i) payload 6 .tunnel mode
  if posted then .now s [stOk, 0, byte (i.val + 1)] else ⟨s, none⟩

/-- The reply mode of a TUNNEL SEND: 0 CONFIRMED, 1 POSTED; another value is answered VALUE (R212). -/
def postedOf (mode : Byte) : Option Bool := if mode = 0 then some false else if mode = 1 then some true else none

/-- TUNNEL SEND; `data` is the target, the reply mode and the frame payload (R75, R76). DESIGN CHOICE (log 42): a reply mode that
R212 does not define is answered VALUE before the MODE, LEVEL, ABSENT and FULL checks, where R75 gives it no place. -/
def State.takeTunnelSend (tag : Byte) (data : List Byte) (slot : Fin 4) (s : State) : Taken :=
  match nodeOfCode (byteAt data 0).toNat, postedOf (byteAt data 1) with
  | some n, some posted =>
    match s.sendRefusal n with
    | some status => .now s [status, 0]
    | none => match s.freeTunnel with
      | none => .now s [stFull, 0]
      | some i => s.sendTunnel n i posted tag slot (data.drop 2)
  | none, _ => .now s [stValue, 0]
  | some _, none => .now s [stValue, 0]

/-- TUNNEL FETCH (R78). -/
def State.takeTunnelFetch (s : State) : Taken :=
  match s.nlc.inbox with
  | [] => .now s [stOk, 1, 0, 0, 0]
  | f :: rest =>
    .now (s.setNlc { s.nlc with inbox := rest })
      ([stOk, 1, byte (nodeCode f.source), byte rest.length, byte f.payload.length] ++ f.payload)

/-! ## Completions of the wear store (R181, R182, R184, R185) -/

/-- The pending save begins once the load is complete (R181). -/
def State.beginWaiting (s : State) : State := s.setWear s.wear.beginWaiting

/-- The load completes: a good image is adopted; a bad one raises STORE_BAD (R181, R182). -/
def State.loadCompletes (s : State) : State :=
  match s.wear.store.goodBytes with
  | some bs => (s.loadGood bs).beginWaiting
  | none => ((s.loadBad).raise .storeBad 0).beginWaiting

/-- Whether a save's completion ends the shutdown (R6, R185). -/
def State.endsShutdown (s : State) (job : SaveJob) : Bool :=
  job.triggers.shutdown && s.mode == .shutdown && s.progress == .saving

/-- A save completes; one that carries SHUTDOWN in SHUTDOWN parks the part (R6, R184, R185; log 38). -/
def State.saveCompletes (readBack : Option (List Byte)) (s : State) : State :=
  match s.wear.save with
  | none => s
  | some job =>
    let parks := s.endsShutdown job
    let s := s.endSave job readBack
    if parks then s.enterParked else s

end Sys2Proof.Machine
end

