-- ==== Sys2Proof/Machine/Reception.lean ====
section
/-! DEFINITION. What the NLC makes of the waves on NRX: frames addressed to the 620 and their acknowledgement, other frames,
discarded frames, noise, bus resets, the completion of its own frames, and the idle bus (02_driveline_node_link.md). -/

namespace Sys2Proof.Machine

/-! ## The acknowledgement (R37, R38, R39) -/

/-- Where a good frame addressed to the 620 goes (R37). -/
inductive Destination where
  | nodeTable | tunnelInbox | nowhere
deriving DecidableEq, Repr

/-- Whether a report has its role's length (R37, R46). -/
def reportFits (n : NodeAddr) (payload : List Byte) : Bool := reportLength n == some payload.length

/-- The destination of a frame by source, class and length (R37); `none` is source address 0. -/
def destinationOf (source : Option NodeAddr) (cls : FrameClass) (payload : List Byte) : Destination :=
  match source, cls with
  | some n, .report => if reportFits n payload then .nodeTable else .nowhere
  | some _, .tunnel => .tunnelInbox
  | some _, .setpoint => .nowhere
  | some _, .command => .nowhere
  | none, _ => .nowhere

/-- The acknowledgement goes out from the end of the EOD; a failed echo check stops it at once (R37, R38, R41). The bus then
waits for idle by the 9-bit rule, as after a bit error of R27. DESIGN CHOICE (log 46): R38 does not say by which rule. -/
def State.driveAck (code : Byte) (eod : Nat) (w rest : Wave) (s : State) : State :=
  match ackEcho eod w 0 (bitsOf (ackFrame code)) with
  | none => s.setNlc { s.nlc with bus := (readWindow eod rest).bus, ack := some ⟨ackFrame code, eod, bitNs * 16⟩ }
  | some ns => s.setNlc { s.nlc with bus := .waiting, ack := some ⟨ackFrame code, eod, ns⟩ }

/-- How many frames the tunnel inbox holds at most (R39). -/
def inboxSize : Nat := 4

/-- A TUNNEL frame joins the inbox, with notice TUNNEL if it was empty (R39). -/
def State.appendInbox (n : NodeAddr) (payload : List Byte) (s : State) : State :=
  let wasEmpty := s.nlc.inbox.isEmpty
  let s := s.setNlc { s.nlc with inbox := s.nlc.inbox ++ [⟨n, payload⟩] }
  if wasEmpty then s.notify .tunnel (nodeCode n) else s

/-- The ack code a TUNNEL frame gets: NOT_READY when the inbox is full (R39). -/
def State.tunnelAck (s : State) : Byte := if s.nlc.inbox.length < inboxSize then ackAccepted else ackNotReady

/-- A TUNNEL frame is handed on: into the inbox, unless it is full; an AUX node's presence follows (R39, R60). -/
def State.handTunnel (n : NodeAddr) (payload : List Byte) (s : State) : State :=
  if s.nlc.inbox.length < inboxSize then (s.appendInbox n payload).auxPresence n else s.auxPresence n

/-- A report is handed to the Node Table, which takes none in PARKED (R37, R44; log 15). -/
def State.handReport (n : NodeAddr) (retry : Bool) (payload : List Byte) (s : State) : State :=
  if s.mode = .parked then s else s.takeReport n payload retry

/-- The reject count of a refused frame's source increments, in PARKED too while the NLC still answers (R37): R63 keeps reports out of
the records there, and no count. -/
def State.countReject (source : Option NodeAddr) (s : State) : State :=
  match source with
  | none => s
  | some n => s.setNode n { s.node n with rejects := satAdd max16 (s.node n).rejects 1 }

/-- The ack code the NLC decides on for a frame addressed to the 620 (R37). -/
def State.ackCode (source : Option NodeAddr) (cls : FrameClass) (payload : List Byte) (s : State) : Byte :=
  match destinationOf source cls payload with
  | .nodeTable => ackAccepted
  | .tunnelInbox => s.tunnelAck
  | .nowhere => ackInvalid

/-- A frame addressed to the 620 is handed on (R37). -/
def State.handFrame (source : Option NodeAddr) (cls : FrameClass) (retry : Bool) (payload : List Byte) (s : State) : State :=
  match source, destinationOf source cls payload with
  | some n, .nodeTable => s.handReport n retry payload
  | some n, .tunnelInbox => s.handTunnel n payload
  | some n, .nowhere => s.countReject (some n)
  | none, _ => s.countReject none

/-- The CRC-error counter (R36). -/
def State.countCrcError (bus : Bus) (s : State) : State :=
  s.setNlc { s.nlc with crcErrors := satAdd max16 s.nlc.crcErrors 1, bus := bus }

/-- A frame with a good CRC: one addressed to the 620 is acknowledged and handed on at the end of its EOD; the receiver only
finds the end of any other (R36, R37). -/
def State.goodFrame (h1 h2 : Byte) (payload : List Byte) (eod : Nat) (w rest : Wave) (s : State) : State :=
  if targetCode h1 = 0 then
    let code := s.ackCode (frameSource h2) (frameClass h1) payload
    (s.driveAck code eod w rest).handFrame (frameSource h2) (frameClass h1) (frameRetry h2) payload
  else s.setNlc { s.nlc with bus := (readWindow eod rest).bus }

/-- The receiver follows a frame from its SOF (R36). A first pulse that is no SOF begins no frame: a form error outside a frame
(R21, R23; log 46). DESIGN CHOICE (log 53): so does a first run longer than an SOF on the 620's own frame whose arbitration is then
lost, and it counts no CRC error. -/
def State.followFrame (w : Wave) (s : State) : State :=
  match readFrame w with
  | .nothing => s
  | .noSof => s.setNlc { s.nlc with bus := .waiting }
  | .good h1 h2 payload eod rest => s.goodFrame h1 h2 payload eod w rest
  | .badCrc eod rest => s.countCrcError (readWindow eod rest).bus
  | .formError => s.countCrcError .waiting
  | .brk => s

/-! ## Noise and single pulses (R21, R22) -/

/-- Noise pulses count (R22). -/
def State.countNoise (k : Nat) (s : State) : State := s.setNlc { s.nlc with noise := satAdd max16 s.nlc.noise k }

/-- A pulse of 0.5 µs or more where no symbol is expected: a form error. Inside a frame it ends the following of it (R36); in an
EOF or on the idle bus the receiver waits for idle by the 9-bit rule (R21, R23; log 46). -/
def State.strayPulse (s : State) : State :=
  match s.nlc.bus with
  | .following => s.countCrcError .waiting
  | .idle => s.setNlc { s.nlc with bus := .waiting }
  | .closing => s.setNlc { s.nlc with bus := .waiting }
  | .busy => s
  | .waiting => s

/-! ## Bus resets (R34, R35) -/

/-- How long the bus is dominant when a bus reset is recognised: 40 bit times (R34). -/
def resetNs : Nat := 160000

/-- Whether a bus reset is the third within 1000 ms (R35; log 24). -/
def State.thirdReset (s : State) : Bool :=
  match s.nlc.olderReset with
  | some t => decide (elapsed s.runTime t ≤ 1000)
  | none => false

/-- The bus-reset counter and the watch after a bus reset (R34, R35). -/
def LinkController.noteReset (now : Time) (n : LinkController) : LinkController :=
  { n with busResets := satAdd max16 n.busResets 1, olderReset := n.newerReset, newerReset := some now, quiet := some quietMs }

/-- The completion a bus reset gives a frame of the 620 that is in flight, settled or not yet read to its end (R29, R34). -/
def State.abortFrame (s : State) : State :=
  match s.nlc.tx with
  | .frame _ => s.settle .aborted .waiting
  | .ended _ _ _ => s.settle .aborted .waiting
  | .idle => s
  | .brk _ => s

/-- Whether the 620 drives a break. -/
def Tx.breaking : Tx → Bool
  | .brk .driving => true
  | .brk .recognised => true
  | .brk .released => false
  | .idle => false
  | .frame _ => false
  | .ended _ _ _ => false

/-- A frame of the 620 in flight is ABORTED; a received frame or an acknowledgement ends (R34, R38). -/
def State.abortBus (s : State) : State :=
  let s := s.abortFrame
  s.setNlc { s.nlc with bus := if s.nlc.tx.breaking then .busy else .waiting, ack := none }

/-- A bus reset is recognised (R34, R35). -/
def State.busResets (s : State) : State :=
  let s := s.abortBus
  let third := s.thirdReset
  let s := s.setNlc (s.nlc.noteReset s.runTime)
  let s := if third then s.raise .linkErrors (s.nlc.busResets % 256) else s
  s.linkCheck

/-- The NLC releases its break after 48 bit times (R33). -/
def State.releaseBreak (s : State) : State := (s.setNlc { s.nlc with tx := .brk .released, bus := .waiting }).linkCheck

/-- The rest of a break the NLC is sending: it is recognised as a bus reset, once, and released (R33, R34). -/
def State.finishBreak (s : State) : State :=
  match s.nlc.tx with
  | .brk .driving => s.busResets.releaseBreak
  | .brk .recognised => s.releaseBreak
  | .brk .released => s
  | .idle => s
  | .frame _ => s
  | .ended _ _ _ => s

/-- The NLC's own break after a dominant run: past 40 bit times it is recognised, past 48 released (R33, R34). -/
def State.breakRuns (ns : Nat) (s : State) : State :=
  if breakNs ≤ ns then s.finishBreak
  else match s.nlc.tx with
    | .brk .driving => let s := s.busResets; s.setNlc { s.nlc with tx := .brk .recognised }
    | .brk .recognised => s
    | .brk .released => s
    | .idle => s
    | .frame _ => s
    | .ended _ _ _ => s

/-- A dominant run of 40 bit times or more: one bus reset, whoever drives it (R34). -/
def State.resetRun (ns : Nat) (s : State) : State := if s.nlc.tx.breaking then s.breakRuns ns else s.busResets

/-- A dominant pulse outside the symbols of a frame, by its length: noise, the SOF of a node's frame, a bus reset, or a form error. A
run that goes on past a bus reset by which the NLC leaves the link wakes the part (R9, R21, R22, R34, R42; log 14). -/
def State.dominantPulse (ns : Nat) (s : State) : State :=
  match classifyPulse ns with
  | .noise => s.countNoise 1
  | .brk => (s.resetRun ns).levelAfter (decide (resetNs < ns))
  | .sof => if s.nlc.bus = .idle then s.setNlc { s.nlc with bus := .following } else s.strayPulse
  | .bit1 => s.strayPulse
  | .bit0 => s.strayPulse
  | .formError => s.strayPulse

/-- The quiet timer expires: the cause of LINK_ERRORS ends (R35). -/
def State.quietExpires (s : State) : State := (s.setNlc { s.nlc with quiet := none }).endCause .linkErrors

/-! ## Frames of the 620 (R27 to R32) -/

/-- The completion of the frame in flight is settled at the end of its ack window, and the link is left or falls silent if its time
has come (R29, R42, R43). -/
def State.settleNow (c : Completion) (bus : Bus) (s : State) : State := (s.settle c bus).linkCheck

/-- The NLC has released the bus at a moment and waits for the idle bus, where the completion is settled (R27, R29, R41). -/
def State.endFrame (c : Completion) (bytes : List Byte) (releasedNs : Nat) (bus : Bus) (s : State) : State :=
  s.setNlc { s.nlc with tx := .ended c bytes releasedNs, bus := bus }

/-- What became of the 620's own frame, by the wave it reads back; after a lost arbitration it follows the winning frame, whose
first bits it has read back (R27, R28). -/
def State.ownFrame (bytes : List Byte) (w : Wave) (s : State) : State :=
  match sendOutcome bytes w with
  | .emptyWindow _ bus => s.settleNow .noAck bus
  | .acked code crc _ bus => s.settleNow (completionOfWindow code crc) bus
  | .windowError ns => s.endFrame .ackCrc bytes ns .waiting
  | .lost ns => (s.endFrame .lost bytes ns .following).followFrame w
  | .bitErr ns => s.endFrame .bitErr bytes ns .waiting
  | .brk => s

/-! ## A wave on the bus -/

/-- A frame begins on the bus: the 620's own, or one that the receiver follows from the idle bus, or none it may follow: within an
EOF its SOF is a form error, where a wave of nothing but noise begins none, and while the receiver waits for 9 recessive bit times
it follows nothing (R21, R22, R23, R36). -/
def State.frameOnBus (w : Wave) (s : State) : State :=
  match s.nlc.tx with
  | .frame bytes => s.ownFrame bytes w
  | .brk _ => s
  | .ended _ _ _ => s
  | .idle => match s.nlc.bus with
    | .idle => s.followFrame w
    | .following => s.followFrame w
    | .closing => if readFrame w = .nothing then s else s.strayPulse
    | .busy => s
    | .waiting => s

/-- The moment at which a wave settles a frame of the 620: from then on the NLC may be off the link (R29, R42, R43). -/
def State.settledBy (w : Wave) (s : State) : Option Nat :=
  match s.nlc.tx with
  | .frame bytes => (sendOutcome bytes w).settledNs
  | .idle => none
  | .ended _ _ _ => none
  | .brk _ => none

/-- A pulse on which the NLC cannot have left the link yet: one before the moment at which its frame is settled, and before any
break. -/
def heardFirst (settled : Option Nat) (p : Pulse) : Bool :=
  classifyPulse p.width != .brk && (match settled with | none => true | some ns => decide (p.edge < ns))

/-- A later pulse of a wave, while the NLC receives: noise counts, and each run of 40 bit times or more is a bus reset. Once the
NLC is off the link or the link is silent it receives nothing (R22, R34, R42, R43). -/
def State.laterPulse (s : State) (p : Pulse) : State :=
  if s.nlc.link.receives then
    match classifyPulse p.width with
    | .noise => s.countNoise 1
    | .brk => s.resetRun p.width
    | .bit1 => s
    | .bit0 => s
    | .sof => s
    | .formError => s
  else s

/-- The moment of a wave at which the NLC may leave the link: where a frame of the 620 is settled, else the recognition of the first
bus reset (R29, R34, R42). -/
def State.mayLeaveAt (w : Wave) (s : State) : Option Nat :=
  match s.settledBy w with
  | some ns => some ns
  | none => (w.find? (fun p => classifyPulse p.width == .brk)).map (fun p => p.edge + resetNs)

/-- Whether the bus is dominant at some time past that moment. -/
def State.dominantLater (w : Wave) (s : State) : Bool :=
  match s.mayLeaveAt w with
  | some ns => w.any (fun p => decide (ns < p.edge + p.width))
  | none => false

/-- A wave on NRX: its noise counts, its frame is taken, and every break in it is a bus reset. The noise from the moment at which
the 620's own frame is settled, or from the first break on, and the breaks themselves, reach the NLC only while it still receives;
a dominant level of the wave from which the NLC is off the link wakes the part instead (R9, R22, R34, R42, R43). -/
def State.wave (w : Wave) (s : State) : State :=
  let settled := s.settledBy w
  ((w.dropWhile (heardFirst settled)).foldl State.laterPulse
    ((s.countNoise (noiseCount (w.takeWhile (heardFirst settled)))).frameOnBus w)).levelAfter (s.dominantLater w)

/-- The wave of the 620's own frame; with no frame of it on the bus there is nothing to complete. -/
def State.ownWave (w : Wave) (s : State) : State :=
  match s.nlc.tx with
  | .frame _ => s.wave w
  | .idle => s
  | .ended _ _ _ => s
  | .brk _ => s

/-! ## The bus falls idle (R23, R29, R33) -/

/-- What the idle bus ends: a break of the NLC; a completion that was to be settled at idle; a followed frame that brought no
further symbol (R29, R33, R36). -/
def State.atIdle (s : State) : State :=
  let s := s.finishBreak
  let s := match s.nlc.tx with
    | .ended c _ _ => s.settle c .waiting
    | .frame _ => s
    | .idle => s
    | .brk _ => s
  if s.nlc.bus = .following then s.countCrcError .waiting else s

/-- The NLC acts on the idle bus: a due break is sent; else the link is left or falls silent if its time has come, where a node that
has begun wakes a part that leaves; else, unless another node has begun, the first unheld entry is started (R9, R23, R33, R42,
R43). -/
def State.actAtIdle (taken : Bool) (s : State) : State :=
  if s.nlc.breakDue then
    s.setNlc { s.nlc with tx := .brk .driving, bus := .busy, breakDue := false, failures := 0, ack := none }
  else
    let s := (s.setNlc { s.nlc with tx := .idle, ack := none }).linkCheck
    if s.nlc.link.sends then
      if taken then s.setNlc { s.nlc with bus := .following } else s.startFrame
    else s.levelAfter taken

/-- The bus is idle. While the 620's own frame is on the bus it is not (R23). -/
def State.busFellIdle (taken : Bool) (s : State) : State :=
  match s.nlc.tx with
  | .frame _ => s
  | .idle => s.atIdle.actAtIdle taken
  | .ended _ _ _ => s.atIdle.actAtIdle taken
  | .brk _ => s.atIdle.actAtIdle taken

end Sys2Proof.Machine
end

