-- ==== Sys2Proof/Machine/HostRequests.lean ====
section
/-! DEFINITION. The request kinds as the HLI checks and hands them on (11_host_link.md section 11.3, R207), and the frames it
discards (R205, R207). In each, `data` is the payload after the byte that fixes the row, or the whole payload. -/

namespace Sys2Proof.Machine

/-! ## One request, one owner (section 11.3) -/

/-- An immediate request: nothing of it is deferred, and HALTED answers it MODE (R207). -/
def State.plain (tag kind : Byte) (lengthOk : Bool) (owner : State → Taken) (s : State) : State :=
  s.request tag kind false false (lengthForm lengthOk) (fun _ s => owner s)

/-- STATUS and DESCRIBE are answered in HALTED too (R10, R207). -/
def State.readable (tag kind : Byte) (lengthOk : Bool) (owner : State → Taken) (s : State) : State :=
  s.request tag kind false true (lengthForm lengthOk) (fun _ s => owner s)

/-- DEMAND, kind 0x01. -/
def State.reqDemand (tag : Byte) (data : List Byte) (s : State) : State :=
  s.plain tag 0x01 (data.length == 13) (State.takeDemand data)

/-- ROUTE ZONE_ENTER, kind 0x02 sub-operation 0. -/
def State.reqZoneEnter (tag : Byte) (data : List Byte) (s : State) : State :=
  s.plain tag 0x02 data.isEmpty State.takeZoneEnter

/-- ROUTE ZONE_EXIT, kind 0x02 sub-operation 1. -/
def State.reqZoneExit (tag : Byte) (data : List Byte) (s : State) : State :=
  s.plain tag 0x02 data.isEmpty State.takeZoneExit

/-- ROUTE SCHEDULE, kind 0x02 sub-operation 2. -/
def State.reqSchedule (tag : Byte) (data : List Byte) (s : State) : State :=
  s.plain tag 0x02 (data.length == 3) (State.takeSchedule data)

/-- ROUTE CANCEL, kind 0x02 sub-operation 3. -/
def State.reqCancel (tag : Byte) (data : List Byte) (s : State) : State :=
  s.plain tag 0x02 data.isEmpty State.takeCancel

/-- ENGINE START, kind 0x03 sub-operation 0. -/
def State.reqEngineStart (tag : Byte) (data : List Byte) (s : State) : State :=
  s.plain tag 0x03 (data.length == 1) (State.takeEngineStart data)

/-- ENGINE STOP, kind 0x03 sub-operation 1. -/
def State.reqEngineStop (tag : Byte) (data : List Byte) (s : State) : State :=
  s.plain tag 0x03 (data.length == 1) (State.takeEngineStop data)

/-- ENGINE AUTO_ON, kind 0x03 sub-operation 2. -/
def State.reqAutoOn (tag : Byte) (data : List Byte) (s : State) : State :=
  s.plain tag 0x03 (data.length == 1) State.takeAutoOn

/-- ENGINE AUTO_OFF, kind 0x03 sub-operation 3. -/
def State.reqAutoOff (tag : Byte) (data : List Byte) (s : State) : State :=
  s.plain tag 0x03 (data.length == 1) State.takeAutoOff

/-- ENGINE RESET_FAULT, kind 0x03 sub-operation 4. -/
def State.reqResetFault (tag : Byte) (data : List Byte) (s : State) : State :=
  s.plain tag 0x03 (data.length == 1) State.takeResetFault

/-- MODE with its target's owner, kind 0x04. -/
def State.reqMode (tag : Byte) (data : List Byte) (owner : State → Taken) (s : State) : State :=
  s.plain tag 0x04 data.isEmpty owner

/-- STATUS, kind 0x05. -/
def State.reqStatus (tag : Byte) (data : List Byte) (s : State) : State :=
  s.readable tag 0x05 data.isEmpty State.takeStatus

/-- NOTICES, kind 0x06. -/
def State.reqNotices (tag : Byte) (data : List Byte) (s : State) : State :=
  s.plain tag 0x06 data.isEmpty State.takeNotices

/-- EVENTS, kind 0x07. -/
def State.reqEvents (tag : Byte) (data : List Byte) (s : State) : State :=
  s.plain tag 0x07 (data.length == 4) (State.takeEvents data)

/-- WEAR_READ, kind 0x08. -/
def State.reqWearRead (tag : Byte) (data : List Byte) (s : State) : State :=
  s.plain tag 0x08 data.isEmpty State.takeWearRead

/-- WEAR_RESET, kind 0x09. -/
def State.reqWearReset (tag : Byte) (data : List Byte) (s : State) : State :=
  s.plain tag 0x09 (data.length == 9) (State.takeWearReset data)

/-- CONFIG_SET, kind 0x0A. -/
def State.reqConfigSet (tag : Byte) (data : List Byte) (s : State) : State :=
  s.plain tag 0x0A (data.length == 5) (State.takeConfigSet data)

/-- CONFIG_GET, kind 0x0B. -/
def State.reqConfigGet (tag : Byte) (data : List Byte) (s : State) : State :=
  s.plain tag 0x0B (data.length == 1) (State.takeConfigGet data)

/-- FAULTS with its page, kind 0x0C. -/
def State.reqFaults (tag page : Byte) (data : List Byte) (s : State) : State :=
  s.plain tag 0x0C data.isEmpty (State.takeFaults page)

/-- FAULT_CLEAR, kind 0x0D. -/
def State.reqFaultClear (tag : Byte) (data : List Byte) (s : State) : State :=
  s.plain tag 0x0D (data.length == 1) (State.takeFaultClear data)

/-- RESPONSE_SET, kind 0x0E. -/
def State.reqResponseSet (tag : Byte) (data : List Byte) (s : State) : State :=
  s.plain tag 0x0E (data.length == 3) (State.takeResponseSet data)

/-- ACCESS with its level's owner, kind 0x0F. -/
def State.reqAccess (tag : Byte) (data : List Byte) (owner : State → Taken) (s : State) : State :=
  s.plain tag 0x0F data.isEmpty owner

/-- Whether a TUNNEL SEND asks for a CONFIRMED reply: its reply mode byte is there and 0 (R76, section 11.3). -/
def confirmedSend (data : List Byte) : Bool := decide (2 ≤ data.length) && byteAt data 1 == 0

/-- TUNNEL SEND, kind 0x10 sub-operation 0: 3 to 15 payload bytes (R75, R208). -/
def State.reqTunnelSend (tag : Byte) (data : List Byte) (s : State) : State :=
  s.request tag 0x10 (confirmedSend data) false (lengthForm (decide (2 ≤ data.length) && decide (data.length ≤ 14)))
    (State.takeTunnelSend tag data)

/-- TUNNEL FETCH, kind 0x10 sub-operation 1. -/
def State.reqTunnelFetch (tag : Byte) (data : List Byte) (s : State) : State :=
  s.plain tag 0x10 data.isEmpty State.takeTunnelFetch

/-- DESCRIBE with its page's owner, kind 0x11. -/
def State.reqDescribe (tag : Byte) (data : List Byte) (owner : State → Taken) (s : State) : State :=
  s.readable tag 0x11 data.isEmpty owner

/-! ## Frames that no row names -/

/-- A frame answered by R207 alone: kind, sub-operation or length. -/
def State.answerForm (tag kind : Byte) (form : Form) (s : State) : State :=
  s.request tag kind false false form (fun _ s => .now s [stUnknown])

/-- A ROUTE frame by its sub-operation (R207). -/
def State.frameRoute (tag : Byte) (s : State) : List Byte → State
  | [] => s.answerForm tag 0x02 .badLength
  | sub :: rest =>
    match sub.toNat with
    | 0 => s.reqZoneEnter tag rest
    | 1 => s.reqZoneExit tag rest
    | 2 => s.reqSchedule tag rest
    | 3 => s.reqCancel tag rest
    | _ => s.answerForm tag 0x02 .unknownSub

/-- An ENGINE frame by its sub-operation (R158, R207). -/
def State.frameEngine (tag : Byte) (s : State) : List Byte → State
  | [] => s.answerForm tag 0x03 .badLength
  | sub :: rest =>
    match sub.toNat with
    | 0 => s.reqEngineStart tag rest
    | 1 => s.reqEngineStop tag rest
    | 2 => s.reqAutoOn tag rest
    | 3 => s.reqAutoOff tag rest
    | 4 => s.reqResetFault tag rest
    | _ => s.answerForm tag 0x03 .unknownSub

/-- The owner of a MODE target; a value that is none of the five is answered VALUE (R2). -/
def modeOwner (target : Byte) : State → Taken :=
  match target.toNat with
  | 0 => State.takeModePark
  | 1 => State.takeModeStandby
  | 2 => State.takeModeReady
  | 3 => State.takeModeShutdown
  | 4 => State.takeModeHalt
  | _ => State.takeModeOther

/-- A MODE frame by its target. -/
def State.frameMode (tag : Byte) (s : State) : List Byte → State
  | [] => s.answerForm tag 0x04 .badLength
  | target :: rest => s.reqMode tag rest (modeOwner target)

/-- A FAULTS frame by its page. -/
def State.frameFaults (tag : Byte) (s : State) : List Byte → State
  | [] => s.answerForm tag 0x0C .badLength
  | page :: rest => s.reqFaults tag page rest

/-- The owner of an ACCESS level; a value that is neither is answered VALUE (R216). -/
def accessOwner (level : Byte) : State → Taken :=
  match level.toNat with
  | 0 => State.takeAccessDrive
  | 1 => State.takeAccessService
  | _ => State.takeAccessOther

/-- An ACCESS frame by its level. -/
def State.frameAccess (tag : Byte) (s : State) : List Byte → State
  | [] => s.answerForm tag 0x0F .badLength
  | level :: rest => s.reqAccess tag rest (accessOwner level)

/-- A TUNNEL frame by its sub-operation (R207). -/
def State.frameTunnel (tag : Byte) (s : State) : List Byte → State
  | [] => s.answerForm tag 0x10 .badLength
  | sub :: rest =>
    match sub.toNat with
    | 0 => s.reqTunnelSend tag rest
    | 1 => s.reqTunnelFetch tag rest
    | _ => s.answerForm tag 0x10 .unknownSub

/-- The owner of a DESCRIBE page; a page above 2 is answered VALUE (R214). -/
def pageOwner (page : Byte) : State → Taken :=
  match page.toNat with
  | 0 => State.takeIdentity
  | 1 => State.takeCapacities
  | 2 => State.takeStoreState
  | _ => State.takePageOther

/-- A DESCRIBE frame by its page; with no page it is answered LENGTH. -/
def State.frameDescribe (tag : Byte) (s : State) : List Byte → State
  | [] => s.answerForm tag 0x11 .badLength
  | page :: rest => s.reqDescribe tag rest (pageOwner page)

/-- A completed frame with a good CRC, whatever its kind; `data` is its whole payload (R207). -/
def State.hostFrame (tag kind : Byte) (data : List Byte) (s : State) : State :=
  match kind.toNat with
  | 0x01 => s.reqDemand tag data
  | 0x02 => s.frameRoute tag data
  | 0x03 => s.frameEngine tag data
  | 0x04 => s.frameMode tag data
  | 0x05 => s.reqStatus tag data
  | 0x06 => s.reqNotices tag data
  | 0x07 => s.reqEvents tag data
  | 0x08 => s.reqWearRead tag data
  | 0x09 => s.reqWearReset tag data
  | 0x0A => s.reqConfigSet tag data
  | 0x0B => s.reqConfigGet tag data
  | 0x0C => s.frameFaults tag data
  | 0x0D => s.reqFaultClear tag data
  | 0x0E => s.reqResponseSet tag data
  | 0x0F => s.frameAccess tag data
  | 0x10 => s.frameTunnel tag data
  | 0x11 => s.frameDescribe tag data
  | _ => s.answerForm tag kind .unknownKind

/-! ## Frames the HLI discards (R205, R207, R210) -/

/-- The framing counter counts, and the framer returns to HUNT (R205). -/
def State.countFraming (s : State) : State :=
  s.setHli { s.hli with framer := .hunt, framingErrors := satAdd max16 s.hli.framingErrors 1 }

/-- The byte received where the length byte stands (R205). -/
def State.lengthByte (b : Byte) (s : State) : State :=
  match Framer.length.receive (some b) with
  | (_, .framingError) => s.countFraming
  | (f, .quiet) => s.setHli { s.hli with framer := f }
  | (f, .complete _ _) => s.setHli { s.hli with framer := f }

/-- A framing error: a byte that is no length, or a bad byte inside a frame (R205); in PARKED it only wakes (R9). -/
def State.framingError (cause : FramingFault) (s : State) : State :=
  if s.mode = .parked then s.hostEdge
  else match cause with
    | .lengthByte b => s.lengthByte b
    | .badByte => s.countFraming

/-- A gap inside a frame: longer than 200 µs, it discards the frame (R205); in PARKED no frame is received. -/
def State.gapTimeout (us : Nat) (s : State) : State := if s.mode = .parked ∨ us ≤ 200 then s else s.countFraming

/-- A completed frame whose CRC-16 does not match: discarded unanswered and counted (R207). -/
def State.discardCrc (s : State) : State :=
  s.setHli { s.hli with framer := .hunt, crcErrors := satAdd max16 s.hli.crcErrors 1 }

/-- A completed frame, its tag, kind and payload bytes, and the CRC-16 it carries (R206, R207). One whose CRC matches is the
request it spells. -/
def State.completeHostFrame (body : List Byte) (crc : BitVec 16) (s : State) : State :=
  if s.mode = .parked then s.hostEdge
  else if crc16 (byte body.length :: body) = crc then
    match body with
    | tag :: kind :: data => s.hostFrame tag kind data
    | [_] => s
    | [] => s
  else s.discardCrc

/-- nRESYNC: a low pulse of 20 µs or more returns the framer to HUNT; nothing is counted (R210). -/
def State.resync (us : Nat) (s : State) : State :=
  if s.mode = .parked ∨ us < 20 then s else s.setHli { s.hli with framer := .hunt }

end Sys2Proof.Machine
end

