-- ==== Sys2Proof/Machine/ExecPins.lean ====
section
/-! DEFINITION. The commands of the pins and the supply: POWER_ON to WAKE_END, and POWER_LOSS. -/

namespace Sys2Proof.Machine

/-! ## The supply (R188) -/

/-- A command reaches a powered part; an unpowered one takes none (log 9). -/
def State.powered (act : State → State) (s : State) : Host.Outcome State Fault Refusal :=
  .next (if s.supply = .on then act s else s)

/-- Power-on and nRESET: every block at its reset values, a save in flight cut off, the load begun again (R1, R188). -/
def State.restart (cut : WriteCut) (s : State) : State := .afterReset (s.wear.cutStore cut) s.svc s.pending

/-- The loss of the supply: all but the wear store and the SVC pin is lost (R188; log 9). -/
def State.losePower (cut : WriteCut) (s : State) : State := (s.restart cut).setSupply .off |>.setKeep false

/-- SVC going low (R215). -/
def State.svcFalls (s : State) : State := (s.setSvc false).setAccess .drive

/-- The end of a wake, if one is in progress (R9). -/
def State.endWake (s : State) : State := if s.mode = .parked ∧ s.waking = true then s.wakeEnds else s

/-- POWER_ON (R1, R188). -/
def execPowerOn (cut : WriteCut) (s : State) : Host.Outcome State Fault Refusal :=
  .next (s.restart cut)

/-- NRESET: taken in every mode (R1, R188). -/
def execNreset (cut : WriteCut) (s : State) : Host.Outcome State Fault Refusal :=
  s.powered (State.restart cut)

/-- NRESYNC (R210). -/
def execNresync (widthUs : Nat) (s : State) : Host.Outcome State Fault Refusal :=
  s.powered (State.resync widthUs)

/-- SVC_LOW: the pin itself needs no supply (R215). -/
def execSvcLow (s : State) : Host.Outcome State Fault Refusal :=
  .next s.svcFalls

/-- SVC_HIGH leaves the level as it stands (R215). -/
def execSvcHigh (s : State) : Host.Outcome State Fault Refusal :=
  .next (s.setSvc true)

/-- WAKE_ON_HRX (R9). -/
def execWakeOnHrx (s : State) : Host.Outcome State Fault Refusal :=
  s.powered State.hostEdge

/-- WAKE_ON_NODE (R9, R42). -/
def execWakeOnNode (s : State) : Host.Outcome State Fault Refusal :=
  s.powered State.nodeEdge

/-- WAKE_END (R9). -/
def execWakeEnd (s : State) : Host.Outcome State Fault Refusal :=
  s.powered State.endWake

/-- POWER_LOSS (R188). -/
def execPowerLoss (cut : WriteCut) (s : State) : Host.Outcome State Fault Refusal :=
  s.powered (State.losePower cut)

end Sys2Proof.Machine
end

