-- ==== Sys2Proof/Machine/ExecHost.lean ====
section
/-! DEFINITION. The commands of the host link: frames, replies, and one meaning per request row. -/

namespace Sys2Proof.Machine

/-- HOST_FRAME_BAD_CRC (R207). -/
def execHostFrameBadCrc (body : List Byte) (crc : BitVec 16) (s : State) : Host.Outcome State Fault Refusal :=
  s.powered (State.completeHostFrame body crc)

/-- HOST_FRAMING_ERROR (R205). -/
def execHostFramingError (cause : FramingFault) (s : State) : Host.Outcome State Fault Refusal :=
  s.powered (State.framingError cause)

/-- INTER_BYTE_GAP_TIMEOUT (R205). -/
def execInterByteGapTimeout (gapUs : Nat) (s : State) : Host.Outcome State Fault Refusal :=
  s.powered (State.gapTimeout gapUs)

/-- REQUEST_UNKNOWN_KIND: a frame no other row names; `data` is its whole payload (R207). -/
def execRequestUnknownKind (tag : Byte) (kind : Byte) (data : List Byte) (s : State) :
    Host.Outcome State Fault Refusal :=
  s.powered (State.hostFrame tag kind data)

/-- REPLY_END (R208, R209). -/
def execReplyEnd (s : State) : Host.Outcome State Fault Refusal :=
  s.powered State.endReply

/-- DEMAND (R13). -/
def execDemand (tag : Byte) (data : List Byte) (s : State) : Host.Outcome State Fault Refusal :=
  s.powered (State.reqDemand tag data)

/-- ROUTE_ZONE_ENTER (R19). -/
def execRouteZoneEnter (tag : Byte) (data : List Byte) (s : State) : Host.Outcome State Fault Refusal :=
  s.powered (State.reqZoneEnter tag data)

/-- ROUTE_ZONE_EXIT (R19). -/
def execRouteZoneExit (tag : Byte) (data : List Byte) (s : State) : Host.Outcome State Fault Refusal :=
  s.powered (State.reqZoneExit tag data)

/-- ROUTE_SCHEDULE (R160). -/
def execRouteSchedule (tag : Byte) (data : List Byte) (s : State) : Host.Outcome State Fault Refusal :=
  s.powered (State.reqSchedule tag data)

/-- ROUTE_CANCEL (R160). -/
def execRouteCancel (tag : Byte) (data : List Byte) (s : State) : Host.Outcome State Fault Refusal :=
  s.powered (State.reqCancel tag data)

/-- ENGINE_START (R148). -/
def execEngineStart (tag : Byte) (data : List Byte) (s : State) : Host.Outcome State Fault Refusal :=
  s.powered (State.reqEngineStart tag data)

/-- ENGINE_STOP (R151, R158). -/
def execEngineStop (tag : Byte) (data : List Byte) (s : State) : Host.Outcome State Fault Refusal :=
  s.powered (State.reqEngineStop tag data)

/-- ENGINE_AUTO_ON (R155). -/
def execEngineAutoOn (tag : Byte) (data : List Byte) (s : State) : Host.Outcome State Fault Refusal :=
  s.powered (State.reqAutoOn tag data)

/-- ENGINE_AUTO_OFF (R155). -/
def execEngineAutoOff (tag : Byte) (data : List Byte) (s : State) : Host.Outcome State Fault Refusal :=
  s.powered (State.reqAutoOff tag data)

/-- ENGINE_RESET_FAULT (R154). -/
def execEngineResetFault (tag : Byte) (data : List Byte) (s : State) : Host.Outcome State Fault Refusal :=
  s.powered (State.reqResetFault tag data)

/-- MODE_READY (R3). -/
def execModeReady (tag : Byte) (data : List Byte) (s : State) : Host.Outcome State Fault Refusal :=
  s.powered (State.reqMode tag data State.takeModeReady)

/-- MODE_STANDBY (R5). -/
def execModeStandby (tag : Byte) (data : List Byte) (s : State) : Host.Outcome State Fault Refusal :=
  s.powered (State.reqMode tag data State.takeModeStandby)

/-- MODE_SHUTDOWN (R6). -/
def execModeShutdown (tag : Byte) (data : List Byte) (s : State) : Host.Outcome State Fault Refusal :=
  s.powered (State.reqMode tag data State.takeModeShutdown)

/-- MODE_PARK (R8). -/
def execModePark (tag : Byte) (data : List Byte) (s : State) : Host.Outcome State Fault Refusal :=
  s.powered (State.reqMode tag data State.takeModePark)

/-- MODE_HALT (R10). -/
def execModeHalt (tag : Byte) (data : List Byte) (s : State) : Host.Outcome State Fault Refusal :=
  s.powered (State.reqMode tag data State.takeModeHalt)

/-- STATUS (R213). -/
def execStatus (tag : Byte) (data : List Byte) (s : State) : Host.Outcome State Fault Refusal :=
  s.powered (State.reqStatus tag data)

/-- NOTICES (R203). -/
def execNotices (tag : Byte) (data : List Byte) (s : State) : Host.Outcome State Fault Refusal :=
  s.powered (State.reqNotices tag data)

/-- EVENTS (R117). -/
def execEvents (tag : Byte) (data : List Byte) (s : State) : Host.Outcome State Fault Refusal :=
  s.powered (State.reqEvents tag data)

/-- WEAR_READ (R175). -/
def execWearRead (tag : Byte) (data : List Byte) (s : State) : Host.Outcome State Fault Refusal :=
  s.powered (State.reqWearRead tag data)

/-- WEAR_RESET (R176, R177, R178). -/
def execWearReset (tag : Byte) (data : List Byte) (s : State) : Host.Outcome State Fault Refusal :=
  s.powered (State.reqWearReset tag data)

/-- CONFIG_SET (R217). -/
def execConfigSet (tag : Byte) (data : List Byte) (s : State) : Host.Outcome State Fault Refusal :=
  s.powered (State.reqConfigSet tag data)

/-- CONFIG_GET (R220). -/
def execConfigGet (tag : Byte) (data : List Byte) (s : State) : Host.Outcome State Fault Refusal :=
  s.powered (State.reqConfigGet tag data)

/-- FAULTS_LIST, FAULTS page 0 (R199). -/
def execFaultsList (tag : Byte) (data : List Byte) (s : State) : Host.Outcome State Fault Refusal :=
  s.powered (State.reqFaults tag 0 data)

/-- FAULTS_TABLE, FAULTS page 1 (R199). -/
def execFaultsTable (tag : Byte) (data : List Byte) (s : State) : Host.Outcome State Fault Refusal :=
  s.powered (State.reqFaults tag 1 data)

/-- FAULT_CLEAR (R198). -/
def execFaultClear (tag : Byte) (data : List Byte) (s : State) : Host.Outcome State Fault Refusal :=
  s.powered (State.reqFaultClear tag data)

/-- RESPONSE_SET (R190). -/
def execResponseSet (tag : Byte) (data : List Byte) (s : State) : Host.Outcome State Fault Refusal :=
  s.powered (State.reqResponseSet tag data)

/-- ACCESS_DRIVE (R216). -/
def execAccessDrive (tag : Byte) (data : List Byte) (s : State) : Host.Outcome State Fault Refusal :=
  s.powered (State.reqAccess tag data State.takeAccessDrive)

/-- ACCESS_SERVICE (R216). -/
def execAccessService (tag : Byte) (data : List Byte) (s : State) : Host.Outcome State Fault Refusal :=
  s.powered (State.reqAccess tag data State.takeAccessService)

/-- TUNNEL_SEND (R75, R76). -/
def execTunnelSend (tag : Byte) (data : List Byte) (s : State) : Host.Outcome State Fault Refusal :=
  s.powered (State.reqTunnelSend tag data)

/-- TUNNEL_FETCH (R78). -/
def execTunnelFetch (tag : Byte) (data : List Byte) (s : State) : Host.Outcome State Fault Refusal :=
  s.powered (State.reqTunnelFetch tag data)

/-- DESCRIBE_IDENTITY, DESCRIBE page 0 (R214). -/
def execDescribeIdentity (tag : Byte) (data : List Byte) (s : State) : Host.Outcome State Fault Refusal :=
  s.powered (State.reqDescribe tag data State.takeIdentity)

/-- DESCRIBE_CAPACITIES, DESCRIBE page 1 (R214). -/
def execDescribeCapacities (tag : Byte) (data : List Byte) (s : State) : Host.Outcome State Fault Refusal :=
  s.powered (State.reqDescribe tag data State.takeCapacities)

/-- DESCRIBE_STORE, DESCRIBE page 2 (R214). -/
def execDescribeStore (tag : Byte) (data : List Byte) (s : State) : Host.Outcome State Fault Refusal :=
  s.powered (State.reqDescribe tag data State.takeStoreState)

end Sys2Proof.Machine
end

