-- ==== Sys2Proof/Machine/ExecLink.lean ====
section
/-! DEFINITION. The commands of the driveline node link. -/

namespace Sys2Proof.Machine

/-- What only a link that receives does: a completed frame wakes nobody (R42, R43). -/
def State.whileLinked (act : State → State) (s : State) : State := if s.nlc.link.receives then act s else s

/-- REPORT_RECEIVED: the part reads the wave (R36, R37, R48). -/
def execReportReceived (_source : NodeAddr) (_retry : Bool) (_payload : List Byte) (wave : Wave) (s : State) :
    Host.Outcome State Fault Refusal :=
  s.powered (State.onLink (State.wave wave))

/-- TUNNEL_FRAME_RECEIVED: the part reads the wave (R36, R39, R60). -/
def execTunnelFrameReceived (_source : NodeAddr) (_retry : Bool) (_payload : List Byte) (wave : Wave) (s : State) :
    Host.Outcome State Fault Refusal :=
  s.powered (State.onLink (State.wave wave))

/-- NODE_FRAME_REFUSED: the part reads the wave (R36, R37). -/
def execNodeFrameRefused (_source : Option NodeAddr) (_cls : FrameClass) (_retry : Bool) (_payload : List Byte) (wave : Wave)
    (s : State) : Host.Outcome State Fault Refusal :=
  s.powered (State.onLink (State.wave wave))

/-- DNL_FRAME_CRC_ERROR (R36). -/
def execDnlFrameCrcError (wave : Wave) (s : State) : Host.Outcome State Fault Refusal :=
  s.powered (State.onLink (State.wave wave))

/-- NOISE_PULSE (R21, R22). -/
def execNoisePulse (lengthNs : Nat) (s : State) : Host.Outcome State Fault Refusal :=
  s.powered (State.onLink (State.dominantPulse lengthNs))

/-- An idle bus off the link: only the level of a node that has begun a frame concerns the part (R9, R42). -/
def State.idleOnLink (taken : Bool) (s : State) : State :=
  if s.nlc.link.receives then s.busFellIdle taken else s.levelAfter taken

/-- BUS_IDLE (R23, R29, R33). -/
def execBusIdle (taken : Bool) (s : State) : Host.Outcome State Fault Refusal :=
  s.powered (State.idleOnLink taken)

/-- BUS_RESET (R34, R35). -/
def execBusReset (dominantNs : Nat) (s : State) : Host.Outcome State Fault Refusal :=
  s.powered (State.onLink (State.dominantPulse dominantNs))

/-- FRAME_COMPLETION (R27 to R30). -/
def execFrameCompletion (wave : Wave) (s : State) : Host.Outcome State Fault Refusal :=
  s.powered (State.whileLinked (State.ownWave wave))

end Sys2Proof.Machine
end

