-- ==== Sys2Proof/Machine/ExecTimers.lean ====
section
/-! DEFINITION. The commands of the timers and of the wear store. -/

namespace Sys2Proof.Machine

/-! ## Expiries by mode -/

/-- A timer of the Demand Unit, the BBU or the ESC expires; outside STANDBY, READY and SHUTDOWN none runs (R10, R15, R16,
R81, R140). -/
def State.expireLive (timer : State → Timer) (act : State → State) (s : State) : State :=
  if s.mode.live then s.expire (timer s) act else s

/-- A presence timer expires; in PARKED none runs (R63). -/
def State.expirePresence (timer : Timer) (act : State → State) (s : State) : State :=
  if s.mode = .parked then s else s.expire timer act

/-- A timer of the engine machine expires in the machine state it runs in (R140, R147, R152). -/
def State.expireEngine (m : EngineState) (timer : State → Timer) (act : State → State) (s : State) : State :=
  if s.esc.machine = m then s.expireLive timer act else s

/-- The slip-hold timer stops (R85). -/
def State.endSlipHold (s : State) : State := s.setBbu { s.bbu with slipHold := none }

/-- The quiet timer expires, unless the silent link froze it (R35, R43). -/
def State.expireQuiet (s : State) : State :=
  if s.nlc.link = .silent then s else s.expire s.nlc.quiet State.quietExpires

/-- The READY-time counter has reached 60 min: it returns to 0 and gives trigger PERIODIC (R183). DESIGN CHOICE (log 55): where a MODE
request of that millisecond has been taken first and the mode is no longer READY, the counter stays at its end and gives the trigger in
the next millisecond of READY. -/
def State.periodicTrigger (s : State) : State :=
  if s.mode = .ready ∧ periodicMs ≤ s.wear.readyMs then
    (s.setWear { s.wear with readyMs := 0 }).saveTrigger ⟨false, false, true⟩
  else s

/-- The load completes, if one is in flight (R181). DESIGN CHOICE (log 52): it does so in PARKED too, where PARKED was entered with
the load in flight. -/
def State.endLoad (s : State) : State := if s.wear.load = .inFlight then s.loadCompletes else s

/-- FRESHNESS_TIMER_EXPIRY (R15). -/
def execFreshnessTimerExpiry (s : State) : Host.Outcome State Fault Refusal :=
  s.powered (State.expireLive (fun s => s.demand.freshness) State.freshnessExpires)

/-- LOW_SPEED_TIMER_EXPIRY (R16). -/
def execLowSpeedTimerExpiry (s : State) : Host.Outcome State Fault Refusal :=
  s.powered (State.expireLive (fun s => s.demand.lowSpeed) State.lowSpeedExpires)

/-- SLIP_HOLD_TIMER_EXPIRY (R85). -/
def execSlipHoldTimerExpiry (s : State) : Host.Outcome State Fault Refusal :=
  s.powered (State.expireLive (fun s => s.bbu.slipHold) State.endSlipHold)

/-- STALE_TIMER_EXPIRY (R51). -/
def execStaleTimerExpiry (node : NodeAddr) (s : State) : Host.Outcome State Fault Refusal :=
  s.powered (State.expirePresence (s.node node).staleTimer (State.becomeStale node))

/-- LOST_TIMER_EXPIRY (R52). -/
def execLostTimerExpiry (node : NodeAddr) (s : State) : Host.Outcome State Fault Refusal :=
  s.powered (State.expirePresence (s.node node).lostTimer (State.becomeLost node))

/-- CRANK_TIMER_EXPIRY (R147). -/
def execCrankTimerExpiry (s : State) : Host.Outcome State Fault Refusal :=
  s.powered (State.expireEngine .cranking (fun s => s.esc.crankTimer) State.attemptFails)

/-- REST_TIMER_EXPIRY (R147). -/
def execRestTimerExpiry (s : State) : Host.Outcome State Fault Refusal :=
  s.powered (State.expireEngine .retryWait (fun s => s.esc.restTimer) State.restExpires)

/-- COOLDOWN_TIMER_EXPIRY (R152). -/
def execCooldownTimerExpiry (s : State) : Host.Outcome State Fault Refusal :=
  s.powered (State.expireEngine .cooldown (fun s => s.esc.cooldownTimer) State.cooldownExpires)

/-- STOP_TIMER_EXPIRY (R152). -/
def execStopTimerExpiry (s : State) : Host.Outcome State Fault Refusal :=
  s.powered (State.expireEngine .stopping (fun s => s.esc.stopTimer) State.stopExpires)

/-- QUIET_TIMER_EXPIRY (R35). -/
def execQuietTimerExpiry (s : State) : Host.Outcome State Fault Refusal :=
  s.powered State.expireQuiet

/-- PERIODIC_SAVE_TRIGGER (R183). -/
def execPeriodicSaveTrigger (s : State) : Host.Outcome State Fault Refusal :=
  s.powered State.periodicTrigger

/-- STORE_LOAD_COMPLETE (R181, R182). -/
def execStoreLoadComplete (s : State) : Host.Outcome State Fault Refusal :=
  s.powered State.endLoad

/-- SAVE_COMPLETE (R184, R185). -/
def execSaveComplete (readBack : Option (List Byte)) (s : State) : Host.Outcome State Fault Refusal :=
  s.powered (State.saveCompletes readBack)

end Sys2Proof.Machine
end

