-- ==== Sys2Proof/Machine/Dispatch.lean ====
section
/-! DEFINITION. The dispatch: one arm per command, one direct call of its meaning. -/

namespace Sys2Proof.Machine

def exec (i : Instr) (s : State) : Host.Outcome State Fault Refusal :=
  match i with
  | .powerOn cut => Sys2Proof.Machine.execPowerOn cut s
  | .nreset cut => Sys2Proof.Machine.execNreset cut s
  | .nresync widthUs => Sys2Proof.Machine.execNresync widthUs s
  | .svcLow => Sys2Proof.Machine.execSvcLow s
  | .svcHigh => Sys2Proof.Machine.execSvcHigh s
  | .wakeOnHrx => Sys2Proof.Machine.execWakeOnHrx s
  | .wakeOnNode => Sys2Proof.Machine.execWakeOnNode s
  | .wakeEnd => Sys2Proof.Machine.execWakeEnd s
  | .hostFrameBadCrc body crc => Sys2Proof.Machine.execHostFrameBadCrc body crc s
  | .hostFramingError cause => Sys2Proof.Machine.execHostFramingError cause s
  | .interByteGapTimeout gapUs => Sys2Proof.Machine.execInterByteGapTimeout gapUs s
  | .requestUnknownKind tag kind data => Sys2Proof.Machine.execRequestUnknownKind tag kind data s
  | .replyEnd => Sys2Proof.Machine.execReplyEnd s
  | .demand tag data => Sys2Proof.Machine.execDemand tag data s
  | .routeZoneEnter tag data => Sys2Proof.Machine.execRouteZoneEnter tag data s
  | .routeZoneExit tag data => Sys2Proof.Machine.execRouteZoneExit tag data s
  | .routeSchedule tag data => Sys2Proof.Machine.execRouteSchedule tag data s
  | .routeCancel tag data => Sys2Proof.Machine.execRouteCancel tag data s
  | .engineStart tag data => Sys2Proof.Machine.execEngineStart tag data s
  | .engineStop tag data => Sys2Proof.Machine.execEngineStop tag data s
  | .engineAutoOn tag data => Sys2Proof.Machine.execEngineAutoOn tag data s
  | .engineAutoOff tag data => Sys2Proof.Machine.execEngineAutoOff tag data s
  | .engineResetFault tag data => Sys2Proof.Machine.execEngineResetFault tag data s
  | .modeReady tag data => Sys2Proof.Machine.execModeReady tag data s
  | .modeStandby tag data => Sys2Proof.Machine.execModeStandby tag data s
  | .modeShutdown tag data => Sys2Proof.Machine.execModeShutdown tag data s
  | .modePark tag data => Sys2Proof.Machine.execModePark tag data s
  | .modeHalt tag data => Sys2Proof.Machine.execModeHalt tag data s
  | .status tag data => Sys2Proof.Machine.execStatus tag data s
  | .notices tag data => Sys2Proof.Machine.execNotices tag data s
  | .events tag data => Sys2Proof.Machine.execEvents tag data s
  | .wearRead tag data => Sys2Proof.Machine.execWearRead tag data s
  | .wearReset tag data => Sys2Proof.Machine.execWearReset tag data s
  | .configSet tag data => Sys2Proof.Machine.execConfigSet tag data s
  | .configGet tag data => Sys2Proof.Machine.execConfigGet tag data s
  | .faultsList tag data => Sys2Proof.Machine.execFaultsList tag data s
  | .faultsTable tag data => Sys2Proof.Machine.execFaultsTable tag data s
  | .faultClear tag data => Sys2Proof.Machine.execFaultClear tag data s
  | .responseSet tag data => Sys2Proof.Machine.execResponseSet tag data s
  | .accessDrive tag data => Sys2Proof.Machine.execAccessDrive tag data s
  | .accessService tag data => Sys2Proof.Machine.execAccessService tag data s
  | .tunnelSend tag data => Sys2Proof.Machine.execTunnelSend tag data s
  | .tunnelFetch tag data => Sys2Proof.Machine.execTunnelFetch tag data s
  | .describeIdentity tag data => Sys2Proof.Machine.execDescribeIdentity tag data s
  | .describeCapacities tag data => Sys2Proof.Machine.execDescribeCapacities tag data s
  | .describeStore tag data => Sys2Proof.Machine.execDescribeStore tag data s
  | .freshnessTimerExpiry => Sys2Proof.Machine.execFreshnessTimerExpiry s
  | .lowSpeedTimerExpiry => Sys2Proof.Machine.execLowSpeedTimerExpiry s
  | .slipHoldTimerExpiry => Sys2Proof.Machine.execSlipHoldTimerExpiry s
  | .staleTimerExpiry node => Sys2Proof.Machine.execStaleTimerExpiry node s
  | .lostTimerExpiry node => Sys2Proof.Machine.execLostTimerExpiry node s
  | .crankTimerExpiry => Sys2Proof.Machine.execCrankTimerExpiry s
  | .restTimerExpiry => Sys2Proof.Machine.execRestTimerExpiry s
  | .cooldownTimerExpiry => Sys2Proof.Machine.execCooldownTimerExpiry s
  | .stopTimerExpiry => Sys2Proof.Machine.execStopTimerExpiry s
  | .quietTimerExpiry => Sys2Proof.Machine.execQuietTimerExpiry s
  | .periodicSaveTrigger => Sys2Proof.Machine.execPeriodicSaveTrigger s
  | .storeLoadComplete => Sys2Proof.Machine.execStoreLoadComplete s
  | .saveComplete readBack => Sys2Proof.Machine.execSaveComplete readBack s
  | .reportReceived source retry payload wave => Sys2Proof.Machine.execReportReceived source retry payload wave s
  | .tunnelFrameReceived source retry payload wave => Sys2Proof.Machine.execTunnelFrameReceived source retry payload wave s
  | .nodeFrameRefused source cls retry payload wave => Sys2Proof.Machine.execNodeFrameRefused source cls retry payload wave s
  | .dnlFrameCrcError wave => Sys2Proof.Machine.execDnlFrameCrcError wave s
  | .noisePulse lengthNs => Sys2Proof.Machine.execNoisePulse lengthNs s
  | .busIdle taken => Sys2Proof.Machine.execBusIdle taken s
  | .busReset dominantNs => Sys2Proof.Machine.execBusReset dominantNs s
  | .frameCompletion wave => Sys2Proof.Machine.execFrameCompletion wave s
  | .powerLoss cut => Sys2Proof.Machine.execPowerLoss cut s

end Sys2Proof.Machine
end

