-- ==== Sys2Proof/Machine/Tick.lean ====
section
/-! DEFINITION. The tick of the 1 ms time base: what a step does while no command waits (log 1). -/

namespace Sys2Proof.Machine

/-- A command where a condition holds. -/
def onlyIf (due : Bool) (c : Instr) : List Instr := if due then [c] else []

/-- The expiries of the timers that run in STANDBY, READY and SHUTDOWN. -/
def State.dueLive (s : State) : List Instr :=
  onlyIf (s.demand.freshness == some 0) .freshnessTimerExpiry ++ onlyIf (s.demand.lowSpeed == some 0) .lowSpeedTimerExpiry ++
  onlyIf (s.bbu.slipHold == some 0) .slipHoldTimerExpiry ++ onlyIf (s.esc.crankTimer == some 0) .crankTimerExpiry ++
  onlyIf (s.esc.restTimer == some 0) .restTimerExpiry ++ onlyIf (s.esc.cooldownTimer == some 0) .cooldownTimerExpiry ++
  onlyIf (s.esc.stopTimer == some 0) .stopTimerExpiry

/-- The presence expiries of a node. -/
def State.dueNode (s : State) (n : NodeAddr) : List Instr :=
  onlyIf ((s.node n).staleTimer == some 0) (.staleTimerExpiry n) ++ onlyIf ((s.node n).lostTimer == some 0) (.lostTimerExpiry n)

/-- The commands of the timers that stand at their end, in a fixed order (log 1). -/
def State.dueCommands (s : State) : List Instr :=
  (if s.mode.live then s.dueLive else []) ++
  (if s.mode = .parked then [] else allNodes.flatMap s.dueNode) ++
  onlyIf (s.nlc.quiet == some 0 && s.nlc.link != .silent) .quietTimerExpiry ++
  onlyIf (s.mode == .ready && decide (periodicMs ≤ s.wear.readyMs)) .periodicSaveTrigger

/-- One millisecond passes: a break the NLC is sending ends in it, and the timers that reach their end put their commands into the
queue; an unpowered part has no time base. DESIGN CHOICE (log 1). -/
def State.tick (s : State) : State :=
  if s.supply = .on then
    let s := s.finishBreak.advance 1
    s.setPending (s.pending ++ s.dueCommands)
  else s

end Sys2Proof.Machine
end

