-- ==== Sys2Proof/WellFormed.lean ====
section
/-! DEFINITION. Well-formed commands: operands as the row of the table describes them. A meaning is total on ill-formed
operands too (log 32). -/

namespace Sys2Proof

open Sys2Proof.Machine

/-- A host payload after its first byte: a frame holds at most 248 payload bytes (11_host_link.md section 11.1). -/
def restOk (data : List Byte) : Bool := decide (data.length ≤ 247)

/-- A whole host payload: at most 248 bytes (11_host_link.md section 11.1). -/
def wholeOk (data : List Byte) : Bool := decide (data.length ≤ 248)

/-- The kinds with a sub-operation that no row names: ROUTE above 3, ENGINE above 4, MODE above 4, FAULTS above 1, ACCESS above
1, TUNNEL above 1, DESCRIBE above 2, or none at all (R207). -/
def unnamed (kind : Byte) (data : List Byte) : Bool :=
  let sub := (data.head?.map BitVec.toNat).getD 256
  match kind.toNat with
  | 0x02 => decide (3 < sub)
  | 0x03 => decide (4 < sub)
  | 0x04 => decide (4 < sub)
  | 0x0C => decide (1 < sub)
  | 0x0F => decide (1 < sub)
  | 0x10 => decide (1 < sub)
  | 0x11 => decide (2 < sub)
  | k => decide (k < 1) || decide (0x11 < k)

/-- A completed frame whose CRC-16 does not match (R207). -/
def badFrame (body : List Byte) (crc : BitVec 16) : Bool :=
  decide (2 ≤ body.length) && decide (body.length ≤ 250) && crc16 (byte body.length :: body) != crc

/-- A byte that is no length byte: 0, 1 or 251 to 255; or a bad byte (R205). -/
def badLengthByte : FramingFault → Bool
  | .lengthByte b => !(decide (2 ≤ b.toNat) && decide (b.toNat ≤ 250))
  | .badByte => true

/-- The pulses of a wave stand in order and apart. Only the first symbol of H1 begins with the end of the SOF (R20, R21;
log 22). -/
def orderedFrom (t : Nat) : Wave → Bool
  | [] => true
  | p :: rest =>
    let gap := if classifyPulse p.width = .sof then 0 else 1
    decide (t ≤ p.edge) && decide (0 < p.width) && orderedFrom (p.edge + p.width + gap) rest

/-- A wave that a bus can show: there is at least one pulse (R20). -/
def waveOk (w : Wave) : Bool := !w.isEmpty && orderedFrom 0 w

/-- What a good frame addressed to the 620 carries: source, class, retry flag and payload (R24, R36). -/
def waveFrame (w : Wave) : Option (Option NodeAddr × FrameClass × Bool × List Byte) :=
  match readFrame w with
  | .good h1 h2 payload _ _ =>
    if targetCode h1 = 0 then some (frameSource h2, frameClass h1, frameRetry h2, payload) else none
  | .nothing => none
  | .noSof => none
  | .badCrc _ _ => none
  | .formError => none
  | .brk => none

/-- Whether a wave is that of a frame to the 620 with these parts and this destination (R37). -/
def waveCarries (d : Destination) (source : Option NodeAddr) (cls : FrameClass) (retry : Bool) (payload : List Byte) (w : Wave) :
    Bool := waveOk w && waveFrame w == some (source, cls, retry, payload) && destinationOf source cls payload == d

/-- What a store reads back is an image of 44 bytes (R180). -/
def imageSized (readBack : Option (List Byte)) : Bool :=
  match readBack with
  | none => true
  | some bs => bs.length == 44

/-- Whether a command's operands are as its row describes them. -/
def wellFormed : Instr → Bool
  | .powerOn _ | .nreset _ | .nresync _ | .svcLow | .svcHigh | .wakeOnHrx | .wakeOnNode | .wakeEnd => true
  | .hostFrameBadCrc body crc => badFrame body crc
  | .hostFramingError cause => badLengthByte cause
  | .interByteGapTimeout us => decide (200 < us)
  | .requestUnknownKind _ kind data => wholeOk data && unnamed kind data
  | .replyEnd => true
  | .demand _ d | .status _ d | .notices _ d | .events _ d | .wearRead _ d | .wearReset _ d | .configSet _ d
  | .configGet _ d | .faultClear _ d | .responseSet _ d => wholeOk d
  | .routeZoneEnter _ d | .routeZoneExit _ d | .routeSchedule _ d | .routeCancel _ d | .engineStart _ d | .engineStop _ d
  | .engineAutoOn _ d | .engineAutoOff _ d | .engineResetFault _ d | .modeReady _ d | .modeStandby _ d | .modeShutdown _ d
  | .modePark _ d | .modeHalt _ d | .faultsList _ d | .faultsTable _ d | .accessDrive _ d | .accessService _ d
  | .tunnelSend _ d | .tunnelFetch _ d | .describeIdentity _ d | .describeCapacities _ d | .describeStore _ d => restOk d
  | .freshnessTimerExpiry | .lowSpeedTimerExpiry | .slipHoldTimerExpiry | .staleTimerExpiry _ | .lostTimerExpiry _
  | .crankTimerExpiry | .restTimerExpiry | .cooldownTimerExpiry | .stopTimerExpiry | .quietTimerExpiry
  | .periodicSaveTrigger | .storeLoadComplete => true
  | .saveComplete readBack => imageSized readBack
  | .reportReceived source retry payload w => waveCarries .nodeTable (some source) .report retry payload w
  | .tunnelFrameReceived source retry payload w => waveCarries .tunnelInbox (some source) .tunnel retry payload w
  | .nodeFrameRefused source cls retry payload w => waveCarries .nowhere source cls retry payload w
  | .dnlFrameCrcError w => waveOk w && (waveFrame w).isNone
  | .noisePulse ns => classifyPulse ns != .brk
  | .busIdle _ => true
  | .busReset ns => classifyPulse ns == .brk
  | .frameCompletion w => waveOk w
  | .powerLoss _ => true

end Sys2Proof
end

