-- ==== Sys2Proof/Safety.lean ====
section
/-! DEFINITION. The terms in which claims about the 620 speak: what a step leaves alone, how a request is answered, and the
laws of the spec that every step keeps. -/

namespace Sys2Proof.Machine

/-! ## Frames -/

/-- The fields of State, by name. -/
inductive Block where
  | supply | mode | progress | waking | keep | slowClock | runTime | svc | params | hli | demand | nlc | nodes
  | bbu | psu | esc | log | wear | faults | notices | pending
deriving DecidableEq, Repr

/-- Two states agree on a field. -/
def Block.same (s t : State) : Block → Prop
  | .supply => t.supply = s.supply
  | .mode => t.mode = s.mode
  | .progress => t.progress = s.progress
  | .waking => t.waking = s.waking
  | .keep => t.keep = s.keep
  | .slowClock => t.slowClock = s.slowClock
  | .runTime => t.runTime = s.runTime
  | .svc => t.svc = s.svc
  | .params => t.params = s.params
  | .hli => t.hli = s.hli
  | .demand => t.demand = s.demand
  | .nlc => t.nlc = s.nlc
  | .nodes => t.nodes = s.nodes
  | .bbu => t.bbu = s.bbu
  | .psu => t.psu = s.psu
  | .esc => t.esc = s.esc
  | .log => t.log = s.log
  | .wear => t.wear = s.wear
  | .faults => t.faults = s.faults
  | .notices => t.notices = s.notices
  | .pending => t.pending = s.pending

/-- Every field but the listed ones is unchanged from `s` to `t`. -/
def OnlyChanges (bs : List Block) (s t : State) : Prop := ∀ b, b ∉ bs → b.same s t

/-- What a raise can reach when it takes the level to SAFE_STOP: a cut re-blend and stop cause SAFE (R196, R86, R151). -/
def raiseBlocks : List Block := [.progress, .nlc, .bbu, .esc, .log, .wear, .faults, .notices]

/-- What the ESC can reach: the queue, the STARTS item, the end of ENGINE_WAIT and of its faults' causes (R140, R145, R154,
R159, R6). -/
def engineBlocks : List Block := [.progress, .nlc, .esc, .wear, .faults, .notices]

/-- What the passing of time reaches: the run time, the timers, the READY-time counter (R140, R183). -/
def clockBlocks : List Block := [.runTime, .demand, .bbu, .esc, .nodes, .nlc, .wear]

/-- What a wave on NRX can reach: a frame of the 620 may be on the bus with it, a break may stand in it, and its level may wake a part
off the link (R9, R27, R30, R34, R37). -/
def waveBlocks : List Block := .waking :: .hli :: .nodes :: raiseBlocks

/-- What a reset gives reset values: everything but the SVC pin and the model's queue (R1). -/
def resetBlocks : List Block :=
  [.supply, .mode, .progress, .waking, .keep, .slowClock, .runTime, .params, .hli, .demand, .nlc, .nodes, .bbu, .psu, .esc,
   .log, .wear, .faults, .notices]

/-- The fields a command may change; a request also wakes a PARKED part (R9). -/
def touched : Instr → List Block
  | .powerOn _ => resetBlocks
  | .nreset _ => resetBlocks
  | .powerLoss _ => resetBlocks
  | .nresync _ => [.hli]
  | .svcLow => [.svc, .hli]
  | .svcHigh => [.svc]
  | .wakeOnHrx => [.waking]
  | .wakeOnNode => [.waking]
  | .wakeEnd => [.mode, .waking, .keep, .slowClock, .hli, .nlc, .esc, .notices]
  | .hostFrameBadCrc _ _ => [.waking, .hli]
  | .hostFramingError _ => [.waking, .hli]
  | .interByteGapTimeout _ => [.hli]
  | .requestUnknownKind _ _ _ => [.waking, .hli]
  | .replyEnd => [.hli, .slowClock]
  | .demand _ _ => .waking :: .hli :: .demand :: .psu :: raiseBlocks
  | .routeZoneEnter _ _ => .waking :: .hli :: .demand :: raiseBlocks
  | .routeZoneExit _ _ => .waking :: .hli :: .demand :: engineBlocks
  | .routeSchedule _ _ => .waking :: .hli :: engineBlocks
  | .routeCancel _ _ => [.waking, .hli, .esc]
  | .engineStart _ _ => .waking :: .hli :: engineBlocks
  | .engineStop _ _ => .waking :: .hli :: engineBlocks
  | .engineAutoOn _ _ => .waking :: .hli :: engineBlocks
  | .engineAutoOff _ _ => [.waking, .hli, .esc]
  | .engineResetFault _ _ => [.waking, .hli, .esc, .notices, .faults]
  | .modeReady _ _ => [.mode, .waking, .hli, .demand, .notices]
  | .modeStandby _ _ => .mode :: .waking :: .hli :: .demand :: .psu :: raiseBlocks
  | .modeShutdown _ _ => .mode :: .waking :: .hli :: .demand :: .psu :: raiseBlocks
  | .modePark _ _ => [.mode, .progress, .waking, .keep, .slowClock, .hli, .demand, .nlc, .nodes, .bbu, .faults, .notices]
  | .modeHalt _ _ => [.mode, .progress, .waking, .hli, .nlc, .log, .notices]
  | .status _ _ => [.waking, .hli]
  | .notices _ _ => [.waking, .hli, .notices]
  | .events _ _ => [.waking, .hli]
  | .wearRead _ _ => [.waking, .hli]
  | .wearReset _ _ => [.waking, .hli, .wear, .faults, .notices]
  | .configSet _ _ => .waking :: .params :: .hli :: .nodes :: raiseBlocks
  | .configGet _ _ => [.waking, .hli]
  | .faultsList _ _ => [.waking, .hli]
  | .faultsTable _ _ => [.waking, .hli]
  | .faultClear _ _ => [.waking, .hli, .faults, .notices]
  | .responseSet _ _ => [.waking, .hli, .faults]
  | .accessDrive _ _ => [.waking, .hli]
  | .accessService _ _ => [.waking, .hli]
  | .tunnelSend _ _ => [.waking, .hli, .nlc]
  | .tunnelFetch _ _ => [.waking, .hli, .nlc]
  | .describeIdentity _ _ => [.waking, .hli]
  | .describeCapacities _ _ => [.waking, .hli]
  | .describeStore _ _ => [.waking, .hli]
  | .freshnessTimerExpiry => .demand :: .psu :: raiseBlocks
  | .lowSpeedTimerExpiry => .demand :: .log :: engineBlocks
  | .slipHoldTimerExpiry => [.bbu]
  | .staleTimerExpiry _ => .nodes :: raiseBlocks
  | .lostTimerExpiry _ => .hli :: .nodes :: raiseBlocks
  | .crankTimerExpiry => raiseBlocks
  | .restTimerExpiry => engineBlocks
  | .cooldownTimerExpiry => engineBlocks
  | .stopTimerExpiry => raiseBlocks
  | .quietTimerExpiry => [.nlc, .faults, .notices]
  | .periodicSaveTrigger => [.wear]
  | .storeLoadComplete => raiseBlocks
  | .saveComplete _ => [.mode, .progress, .keep, .slowClock, .hli, .demand, .nlc, .nodes, .bbu, .wear, .faults, .notices]
  | .reportReceived _ _ _ _ => waveBlocks
  | .tunnelFrameReceived _ _ _ _ => waveBlocks
  | .nodeFrameRefused _ _ _ _ _ => waveBlocks
  | .dnlFrameCrcError _ => waveBlocks
  | .noisePulse _ => [.waking, .nlc]
  | .busIdle _ => waveBlocks
  | .busReset _ => waveBlocks
  | .frameCompletion _ => waveBlocks

/-! ## Requests and replies -/

/-- The tag and kind of a request command, and whether its payload has the length its kind asks for (section 11.3, R207). -/
structure RequestForm where
  tag : Byte
  kind : Byte
  lengthOk : Bool
deriving DecidableEq, Repr

/-- The form of the request a command is; `none` for the commands that are no request of a named kind. -/
def requestForm : Instr → Option RequestForm
  | .demand tag d => some ⟨tag, 0x01, d.length == 13⟩
  | .routeZoneEnter tag d => some ⟨tag, 0x02, d.isEmpty⟩
  | .routeZoneExit tag d => some ⟨tag, 0x02, d.isEmpty⟩
  | .routeSchedule tag d => some ⟨tag, 0x02, d.length == 3⟩
  | .routeCancel tag d => some ⟨tag, 0x02, d.isEmpty⟩
  | .engineStart tag d => some ⟨tag, 0x03, d.length == 1⟩
  | .engineStop tag d => some ⟨tag, 0x03, d.length == 1⟩
  | .engineAutoOn tag d => some ⟨tag, 0x03, d.length == 1⟩
  | .engineAutoOff tag d => some ⟨tag, 0x03, d.length == 1⟩
  | .engineResetFault tag d => some ⟨tag, 0x03, d.length == 1⟩
  | .modeReady tag d => some ⟨tag, 0x04, d.isEmpty⟩
  | .modeStandby tag d => some ⟨tag, 0x04, d.isEmpty⟩
  | .modeShutdown tag d => some ⟨tag, 0x04, d.isEmpty⟩
  | .modePark tag d => some ⟨tag, 0x04, d.isEmpty⟩
  | .modeHalt tag d => some ⟨tag, 0x04, d.isEmpty⟩
  | .status tag d => some ⟨tag, 0x05, d.isEmpty⟩
  | .notices tag d => some ⟨tag, 0x06, d.isEmpty⟩
  | .events tag d => some ⟨tag, 0x07, d.length == 4⟩
  | .wearRead tag d => some ⟨tag, 0x08, d.isEmpty⟩
  | .wearReset tag d => some ⟨tag, 0x09, d.length == 9⟩
  | .configSet tag d => some ⟨tag, 0x0A, d.length == 5⟩
  | .configGet tag d => some ⟨tag, 0x0B, d.length == 1⟩
  | .faultsList tag d => some ⟨tag, 0x0C, d.isEmpty⟩
  | .faultsTable tag d => some ⟨tag, 0x0C, d.isEmpty⟩
  | .faultClear tag d => some ⟨tag, 0x0D, d.length == 1⟩
  | .responseSet tag d => some ⟨tag, 0x0E, d.length == 3⟩
  | .accessDrive tag d => some ⟨tag, 0x0F, d.isEmpty⟩
  | .accessService tag d => some ⟨tag, 0x0F, d.isEmpty⟩
  | .tunnelSend tag d => some ⟨tag, 0x10, decide (2 ≤ d.length ∧ d.length ≤ 14)⟩
  | .tunnelFetch tag d => some ⟨tag, 0x10, d.isEmpty⟩
  | .describeIdentity tag d => some ⟨tag, 0x11, d.isEmpty⟩
  | .describeCapacities tag d => some ⟨tag, 0x11, d.isEmpty⟩
  | .describeStore tag d => some ⟨tag, 0x11, d.isEmpty⟩
  | .powerOn _ | .nreset _ | .nresync _ | .svcLow | .svcHigh | .wakeOnHrx | .wakeOnNode | .wakeEnd
  | .hostFrameBadCrc _ _ | .hostFramingError _ | .interByteGapTimeout _ | .requestUnknownKind _ _ _ | .replyEnd
  | .freshnessTimerExpiry | .lowSpeedTimerExpiry | .slipHoldTimerExpiry | .staleTimerExpiry _ | .lostTimerExpiry _
  | .crankTimerExpiry | .restTimerExpiry | .cooldownTimerExpiry | .stopTimerExpiry | .quietTimerExpiry
  | .periodicSaveTrigger | .storeLoadComplete | .saveComplete _ | .reportReceived _ _ _ _
  | .tunnelFrameReceived _ _ _ _ | .nodeFrameRefused _ _ _ _ _ | .dnlFrameCrcError _ | .noisePulse _ | .busIdle _ | .busReset _ | .frameCompletion _
  | .powerLoss _ => none

/-- Whether a kind is answered in HALTED: STATUS and DESCRIBE (R10, R207). -/
def readInHalted (kind : Byte) : Bool := kind == 0x05 || kind == 0x11

/-- HRX shows the bytes of a frame: any idle stretch before its sync byte, and gaps of at most 200 µs inside it (11_host_link.md section
11.1, R205). -/
def HostLine.Shows (line : HostLine) (bytes : List Byte) : Prop :=
  ∃ spaced : List (Nat × Byte), line = spacedLine spaced ∧ spaced.map Prod.snd = bytes ∧ ∀ p ∈ spaced.tail, p.1 ≤ 200

/-- What HRX shows puts exactly these commands behind those that wait, and changes nothing else. -/
def State.Reads (s : State) (line : HostLine) (cs : List Instr) : Prop := s.hearHrx line = s.setPending (s.pending ++ cs)

/-- The reply line: the reply being sent, then those that wait (R209). -/
def HostLink.line (h : HostLink) : List Reply := h.sending.toList ++ h.waiting

/-- No reply waits while the line is idle (R209). -/
abbrev HostLink.ordered (h : HostLink) : Prop := h.sending = none → h.waiting = []

/-- A powered part, not in PARKED, with inbox slot `i` the first free one and the reply line in order. -/
structure State.Hears (s : State) (i : Fin 4) : Prop where
  powered : s.supply = .on
  awake : s.mode ≠ .parked
  free : s.hli.freeSlot = some i
  ordered : s.hli.ordered

/-- Such a part in STANDBY, READY or SHUTDOWN. -/
structure State.Accepts (s : State) (i : Fin 4) : Prop extends s.Hears i where
  live : s.mode.live = true

/-- From `s` to `t` a request has taken slot `i`, and its reply has joined the reply line behind `due`; the framer is in HUNT
and the counters stand. -/
structure Replied (due : List Reply) (tag kind : Byte) (payload : List Byte) (i : Fin 4) (s t : State) : Prop where
  line : t.hli.line = s.hli.line ++ due ++ [⟨tag, kind, payload, some i⟩]
  slots : t.hli.slots = s.hli.slots.set i (some ⟨tag, kind, false⟩)
  framer : t.hli.framer = .hunt
  ordered : t.hli.ordered
  framingErrors : t.hli.framingErrors = s.hli.framingErrors
  crcErrors : t.hli.crcErrors = s.hli.crcErrors

/-- A request has been answered at once and the access level stands. -/
def Answered (tag kind : Byte) (payload : List Byte) (i : Fin 4) (s t : State) : Prop :=
  Replied [] tag kind payload i s t ∧ t.hli.access = s.hli.access

/-- The replies owed to the CONFIRMED tunnel entries of the queue that are not in flight, in queue order, as LINKFAIL with
code ABORTED (R74, R77). -/
def State.abortedReplies (s : State) : List Reply :=
  (s.nlc.queue.filter (fun e => !e.inFlight)).filterMap (fun e =>
    match e.reply with
    | .confirmed tag slot =>
      some ⟨tag, 0x10, [stLinkFail, 0, byte e.tunnelNumber, byte (nodeCode e.target), Completion.aborted.code, 0xFF], some slot⟩
    | .none => none
    | .posted => none)

/-- The setpoint queue has an entry with these contents for a node and kind. -/
def Queued (t : NodeAddr) (k : EntryKind) (payload : List Byte) (origin : Origin) (s : State) : Prop :=
  ∃ e ∈ s.nlc.queue, e.target = t ∧ e.kind = k ∧ e.payload = payload ∧ e.origin = origin

/-- An offer that is taken stands in the queue; one to an ABSENT or LOST node in `s` is not taken (R67). -/
def Offered (s : State) (t : NodeAddr) (k : EntryKind) (payload : List Byte) (origin : Origin) (s' : State) : Prop :=
  s.takes t = true → Queued t k payload origin s'

/-- A hand-on of the PSU from `s` to `t`: its result, and both elapsed values after a time step, each at 0 or grown up to
4294967295 (R122, R123, R134, R136). -/
structure HandsOn (r : SplitResult) (dt : Nat) (s t : State) : Prop where
  result : t.psu.result = r
  above : t.psu.above = if r.fECap < r.fReq then min 4294967295 (s.psu.above + dt) else 0
  grows : ∀ soc, s.nodes.socSeen = some soc → s.par .socStop ≤ soc → r.fReq ≤ r.fECap →
    t.psu.sufficient = min 4294967295 (s.psu.sufficient + dt)
  ends : r.fECap < r.fReq ∨ (∀ soc, s.nodes.socSeen = some soc → soc < s.par .socStop) → t.psu.sufficient = 0

/-- Stop cause AUTO does not arise on a hand-on that leaves the elapsed values of `t`: the engine is neither in RUN nor may return
to it, or AUTO is off, the electric-sufficient value is below t_elec, or STARTS is LIMIT (R150). -/
def State.AutoStopFails (s t : State) : Prop :=
  (s.esc.machine ≠ .run ∧ s.esc.machine ≠ .cooldown) ∨ s.esc.auto = false ∨ t.psu.sufficient < s.par .tElec * 1000 ∨
    (s.wearItem .starts).state = .limit

/-- A fault kind stands in the active fault list with its cause present. -/
def State.Raised (s : State) (k : FaultKind) : Prop := ∃ e ∈ s.faults.active, e.kind = k ∧ e.causePresent = true

/-- A notice was set once, with a detail (R201). -/
def Noted (k : NoticeKind) (detail : Nat) (s t : State) : Prop := t.noticeOf k = (s.noticeOf k).note detail

/-! ## A DEMAND and the engine -/

/-- The whole metres a DEMAND adds, from its speed, Δt and the remainder (R18). -/
def State.metresOf (s : State) (f : DemandFields) : Nat := (s.demand.remainder + min 3000 f.speed * s.demandStep) / 100000

/-- Whether a DEMAND counts a passenger stop: DOORS_OPEN at a standstill that it does not end, with the stop-eligible mark set (R17). -/
def State.countsStop (s : State) (f : DemandFields) : Bool :=
  s.demand.motion == .standstill && decide (f.speed < 30) && f.doorsOpen && s.demand.stopEligible

/-- A schedule after the metres of a DEMAND and then its passenger stop: metres count in COUNT_DISTANCE alone, a stop in COUNT_STOPS
alone, and nothing in DUE (R161). -/
def Schedule.countedBy (metres : Nat) (stop : Bool) (sch : Schedule) : Schedule :=
  match sch.phase with
  | .countDistance =>
    if metres = 0 then sch
    else if sch.distance ≤ metres then ⟨.due, sch.stops, 0⟩
    else ⟨.countDistance, sch.stops, sch.distance - metres⟩
  | .countStops =>
    if stop = false then sch
    else if 1 < sch.stops then ⟨.countStops, sch.stops - 1, sch.distance⟩
    else if 0 < sch.distance then ⟨.countDistance, 0, sch.distance⟩
    else ⟨.due, 0, 0⟩
  | .due => sch

/-- The schedule after the countdown of a DEMAND, before anything acts on a phase DUE. -/
def State.countedSchedule (s : State) (f : DemandFields) : Option Schedule :=
  s.esc.schedule.map (Schedule.countedBy (s.metresOf f) (s.countsStop f))

/-- Whether the countdown of a DEMAND takes the schedule to DUE (R161). -/
def State.entersDue (s : State) (f : DemandFields) : Bool :=
  (s.countedSchedule f).map Schedule.phase == some .due && s.esc.schedule.map Schedule.phase != some .due

/-- The schedule a DEMAND leaves where it starts no engine: one that has entered DUE with the machine not OFF is cleared (R162). -/
def State.scheduleAfter (s : State) (f : DemandFields) : Option Schedule :=
  if s.entersDue f = true ∧ s.esc.machine ≠ .off then none else s.countedSchedule f

/-- The Demand Unit has taken a DEMAND from `s` to `t`: the record, Δt, freshness with the end of DEMAND_STALE, the distance, the motion
state with the low-speed timer, and the passenger stop (R12 to R18). -/
structure DemandTaken (f : DemandFields) (s t : State) : Prop where
  record : t.demand.record = f.record (s.par .mMin) (s.par .mMax)
  time : t.demand.lastDemand = some s.runTime ∧ t.demand.firstInReady = false
  step : s.demandStep = if s.demand.firstInReady = true then 10 else
    (s.demand.lastDemand.map (fun last => min (elapsed s.runTime last) (s.par .tFresh))).getD 10
  fresh : t.demand.freshness = some (s.par .tFresh) ∧ t.demand.stale = false
  staleEnds : s.demand.stale = true → t.faults.entry .demandStale = none
  staleStands : s.demand.stale = false → t.faults.entry .demandStale = s.faults.entry .demandStale
  zone : t.demand.zone = s.demand.zone
  remainder : t.demand.remainder = (s.demand.remainder + min 3000 f.speed * s.demandStep) % 100000
  distance : t.demand.distance = s.demand.distance + BitVec.ofNat 32 (s.metresOf f)
  leaves : s.demand.motion = .standstill → 30 ≤ f.speed →
    t.demand.motion = .moving ∧ t.demand.stopEligible = false ∧ t.demand.lowSpeed = s.demand.lowSpeed
  stands : s.demand.motion = .standstill → f.speed < 30 → t.demand.motion = .standstill ∧ t.demand.lowSpeed = s.demand.lowSpeed ∧
    t.demand.stopEligible = (s.demand.stopEligible && !f.doorsOpen)
  moves : s.demand.motion = .moving → t.demand.motion = .moving ∧ t.demand.stopEligible = s.demand.stopEligible ∧
    t.demand.lowSpeed = if 10 < f.speed then none else if s.demand.lowSpeed = none then some 500 else s.demand.lowSpeed
  stops : t.demand.stops = if s.countsStop f = true then s.demand.stops + 1 else s.demand.stops

/-- The conditions of an auto or scheduled start but for the zone, at an effective level (R144). -/
def State.StartFits (s : State) (level : Level) : Prop :=
  s.mode = .ready ∧ s.engReady = true ∧ level ≠ .safeStop ∧
    s.par .tOffMin * 1000 * (if (s.wearItem .starts).state = .warn ∨ (s.wearItem .starts).state = .unknown then 2 else 1) ≤
      s.esc.offDwell

/-- An auto cause stands, for a demand-above-capability value handed on last (R144). -/
def State.AutoStands (s : State) (above : Nat) : Prop :=
  s.esc.auto = true ∧ ((∃ soc, s.nodes.socSeen = some soc ∧ soc < s.par .socStart) ∨ s.par .tDem * 1000 ≤ above)

/-- The first start cause that stands, in the order SOC_LOW, DEMAND, SCHEDULED (R144). -/
def State.FirstCause (s : State) (above : Nat) (schedule : Option Schedule) (c : CrankCause) : Prop :=
  let low : Prop := s.esc.auto = true ∧ ∃ soc, s.nodes.socSeen = some soc ∧ soc < s.par .socStart
  (c = .socLow ∧ low) ∨ (c = .demand ∧ ¬low ∧ s.AutoStands above) ∨
    (c = .scheduled ∧ ¬s.AutoStands above ∧ schedule.map Schedule.phase = some .due)

/-- An auto cause returns an engine from COOLDOWN at an effective level, the zone apart (R151). -/
def State.Returns (s : State) (above : Nat) (level : Level) : Prop :=
  s.mode = .ready ∧ level ≠ .safeStop ∧ s.AutoStands above ∧ (s.esc.stopCause = some .auto ∨ s.esc.stopCause = some .host)

/-- The ESC of `s` has entered CRANKING for a first attempt with a cause: START is queued and counted (R145, R159). -/
structure Started (s t : State) (c : CrankCause) : Prop where
  esc : t.esc = { s.esc with machine := .cranking, attempts := 1, crankCause := some c, crankTimer := some (s.par .tCrank),
                             schedule := none, latch := none, stopCause := none }
  start : Queued .eng .command [1] .engine t
  noted : Noted .engine 1 s t
  worn : (t.wearItem .starts).value = min 4294967295 ((s.wearItem .starts).value + startsIncrement s.nodes.coolantSeen)

/-- What a DEMAND in READY makes of the engine machine: the schedule counts down, its entry to DUE is an evaluation point with the values
handed on before, and the PSU's hand-on is one with those of `t`, and the one at which AUTO stops the engine (R144, R150, R151, R161,
R162). -/
structure EngineFollows (f : DemandFields) (s t : State) : Prop where
  off : s.esc.machine = .off →
    let early : Prop := s.entersDue f = true ∧ s.demand.zone = false ∧ s.StartFits ((s.takeRecord f).refresh).level
    let late : Prop := s.demand.zone = false ∧ s.StartFits t.level
    (early → ∀ c, s.FirstCause s.psu.above (s.countedSchedule f) c → Started s t c) ∧
    (¬early → late → ∀ c, s.FirstCause t.psu.above (s.countedSchedule f) c → Started s t c) ∧
    (¬early → ¬late ∨ (∀ c, ¬s.FirstCause t.psu.above (s.countedSchedule f) c) →
      t.esc = { s.esc with schedule := s.countedSchedule f })
  cooldown : s.esc.machine = .cooldown →
    let returns : Prop := s.demand.zone = false ∧
      ((s.entersDue f = true ∧ s.Returns s.psu.above ((s.takeRecord f).refresh).level) ∨ s.Returns t.psu.above t.level)
    (returns → s.AutoStopFails t →
      t.esc = { s.esc with machine := .run, cooldownTimer := none, stopCause := none, schedule := s.scheduleAfter f } ∧
      Noted .engine 4 s t) ∧
    (returns → ¬s.AutoStopFails t → 0 < s.par .tCool →
      t.esc = { s.esc with cooldownTimer := some (s.par .tCool * 1000), stopCause := some .auto, schedule := s.scheduleAfter f }) ∧
    (¬returns → t.esc = { s.esc with schedule := s.scheduleAfter f })
  stops : s.esc.machine = .run → ¬s.AutoStopFails t →
    (0 < s.par .tCool → t.esc = { s.esc with machine := .cooldown, stopCause := some .auto, schedule := s.scheduleAfter f,
                                             cooldownTimer := some (s.par .tCool * 1000) } ∧ Noted .engine 5 s t) ∧
    (s.par .tCool = 0 → t.esc.machine = .stopping ∧ t.esc.stopCause = some .auto ∧ t.esc.schedule = s.scheduleAfter f ∧
      Offered s .eng .command [2] .engine t)
  stays : s.esc.machine ≠ .off → s.esc.machine ≠ .cooldown → s.AutoStopFails t →
    t.esc = { s.esc with schedule := s.scheduleAfter f }

/-! ## Faults and notices -/

/-- A raise of a kind would take the effective level to SAFE_STOP: no entry of it stands, and the response table gives it that level
(R192, R196). -/
def State.RaiseStops (s : State) (k : FaultKind) : Prop :=
  s.level ≠ .safeStop ∧ s.faults.entry k = none ∧ (s.faults.response k).level = .safeStop

/-- The reserve watch of R197 has examined the SOC that readers see in `t`, against the reserve mark of `s`. -/
structure ReserveExamined (s t : State) : Prop where
  raised : ∀ soc, t.nodes.socSeen = some soc → t.demand.zone = true → s.faults.reserve = false → soc < t.par .socReserve →
    t.faults.reserve = true ∧
    (s.faults.entry .zoneReserve = none → t.faults.entry .zoneReserve =
      some { kind := .zoneReserve, level := (s.faults.response .zoneReserve).level,
             factor := (s.faults.response .zoneReserve).factor, firstRaise := s.runTime, count := 1, detail := soc / 10,
             causePresent := true }) ∧
    (∀ e, s.faults.entry .zoneReserve = some e → t.faults.entry .zoneReserve =
      some { e with count := min 255 (e.count + 1), detail := soc / 10, causePresent := true })
  ended : ∀ soc, t.nodes.socSeen = some soc → t.demand.zone = true → s.faults.reserve = true → t.par .socReserve + 20 ≤ soc →
    t.faults.reserve = false ∧ t.faults.entry .zoneReserve = none
  kept : t.demand.zone = false ∨ t.nodes.socSeen = none ∨
      (∃ soc, t.nodes.socSeen = some soc ∧ s.faults.reserve = false ∧ t.par .socReserve ≤ soc) ∨
      (∃ soc, t.nodes.socSeen = some soc ∧ s.faults.reserve = true ∧ soc < t.par .socReserve + 20) →
    t.faults.reserve = s.faults.reserve ∧ t.faults.entry .zoneReserve = s.faults.entry .zoneReserve

/-! ## Waves on the node link -/

/-- The wave of a frame, its bytes from H1 to the CRC byte, with what is driven in its ack window (R20, R28). -/
def frameWave (bytes ack : List Byte) : Wave :=
  (frameDrive bytes).pulses ++ symbolsFrom ((frameDrive bytes).endNs + eodNs) (bitsOf ack)

/-- The end of the EOD of a frame that the 620 sends undisturbed (R21, R24). -/
def frameEod (bytes : List Byte) : Nat := (frameDrive bytes).endNs + eodNs

/-- A powered part whose NLC receives and may follow a frame: nothing of its own is on the bus, and the bus is idle or carries a
frame that the receiver follows from its SOF (R23, R36). -/
structure State.Follows (s : State) : Prop where
  powered : s.supply = .on
  receives : s.nlc.link.receives = true
  quiet : s.nlc.tx = .idle
  bus : s.nlc.bus = .idle ∨ s.nlc.bus = .following

/-- A wave without a break that reads as a frame of good CRC to the 620, with its source, class, retry flag and payload, the end of
its EOD and the pulses behind it (R24, R36). -/
structure Carries (w : Wave) (source : Option NodeAddr) (cls : FrameClass) (retry : Bool) (payload : List Byte) (eod : Nat)
    (rest : Wave) : Prop where
  good : ∃ h1 h2, readFrame w = .good h1 h2 payload eod rest ∧ targetCode h1 = 0 ∧ frameClass h1 = cls ∧
    frameSource h2 = source ∧ frameRetry h2 = retry
  unbroken : hasBreak w = false

/-- A report of a node, of its role's length and fresh by its alive counter, reaches a part that is not in PARKED (R37, R48). -/
structure State.HearsFresh (s : State) (n : NodeAddr) (payload : List Byte) (w : Wave) : Prop where
  follows : s.Follows
  carries : ∃ retry eod rest, Carries w (some n) .report retry payload eod rest
  length : reportLength n = some payload.length
  awake : s.mode ≠ .parked
  fresh : (s.node n).lastAlive ≠ some (aliveOf payload)

/-- A frame has been acknowledged from the end of its EOD with a code and its CRC-8, 16 symbols of 4 µs, or until the echo check
stopped it; the bus is as the ack window and the EOF leave it (R26, R37, R38; after a failed check: log 46; the moments of the
check: log 56). -/
structure Acknowledged (code : Byte) (eod : Nat) (w rest : Wave) (n : LinkController) : Prop where
  whole : ackEcho eod w 0 (bitsOf [code, crc8 [code]]) = none →
    n.ack = some ⟨[code, crc8 [code]], eod, 64000⟩ ∧ n.bus = (readWindow eod rest).bus
  stopped : ∀ ns, ackEcho eod w 0 (bitsOf [code, crc8 [code]]) = some ns →
    n.ack = some ⟨[code, crc8 [code]], eod, ns⟩ ∧ n.bus = .waiting

/-- A frame of the 620 has settled on a code that takes its entry out of the queue, in whatever mode: its target's record has the
last code, the limited flag on DONE and DONE_LIMITED, the held flag on NAK_NOT_READY but for a HALT frame and an entry to a LOST
node, and one miss more on the third counted failure; NAK_INVALID sets notice REJECT; the deferred reply of a CONFIRMED entry joins
the reply line (R30, R31, R73, R77). -/
structure Entry.Concludes (e : Entry) (c : Completion) (s t : State) : Prop where
  record : t.node e.target = { s.node e.target with
    lastCode := some c
    limited := if c = .done then false else if c = .doneLimited then true else (s.node e.target).limited
    held := (s.node e.target).held || (c == .nakNotReady && !e.isHalt && e.fate != .nodeLost && (s.node e.target).presence != .lost)
    misses := if c.failed = true ∧ 2 ≤ e.attempts then min 65535 ((s.node e.target).misses + 1) else (s.node e.target).misses }
  others : ∀ m, m ≠ e.target → t.node m = s.node m
  reject : c = .nakInvalid → Noted .reject (nodeCode e.target) s t
  noNotice : c ≠ .nakInvalid → t.notices = s.notices
  reply : ∀ tag slot, e.reply = .confirmed tag slot → s.hli.ordered → t.hli.line = s.hli.line ++
    [⟨tag, 0x10, [if c.acked then stOk else stLinkFail, 0, byte e.tunnelNumber, byte (nodeCode e.target), c.code,
      ackByteOf (some c)], some slot⟩]
  noReply : e.reply = .none ∨ e.reply = .posted → t.hli = s.hli

/-! ## Laws every step keeps -/

/-- R215: SERVICE only in STANDBY with SVC asserted. -/
def AccessLaw (s : State) : Prop := s.hli.access = .service → s.mode = .standby ∧ s.svc = true

/-- R208, R209: replies wait only behind one being sent; at most 4 given without a slot wait; at most 2 slots hold CONFIRMED
TUNNEL SENDs. -/
def ReplyLaw (s : State) : Prop := s.hli.ordered ∧ s.hli.busyWaiting ≤ 4 ∧ s.hli.deferredHeld ≤ 2

/-- The five control targets and kinds (R66, R70). -/
def controlPairs : List (NodeAddr × EntryKind) :=
  [(.bkf, .pressure), (.bkr, .pressure), (.inv, .torque), (.eng, .command), (.eng, .force)]

/-- Whether a queue entry is a tunnel entry. -/
def EntryKind.isTunnel : EntryKind → Bool
  | .tunnel _ => true
  | .pressure => false
  | .torque => false
  | .command => false
  | .force => false

/-- Two entries do not both wait for one target and kind, and do not share a tunnel slot (R70, R76). -/
def Entry.apart (a b : Entry) : Prop :=
  (a.inFlight = true ∨ b.inFlight = true ∨ a.target ≠ b.target ∨ a.kind ≠ b.kind) ∧
  (a.kind.isTunnel = true → a.kind ≠ b.kind)

/-- R70 with what keeps it: entries apart, one in flight and only while its frame is sent, control entries of the five pairs
only, and in HALTED nothing waits but HALT frames and no other entry in flight returns to the queue (R10). -/
structure QueueLaw (s : State) : Prop where
  atMostTen : s.nlc.queue.length ≤ 10
  atMostFourTunnel : (s.nlc.queue.filter (fun e => e.origin == .tunnel)).length ≤ 4
  atMostSixControl : (s.nlc.queue.filter (fun e => e.origin != .tunnel)).length ≤ 6
  origin : ∀ e ∈ s.nlc.queue, (e.origin == .tunnel) = e.kind.isTunnel
  apart : s.nlc.queue.Pairwise Entry.apart
  inFlight : (s.nlc.queue.filter (fun e => e.inFlight)).length = match s.nlc.tx with
    | .frame _ => 1
    | .ended _ _ _ => 1
    | .idle => 0
    | .brk _ => 0
  control : ∀ e ∈ s.nlc.queue, e.kind.isTunnel = true ∨ (e.target, e.kind) ∈ controlPairs
  halted : s.mode = .halted → s.nlc.queue.length ≤ 5 ∧ ∀ e ∈ s.nlc.queue, e.inFlight = true ∨ e.isHalt = true
  haltedFlight : s.mode = .halted → ∀ e ∈ s.nlc.queue, e.inFlight = true → e.isHalt = true ∨ e.fate ≠ .returns

/-- R114: at most 32 records with consecutive numbers, the oldest carrying the overwritten count. -/
structure RingLaw (s : State) : Prop where
  atMost32 : s.log.ring.length ≤ 32
  next : s.log.next = s.log.overwritten + BitVec.ofNat 32 s.log.ring.length
  consecutive : ∀ n r, s.log.ring[n]? = some r → r.seq = s.log.overwritten + BitVec.ofNat 32 n

/-- R190, R193, R195: one entry a kind, levels at or above the minimum, factors in 64..255, and a SELF entry stands only while
its cause is present. -/
structure FaultLaw (s : State) : Prop where
  oneEach : (s.faults.active.map ActiveFault.kind).Nodup
  table : ∀ k, k.minLevel.code ≤ (s.faults.response k).level.code ∧ 64 ≤ (s.faults.response k).factor ∧
    (s.faults.response k).factor ≤ 255
  entries : ∀ e ∈ s.faults.active, e.kind.minLevel.code ≤ e.level.code ∧ 64 ≤ e.factor ∧ e.factor ≤ 255
  self : ∀ e ∈ s.faults.active, e.kind.latched = false → e.causePresent = true

/-- R217, R218: every parameter in its range, and the ordered pairs in order. -/
structure ParamLaw (s : State) : Prop where
  range : ∀ p, (paramRow p).lo ≤ s.par p ∧ s.par p ≤ (paramRow p).hi
  mass : s.par .mMin ≤ s.par .mMax
  fade : s.par .vLo + 100 ≤ s.par .vHi
  soc : s.par .socStart + 100 ≤ s.par .socStop

/-- R140, R145, R147, R152: each engine timer runs exactly in its own machine state. -/
structure EngineLaw (s : State) : Prop where
  crank : s.esc.crankTimer.isSome = (s.esc.machine == .cranking)
  rest : s.esc.restTimer.isSome = (s.esc.machine == .retryWait)
  cooldown : s.esc.cooldownTimer.isSome = (s.esc.machine == .cooldown)
  stop : s.esc.stopTimer.isSome = (s.esc.machine == .stopping)

/-- R45, R50 to R53: the stale timer runs exactly in PRESENT and the lost timer exactly in STALE, for every record. -/
def PresenceLaw (s : State) : Prop :=
  ∀ n, (s.node n).staleTimer.isSome = ((s.node n).presence == .present) ∧
    (s.node n).lostTimer.isSome = ((s.node n).presence == .stale)

/-- R166: an item's state is as its value stands against its thresholds, unless it is UNKNOWN. -/
def WearLaw (s : State) : Prop :=
  ∀ k, (s.wearItem k).state = .unknown ∨ (s.wearItem k).state = s.wearStateFor k (s.wearItem k).value

/-- R156: while the zone flag is set, the only crank there is has cause HOST_OVERRIDE. -/
def ZoneLaw (s : State) : Prop :=
  s.demand.zone = true → (s.esc.machine = .cranking ∨ s.esc.machine = .retryWait) → s.esc.crankCause = some .hostOverride

end Sys2Proof.Machine
end

