-- ==== Sys2Proof/Certificates/Slice0/Obligations.lean ====
section
/-! DEFINITION. The statements about the 620 for the provers. -/

open Sys2Proof Sys2Proof.Machine

/-! ## Steps, frames, pins -/

/-- A step takes the command at the front of the queue and runs it on the state with the queue's rest. -/
def Obligations.StepRunsFrontCommand : Prop :=
  ∀ (c : Instr) (rest : List Instr) (s : State), s.pending = c :: rest → step s = exec c (s.setPending rest)

/-- With no command waiting a powered part counts one millisecond: every timer and count that runs in its mode moves by one, and the
queue takes the expiry of exactly the timers that then stand at their end; an unpowered part does nothing. A break the NLC is sending
ends in it, is one bus reset, and restarts the quiet timer before it moves; the timers move as in any other tick, but for those of an
engine that its LINK_ERRORS stops, where that takes the level to SAFE_STOP. The model's choice: log 1, and log 24 for a distance of
1000 ms (R8, R10, R15, R16, R33, R34, R35, R43, R63, R81, R140, R183). -/
def Obligations.IdleStepCountsOneMillisecond : Prop :=
  ∀ s : State, s.pending = [] →
    (s.supply = .off → step s = .next s) ∧
    (s.supply = .on → ∃ t, step s = .next t ∧ t.runTime = s.runTime + 1 ∧ t.mode = s.mode ∧
      OnlyChanges (.pending :: (clockBlocks ++ raiseBlocks)) s t ∧
      t.nlc.tx.breaking = false ∧
      t.nlc.busResets = (if s.nlc.tx = .brk .driving then min 65535 (s.nlc.busResets + 1) else s.nlc.busResets) ∧
      t.wear.readyMs = (if s.mode = .ready then min 3600000 (s.wear.readyMs + 1) else s.wear.readyMs) ∧
      (s.mode = .parked → t.nodes = s.nodes) ∧
      (s.mode ≠ .parked → ∀ n, t.node n = { s.node n with staleTimer := (s.node n).staleTimer.map (· - 1),
                                                          lostTimer := (s.node n).lostTimer.map (· - 1) }) ∧
      (s.mode.live = true →
        t.demand = { s.demand with freshness := s.demand.freshness.map (· - 1), lowSpeed := s.demand.lowSpeed.map (· - 1) } ∧
        t.bbu.slipHold = s.bbu.slipHold.map (· - 1)) ∧
      (s.mode.live = false → t.demand = s.demand ∧ t.bbu.slipHold = s.bbu.slipHold) ∧
      (s.level = .safeStop ∨ t.level ≠ .safeStop →
        let dwell := if s.esc.machine = .off then min 4294967295 (s.esc.offDwell + 1) else s.esc.offDwell
        t.bbu = { s.bbu with slipHold := t.bbu.slipHold } ∧
        (s.mode.live = true →
          t.esc = { s.esc with crankTimer := s.esc.crankTimer.map (· - 1), restTimer := s.esc.restTimer.map (· - 1),
                               cooldownTimer := s.esc.cooldownTimer.map (· - 1), stopTimer := s.esc.stopTimer.map (· - 1),
                               offDwell := dwell }) ∧
        (s.mode = .parked → t.esc = { s.esc with offDwell := dwell }) ∧ (s.mode = .halted → t.esc = s.esc)) ∧
      (let plain := OnlyChanges (.pending :: clockBlocks) s t ∧ t.wear = { s.wear with readyMs := t.wear.readyMs }
       let silent : Bool := s.nlc.link == .halting && !s.nlc.breakDue && s.nlc.queue.isEmpty
       let link : Link := if silent then .silent else s.nlc.link
       let released : LinkController :=
         { s.nlc with tx := if silent then .idle else .brk .released, bus := .waiting, link := link }
       let counted := fun q : Timer => if link = .silent then q else q.map (· - 1)
       (s.nlc.tx.breaking = false → plain ∧
         t.nlc = { s.nlc with quiet := if s.nlc.link = .silent then s.nlc.quiet else s.nlc.quiet.map (· - 1) }) ∧
       (s.nlc.tx = .brk .recognised → plain ∧
         t.nlc = { released with ack := if silent then none else s.nlc.ack, quiet := counted s.nlc.quiet }) ∧
       (s.nlc.tx = .brk .driving →
         t.nlc.quiet = (if t.nlc.link = .silent then some 10000 else some 9999) ∧
         t.nlc.olderReset = s.nlc.newerReset ∧ t.nlc.newerReset = some s.runTime ∧ t.nlc.ack = none ∧
         ((∀ old, s.nlc.olderReset = some old → 1000 < elapsed s.runTime old) ∨ s.mode = .halted → plain ∧
           t.nlc = { released with ack := none, busResets := t.nlc.busResets, olderReset := s.nlc.newerReset,
                                   newerReset := some s.runTime, quiet := counted (some 10000) }) ∧
         (∀ old, s.nlc.olderReset = some old → elapsed s.runTime old ≤ 1000 → s.mode ≠ .halted → t.Raised .linkErrors))) ∧
      (.freshnessTimerExpiry ∈ t.pending ↔ s.mode.live = true ∧ t.demand.freshness = some 0) ∧
      (.lowSpeedTimerExpiry ∈ t.pending ↔ s.mode.live = true ∧ t.demand.lowSpeed = some 0) ∧
      (.slipHoldTimerExpiry ∈ t.pending ↔ s.mode.live = true ∧ t.bbu.slipHold = some 0) ∧
      (.crankTimerExpiry ∈ t.pending ↔ s.mode.live = true ∧ t.esc.crankTimer = some 0) ∧
      (.restTimerExpiry ∈ t.pending ↔ s.mode.live = true ∧ t.esc.restTimer = some 0) ∧
      (.cooldownTimerExpiry ∈ t.pending ↔ s.mode.live = true ∧ t.esc.cooldownTimer = some 0) ∧
      (.stopTimerExpiry ∈ t.pending ↔ s.mode.live = true ∧ t.esc.stopTimer = some 0) ∧
      (∀ n, .staleTimerExpiry n ∈ t.pending ↔ s.mode ≠ .parked ∧ (t.node n).staleTimer = some 0) ∧
      (∀ n, .lostTimerExpiry n ∈ t.pending ↔ s.mode ≠ .parked ∧ (t.node n).lostTimer = some 0) ∧
      (.quietTimerExpiry ∈ t.pending ↔ t.nlc.link ≠ .silent ∧ t.nlc.quiet = some 0) ∧
      (.periodicSaveTrigger ∈ t.pending ↔ s.mode = .ready ∧ 3600000 ≤ t.wear.readyMs) ∧
      (∀ c ∈ t.pending, c ∈ [Instr.freshnessTimerExpiry, .lowSpeedTimerExpiry, .slipHoldTimerExpiry, .crankTimerExpiry,
          .restTimerExpiry, .cooldownTimerExpiry, .stopTimerExpiry, .quietTimerExpiry, .periodicSaveTrigger] ∨
        ∃ n, c = .staleTimerExpiry n ∨ c = .lostTimerExpiry n))

/-- Every command is taken to a next state, with the waiting commands left alone; a well-formed one changes nothing outside
the blocks its rules give it. -/
def Obligations.EveryCommandAnswersWithinItsFrame : Prop :=
  ∀ (c : Instr) (s : State), ∃ t, exec c s = .next t ∧ t.pending = s.pending ∧
    (wellFormed c = true → OnlyChanges (touched c) s t)

/-- Power-on and nRESET give every block its reset values, keep the SVC pin and leave in the wear store what the cut-off save
left there; the loss of the supply keeps the same two, and an unpowered part takes no command but POWER_ON and the SVC pin
(R1, R188; logs 7 and 9). -/
def Obligations.ResetsStartEveryBlock : Prop :=
  ∀ (cut : WriteCut) (s : State),
    (∀ c, (c = .powerOn cut ∨ (c = .nreset cut ∧ s.supply = .on)) → ∃ t, exec c s = .next t ∧
      t.supply = .on ∧ t.mode = .standby ∧ t.progress = .idle ∧ t.keep = true ∧ t.slowClock = false ∧ t.waking = false ∧
      t.runTime = 0 ∧ (∀ p, t.par p = (paramRow p).dflt) ∧ t.hli = .initial ∧ t.demand = .initial ∧ t.nlc = .initial ∧
      t.nodes = .initial ∧ t.bbu = .initial ∧ t.psu = .initial ∧ t.esc = .initial ∧ t.log = .initial ∧
      t.wear = .initial t.wear.store ∧ t.faults = .initial ∧ (∀ k, t.noticeOf k = ⟨false, 0, 0⟩) ∧ t.nattnLow = false ∧
      t.svc = s.svc ∧ t.wear.store = s.wear.cutStore cut) ∧
    (s.supply = .on → ∃ t, exec (.powerLoss cut) s = .next t ∧ t.supply = .off ∧ t.keep = false ∧ t.svc = s.svc ∧
      t.wear.store = s.wear.cutStore cut ∧
      (∀ c, (∀ cut', c ≠ .powerOn cut') → c ≠ .svcLow → c ≠ .svcHigh → exec c t = .next t)) ∧
    (s.wear.save = none → s.wear.cutStore cut = s.wear.store) ∧
    (∀ job, s.wear.save = some job →
      s.wear.cutStore .keptOld = s.wear.store ∧ s.wear.cutStore .wroteNew = .image job.image ∧
      s.wear.cutStore .leftBad = .cutOff)

/-- R210: a pulse of 20 µs or more on nRESYNC returns the framer to HUNT and does nothing else; a shorter one, and any in
PARKED, does nothing. -/
def Obligations.NresyncDropsTheFrameInReception : Prop :=
  ∀ (us : Nat) (s : State), s.supply = .on → ∃ t, exec (.nresync us) s = .next t ∧
    (20 ≤ us → s.mode ≠ .parked →
      t.hli = { s.hli with framer := .hunt } ∧ OnlyChanges [.hli] s t) ∧
    (us < 20 ∨ s.mode = .parked → t = s)

/-- SVC going low returns the access level to DRIVE; SVC going high leaves it as it stands (R215). -/
def Obligations.SvcPinHoldsTheAccessLevel : Prop :=
  ∀ s : State,
    (∃ t, exec .svcLow s = .next t ∧ t.svc = false ∧ t.hli = { s.hli with access := .drive } ∧ OnlyChanges [.svc, .hli] s t) ∧
    (∃ t, exec .svcHigh s = .next t ∧ t.svc = true ∧ OnlyChanges [.svc] s t)

/-- The wake: a host edge, or a dominant level with wake-on-node set once the link has been left, starts it in PARKED and does
nothing otherwise; its end enters STANDBY with the inbox and the replies empty, the access level DRIVE, the counters kept and an
empty setpoint queue (R9, R42, R140, R211; that the link must be left first, what a wake makes of an entry still in flight and of
replies not yet sent: logs 14, 16, 17). -/
def Obligations.WakeEntersStandby : Prop :=
  ∀ s : State, s.supply = .on →
    (s.mode = .parked → ∃ t, exec .wakeOnHrx s = .next t ∧ t.waking = true ∧ OnlyChanges [.waking] s t) ∧
    (s.mode ≠ .parked → exec .wakeOnHrx s = .next s) ∧
    (s.mode = .parked → s.nlc.link = .away → Nat.testBit (s.par .attention) 10 = true →
      ∃ t, exec .wakeOnNode s = .next t ∧ t.waking = true ∧ OnlyChanges [.waking] s t) ∧
    (s.mode ≠ .parked ∨ s.nlc.link ≠ .away ∨ Nat.testBit (s.par .attention) 10 = false → exec .wakeOnNode s = .next s) ∧
    (s.mode = .parked → s.waking = true → ∃ t, exec .wakeEnd s = .next t ∧
      t.mode = .standby ∧ t.keep = true ∧ t.slowClock = false ∧ t.waking = false ∧
      t.nlc = { s.nlc with queue := [], tx := .idle, bus := .waiting, link := .up, breakDue := false, ack := none } ∧
      t.esc = { s.esc with auto := s.par .autoReset != 0, window := true } ∧
      t.hli = { s.hli with framer := .hunt, slots := #v[none, none, none, none], sending := none, waiting := [],
                           access := .drive } ∧
      Noted .mode 1 s t ∧ OnlyChanges [.mode, .waking, .keep, .slowClock, .hli, .nlc, .esc, .notices] s t) ∧
    (¬(s.mode = .parked ∧ s.waking = true) → exec .wakeEnd s = .next s)

/-! ## Host frames -/

/-- A frame with a wrong CRC, a byte that is no length byte or has a low stop bit, and a gap above 200 µs inside a frame are
discarded: each counts in its own counter and returns the framer to HUNT. HRX gives these commands as it shows them: the frame by its
bytes, a byte whose stop bit is low only inside a frame, the length byte in LENGTH, the idle stretch only inside a frame and only above
200 µs (R205, R206, R207, R212; the levels of the bits: log 58). -/
def Obligations.DiscardedHostFramesAreCounted : Prop :=
  ∀ s : State, s.supply = .on → s.mode ≠ .parked →
    (∀ body crc, badFrame body crc = true → ∃ t, exec (.hostFrameBadCrc body crc) s = .next t ∧
      t.hli = { s.hli with framer := .hunt, crcErrors := min 65535 (s.hli.crcErrors + 1) } ∧ OnlyChanges [.hli] s t) ∧
    (∀ cause, badLengthByte cause = true → ∃ t, exec (.hostFramingError cause) s = .next t ∧
      t.hli = { s.hli with framer := .hunt, framingErrors := min 65535 (s.hli.framingErrors + 1) } ∧
      OnlyChanges [.hli] s t) ∧
    (∀ us, 200 < us → ∃ t, exec (.interByteGapTimeout us) s = .next t ∧
      t.hli = { s.hli with framer := .hunt, framingErrors := min 65535 (s.hli.framingErrors + 1) } ∧
      OnlyChanges [.hli] s t) ∧
    (∀ body crc line, badFrame body crc = true → HostLine.Shows line (hostFrameCarrying (byte body.length :: body) crc) →
      s.hli.framer = .hunt → s.Reads line [.hostFrameBadCrc body crc]) ∧
    (∀ b : Byte, s.Reads (charLine b .low) (if s.hli.framer = .hunt then [] else [.hostFramingError .badByte])) ∧
    (∀ b : Byte, s.hli.framer = .length → badLengthByte (.lengthByte b) = true →
      s.Reads (byteLine b) [.hostFramingError (.lengthByte b)]) ∧
    (∀ us, s.Reads (List.replicate us .high) (if s.hli.framer ≠ .hunt ∧ 200 < us then [.interByteGapTimeout us] else []))

/-- A kind outside 0x01 to 0x11 is answered UNKNOWN, a ROUTE, ENGINE or TUNNEL sub-operation of no row VALUE, a MODE target of no
row VALUE with the mode and reason NONE, an ACCESS level above 1 VALUE with the level as it stands, and a FAULTS page above 1 or a
DESCRIBE page above 2 VALUE; none of them changes anything. HRX that shows the frame of such a request gives its command (R2, R158,
R199, R205, R207, R209, R214, R216; that the VALUE reply carries its status alone is the model's choice for a sub-operation, log 11, and
for a FAULTS page, log 34; the levels of the bits: log 58). -/
def Obligations.UnknownRequestsAreAnswered : Prop :=
  ∀ (tag kind : Byte) (data : List Byte) (s : State) (i : Fin 4), s.Accepts i →
    (kind.toNat = 0 ∨ 0x11 < kind.toNat → ∃ t, exec (.requestUnknownKind tag kind data) s = .next t ∧
      Answered tag kind [stUnknown] i s t ∧ OnlyChanges [.hli] s t) ∧
    ((kind = 0x02 ∨ kind = 0x03 ∨ kind = 0x10) → data ≠ [] → unnamed kind data = true →
      ∃ t, exec (.requestUnknownKind tag kind data) s = .next t ∧ Answered tag kind [stValue] i s t ∧ OnlyChanges [.hli] s t) ∧
    (∀ target : Byte, 4 < target.toNat → ∃ t, exec (.requestUnknownKind tag 0x04 [target]) s = .next t ∧
      Answered tag 0x04 [stValue, byte s.mode.code, 0x00] i s t ∧ OnlyChanges [.hli] s t) ∧
    (∀ level : Byte, 1 < level.toNat → ∃ t, exec (.requestUnknownKind tag 0x0F [level]) s = .next t ∧
      Answered tag 0x0F [stValue, s.hli.access.code] i s t ∧ OnlyChanges [.hli] s t) ∧
    (∀ page : Byte, 1 < page.toNat → ∃ t, exec (.requestUnknownKind tag 0x0C [page]) s = .next t ∧
      Answered tag 0x0C [stValue] i s t ∧ OnlyChanges [.hli] s t) ∧
    (∀ page : Byte, 2 < page.toNat → ∃ t, exec (.requestUnknownKind tag 0x11 [page]) s = .next t ∧
      Answered tag 0x11 [stValue] i s t ∧ OnlyChanges [.hli] s t) ∧
    (∀ line, wellFormed (.requestUnknownKind tag kind data) = true → HostLine.Shows line (hostFrameBytes tag kind data) →
      s.hli.framer = .hunt → s.Reads line [.requestUnknownKind tag kind data])

/-- The checks of a request in their order: in PARKED it only wakes the part; a full inbox is answered BUSY without a slot, or
not at all while 4 such replies wait; a wrong length is answered LENGTH; HALTED answers all but STATUS and DESCRIBE with MODE;
a third CONFIRMED TUNNEL SEND is answered BUSY whatever its other checks give. HRX that shows the frame of a request, with its tag,
kind, payload and CRC-16, gives that request, and in PARKED the first falling edge and no more (R9, R10, R205, R206, R207, R208, R209,
R212; which replies and sends are counted is the model's reading, logs 12 and 13; the levels of the bits: log 58). -/
def Obligations.RequestsMeetTheChecksInOrder : Prop :=
  ∀ (c : Instr) (f : RequestForm) (s : State), requestForm c = some f → s.supply = .on →
    (s.mode = .parked → exec c s = .next (s.setWaking true)) ∧
    (∀ tag kind data line, requestFields c = some (tag, kind, data) → wellFormed c = true →
      HostLine.Shows line (hostFrameBytes tag kind data) → s.hli.framer = .hunt →
      tag = f.tag ∧ kind = f.kind ∧
      s.Reads line (if s.mode = .parked then (if s.waking = true then [] else [.wakeOnHrx]) else [c])) ∧
    (s.mode ≠ .parked → s.hli.ordered → ∃ t, exec c s = .next t ∧
      (∀ tag d, c = .tunnelSend tag d → confirmedSend d = true → 2 ≤ s.hli.deferredHeld → s.hli.busyWaiting < 4 →
        t.hli.line = s.hli.line ++ [⟨f.tag, f.kind, [stBusy], none⟩] ∧ t.hli.slots = s.hli.slots ∧ OnlyChanges [.hli] s t) ∧
      ((∀ tag d, c = .tunnelSend tag d → confirmedSend d = true → s.hli.deferredHeld < 2) →
        (s.hli.freeSlot = none → s.hli.busyWaiting < 4 →
          t.hli.line = s.hli.line ++ [⟨f.tag, f.kind, [stBusy], none⟩] ∧ t.hli.slots = s.hli.slots ∧
          OnlyChanges [.hli] s t) ∧
        (s.hli.freeSlot = none → 4 ≤ s.hli.busyWaiting →
          t.hli = { s.hli with framer := .hunt } ∧ OnlyChanges [.hli] s t) ∧
        (∀ i, s.hli.freeSlot = some i → f.lengthOk = false →
          Answered f.tag f.kind [stLength] i s t ∧ OnlyChanges [.hli] s t) ∧
        (∀ i, s.hli.freeSlot = some i → f.lengthOk = true → s.mode = .halted → readInHalted f.kind = false →
          Answered f.tag f.kind [stMode] i s t ∧ OnlyChanges [.hli] s t)))

/-- The end of a reply frees the slot it held and begins the next one of the line; in PARKED the last reply due lets the clock go to
slow running. While it is sent, HTX shows its frame: sync, length, tag, kind with bit 7 set, payload and CRC-16, each byte 10 µs with a
low start bit, 8 data bits of 1 µs from the least significant on, no parity bit and a high stop bit, the bytes without a gap, and high
from the end of the last one on, as on an idle line (R8, R206, R208, R209, R211, R212; that the clock slows only before a wake, and that
a wake in progress keeps the clock, is the model's reading, log 17; the levels of the bits: log 58). -/
def Obligations.ReplyEndFreesItsSlot : Prop :=
  ∀ (r : Reply) (s : State), s.supply = .on → s.hli.sending = some r →
    (let covered := byte (r.payload.length + 2) :: r.tag :: (r.kind ||| 0x80) :: r.payload
     r.frame = 0xC3 :: covered ++ be16 (crc16 covered).toNat) ∧
    (∀ (k ns : Nat) (b : Byte), r.frame[k]? = some b → ns < 1000 →
      s.hli.htx (10000 * k + ns) = .low ∧
      (∀ j < 8, s.hli.htx (10000 * k + 1000 * (j + 1) + ns) = if b.getLsbD j then .high else .low) ∧
      s.hli.htx (10000 * k + 9000 + ns) = .high) ∧
    (∀ ns, 10000 * r.frame.length ≤ ns → s.hli.htx ns = .high) ∧
    ∃ t, exec .replyEnd s = .next t ∧ (t.hli.line = [] → ∀ ns, t.hli.htx ns = .high) ∧
    t.hli.line = s.hli.line.tail ∧ t.hli.ordered ∧
    (r.slot = none → t.hli.slots = s.hli.slots) ∧ (∀ i, r.slot = some i → t.hli.slots = s.hli.slots.set i none) ∧
    t.hli.framer = s.hli.framer ∧ t.hli.access = s.hli.access ∧ t.hli.framingErrors = s.hli.framingErrors ∧
    t.hli.crcErrors = s.hli.crcErrors ∧
    (s.mode = .parked → s.waking = false → t.hli.line = [] → t.hli.slots = #v[none, none, none, none] → t.slowClock = true) ∧
    (s.mode ≠ .parked ∨ s.waking = true ∨ t.hli.line ≠ [] → t.slowClock = s.slowClock) ∧
    OnlyChanges [.hli, .slowClock] s t

/-! ## The demand stream -/

/-- An accepted DEMAND outside READY: the record, Δt, freshness and distance are taken, the reply has path NONE and zero outputs,
the speed moves the motion state and a door opening at standstill counts a stop, and no setpoint is offered; the whole metres and
the stop count a schedule down, and the engine is left alone (R12 to R18, R124, R161, R162). -/
def Obligations.DemandOutsideReadyDrivesNothing : Prop :=
  ∀ (tag : Byte) (d : List Byte) (s : State) (i : Fin 4), s.Accepts i → s.mode ≠ .ready → d.length = 13 →
    let f := demandFields d
    let st := okOrClamped (f.clamped (s.par .mMin) (s.par .mMax))
    ∃ t, exec (.demand tag d) s = .next t ∧
      Answered tag 0x01 (demandReply st f.override .none .initial .initial) i s t ∧
      DemandTaken f s t ∧ t.esc = { s.esc with schedule := s.scheduleAfter f } ∧
      OnlyChanges [.hli, .demand, .esc, .faults, .notices] s t

/-- A braking DEMAND in READY: the Demand Unit takes it as in any mode; the blend of the state that stages 1 to 6 leave answers the
request, and, unless its own shortfall takes the level to SAFE_STOP, it becomes the result, its recovery becomes F_reg_prev, the
energy remainders take its energies, the whole joules of friction wear the pads by their sides and temperatures, and the open event
is fed or one is opened while the bus moves; its three setpoints are offered, and a shortfall raises FRICTION_SATURATED. Where that
takes the level to SAFE_STOP, a blend with recovery is followed by a cut re-blend of the whole force as friction, whose setpoints
take the place of its own, and which ends FRICTION_SATURATED where it has no shortfall, and one without stands; at standstill a
running engine is stopped and a crank abandoned by cause SAFE. The split result becomes 0, ENG FORCE 0 is offered and both elapsed
values take Δt with F_req at 0, unless stop cause AUTO then has the ESC offer it. The schedule counts down, and its entry to DUE
and the hand-on start, return or stop the engine as their conditions give (R12 to R18, R82, R86, R94, R99, R101, R102, R104, R108,
R109, R122, R136, R137, R144, R150, R161, R162, R169, R170, R196; that the raise comes after the offers, the wear and the event:
log 18; the DEMAND cause reads the value as it stands, log 21; with no coolant stored the STARTS increment is 1, log 27; sums past
48 bits are free, log 39). -/
def Obligations.BrakingDemandBlends : Prop :=
  ∀ (tag : Byte) (d : List Byte) (s : State) (i : Fin 4), s.Accepts i → s.mode = .ready → d.length = 13 →
    let f := demandFields d
    let st := okOrClamped (f.clamped (s.par .mMin) (s.par .mMax))
    let dt := s.demandStep
    let u := s.demandStages f
    let r := u.blendResult .demand
    let v := min 3000 f.speed
    let sumReg := s.bbu.remReg + r.fReg * v * dt
    let sumFront := s.bbu.remFront + (r.fFront - r.shortFront) * v * dt
    let sumRear := s.bbu.remRear + (r.fRear - r.shortRear) * v * dt
    let weight := fun temp : Option Int => padWeight (s.par .tempT1) (s.par .tempT2) temp
    let front := padsOf s.nodes.bkf s.nodes.bkfReport
    let rear := padsOf s.nodes.bkr s.nodes.bkrReport
    let halts : Prop := r.short = true ∧ u.RaiseStops .frictionSaturated
    0 < f.brake → ∃ t, exec (.demand tag d) s = .next t ∧
      Answered tag 0x01 (demandReply st f.override .blend r .initial) i s t ∧
      DemandTaken f s t ∧
      t.esc.schedule = (if s.esc.machine = .off ∧ t.esc.machine ≠ .off then none else s.scheduleAfter f) ∧
      (¬(halts ∧ u.demand.motion = .standstill) → EngineFollows f s t) ∧
      r.fDem = clampMass (s.par .mMin) (s.par .mMax) (unsigned (field d 8 2)) * min 500 f.brake / 100 ∧
      t.bbu.braking = true ∧ HandsOn .initial dt s t ∧
      (s.AutoStopFails t → Offered s .eng .force [0, 0] .split t) ∧
      (¬halts →
        t.bbu = { s.bbu with result := r, prev := r.fReg, braking := true, saturated := r.short,
                             remReg := sumReg % 100000, remFront := sumFront % 100000, remRear := sumRear % 100000 } ∧
        (r.short = true → t.Raised .frictionSaturated) ∧
        (let worn := fun (k : WearKind) (amount : Nat) =>
           (t.wearItem k).value = min 4294967295 ((s.wearItem k).value + ((s.wearItem k).remainder + amount) / 10000) ∧
           (t.wearItem k).remainder = ((s.wearItem k).remainder + amount) % 10000
         worn .padFL ((sumFront / 100000 + 1) / 2 * weight front.1) ∧ worn .padFR (sumFront / 100000 / 2 * weight front.2) ∧
         worn .padRL ((sumRear / 100000 + 1) / 2 * weight rear.1) ∧ worn .padRR (sumRear / 100000 / 2 * weight rear.2)) ∧
        t.log = { s.log with current := t.log.current } ∧
        (∀ ev, s.log.current = some ev → ∃ e, t.log.current = some e ∧
          e = { ev with peak := max ev.peak (min 500 f.brake), tally := countTerm r.term ev.tally,
                        shortfall := ev.shortfall || r.short, regJoules := e.regJoules, frontJoules := e.frontJoules,
                        rearJoules := e.rearJoules } ∧
          (ev.regJoules.toNat + sumReg / 100000 < 2 ^ 48 → e.regJoules.toNat = ev.regJoules.toNat + sumReg / 100000) ∧
          (ev.frontJoules.toNat + sumFront / 100000 < 2 ^ 48 →
            e.frontJoules.toNat = ev.frontJoules.toNat + sumFront / 100000) ∧
          (ev.rearJoules.toNat + sumRear / 100000 < 2 ^ 48 → e.rearJoules.toNat = ev.rearJoules.toNat + sumRear / 100000)) ∧
        (s.log.current = none → 0 < v → ∃ e, t.log.current = some e ∧ e.startTime = s.runTime ∧ e.startSpeed = v ∧
          e.peak = min 500 f.brake ∧ e.tally = countTerm r.term noTally ∧ e.shortfall = r.short ∧ e.slip = none ∧
          (sumReg / 100000 < 2 ^ 48 → e.regJoules.toNat = sumReg / 100000) ∧
          (sumFront / 100000 < 2 ^ 48 → e.frontJoules.toNat = sumFront / 100000) ∧
          (sumRear / 100000 < 2 ^ 48 → e.rearJoules.toNat = sumRear / 100000)) ∧
        (s.log.current = none → v = 0 → t.log.current = none)) ∧
      (let offers := fun b : BlendResult => Offered s .bkf .pressure (1 :: be16 b.pFront) .blend t ∧
         Offered s .bkr .pressure (1 :: be16 b.pRear) .blend t ∧ Offered s .inv .torque (be16 (twos16 (-(b.tReg : Int)))) .blend t
       (¬halts → offers r) ∧
       (halts →
         offers t.bbu.result ∧ t.bbu.prev = 0 ∧
         (t.bbu.result.short = true → t.level = .safeStop ∧ t.Raised .frictionSaturated) ∧
         (t.bbu.result.short = false → t.faults.entry .frictionSaturated = none) ∧
         (r.fReg = 0 → t.bbu.result = r) ∧
         (0 < r.fReg → t.bbu.result.trigger = .cut ∧ t.bbu.result.fReg = 0 ∧ t.bbu.result.tReg = 0 ∧
           t.bbu.result.fDem = r.fDem ∧ t.bbu.result.fFront + t.bbu.result.fRear = r.fDem) ∧
         (u.demand.motion = .standstill →
           (s.esc.machine = .run → 0 < s.par .tCool → t.esc.machine = .cooldown ∧ t.esc.stopCause = some .safe) ∧
           (u.esc.machine = .cranking → t.esc.machine = .stopping ∧ t.esc.stopCause = some .safe)))) ∧
      OnlyChanges [.hli, .demand, .psu, .nlc, .bbu, .esc, .log, .wear, .faults, .notices] s t

/-- A DEMAND with no brake request in READY: the Demand Unit takes it as in any mode; braking is left if the flag was set, the
split becomes the result, INV TORQUE and ENG FORCE are offered, the reply is built from it, and both elapsed values take Δt and are
handed on. The schedule counts down. Its entry to DUE, and then the hand-on, are evaluation points: in OFF the first of SOC_LOW,
DEMAND and SCHEDULED that stands starts the engine if the conditions of a start hold, and in COOLDOWN a standing auto cause returns
it to RUN; in RUN, AUTO stops it when the electric-sufficient value has reached t_elec and STARTS is not LIMIT, with ENG FORCE 0
(R12 to R18, R83, R121, R134, R135, R136, R137, R144, R145, R150, R151, R161, R162; that braking is left before the split is the
model's choice, log 43; the DEMAND cause reads the value as it stands, log 21; with no coolant stored the STARTS increment is 1,
log 27). -/
def Obligations.TractionDemandSplits : Prop :=
  ∀ (tag : Byte) (d : List Byte) (s : State) (i : Fin 4), s.Accepts i → s.mode = .ready → d.length = 13 →
    let f := demandFields d
    let st := okOrClamped (f.clamped (s.par .mMin) (s.par .mMax))
    let u := s.demandStages f
    let w := if s.bbu.braking = true then u.leaveBraking .released else u
    let r := w.splitInputs.result s.params
    f.brake = 0 → ∃ t, exec (.demand tag d) s = .next t ∧
      Answered tag 0x01 (demandReply st f.override .split .initial r) i s t ∧ DemandTaken f s t ∧
      t.psu.result = r ∧ r.fE + r.fEng + r.fShort = r.fReq ∧
      t.bbu = (if s.bbu.braking = true then
        { s.bbu with prev := 0, result := .initial, braking := false, saturated := false } else s.bbu) ∧
      Offered s .inv .torque (be16 (twos16 r.tInv)) .split t ∧ HandsOn r s.demandStep s t ∧
      (s.AutoStopFails t → Offered s .eng .force (be16 r.engForce) .split t) ∧
      (s.esc.machine = .run → s.esc.auto = true → s.par .tElec * 1000 ≤ t.psu.sufficient →
        (s.wearItem .starts).state ≠ .limit → 0 < s.par .tCool →
        t.esc.machine = .cooldown ∧ t.esc.stopCause = some .auto ∧ t.esc.cooldownTimer = some (s.par .tCool * 1000) ∧
        Offered s .eng .force [0, 0] .engine t ∧ Noted .engine 5 s t) ∧
      EngineFollows f s t ∧
      OnlyChanges [.hli, .demand, .psu, .nlc, .bbu, .esc, .log, .wear, .faults, .notices] s t

/-! ## ROUTE and ENGINE -/

/-- ZONE_ENTER that sets the flag hands stop cause ZONE to the ESC: a running engine enters COOLDOWN, or STOPPING with a t_cool of
0; a crank that is not HOST_OVERRIDE is abandoned; COOLDOWN and STOPPING take the cause, and the start-pending latch stays only
with OVERRIDE. Then the reserve watch examines the SOC: below soc_reserve it raises ZONE_RESERVE, and where that takes the level to
SAFE_STOP a blend with recovery in READY is cut, and at standstill stop cause SAFE follows. ZONE_EXIT that clears the flag ends
ZONE_RESERVE and its mark, and then the ESC examines its causes: in OFF the first of SOC_LOW, DEMAND and SCHEDULED that stands
starts the engine if the conditions of a start hold, and in COOLDOWN a standing auto cause returns it to RUN; it does nothing else.
A request that finds the flag as asked changes nothing (R19, R86, R144, R145, R151, R152, R156, R162, R196, R197; the order within
each is the model's choice, log 19; the DEMAND cause reads the PSU's value as it stands, log 21; with no coolant stored the
increment is 1, log 27). -/
def Obligations.ZoneRequestsMoveTheFlag : Prop :=
  ∀ (tag : Byte) (s : State) (i : Fin 4), s.Accepts i →
    (s.demand.zone = false → ∃ t, exec (.routeZoneEnter tag []) s = .next t ∧
      Answered tag 0x02 ([stOk, 0, 1] ++ scheduleBytes t.esc.schedule) i s t ∧ t.demand = { s.demand with zone := true } ∧
      t.esc.schedule = s.esc.schedule ∧ ReserveExamined s t ∧
      (let raises : Prop := s.faults.reserve = false ∧ ∃ soc, s.nodes.socSeen = some soc ∧ soc < s.par .socReserve
       let halts : Prop := raises ∧ s.RaiseStops .zoneReserve
       let stopped : EngineUnit := { s.esc with machine := .stopping, stopCause := some .zone, cooldownTimer := none,
                                                crankTimer := none, restTimer := none, stopTimer := some (s.par .tStop),
                                                stopExpiries := 0 }
       (¬(halts ∧ s.demand.motion = .standstill) →
         (s.esc.machine = .warmup ∨ s.esc.machine = .run → 0 < s.par .tCool →
           t.esc = { s.esc with machine := .cooldown, stopCause := some .zone, cooldownTimer := some (s.par .tCool * 1000) } ∧
           Offered s .eng .force [0, 0] .engine t ∧ Noted .engine 5 s t) ∧
         (s.esc.machine = .warmup ∨ s.esc.machine = .run → s.par .tCool = 0 →
           t.esc = stopped ∧ Offered s .eng .force [0, 0] .engine t ∧ Offered s .eng .command [2] .engine t) ∧
         (s.esc.machine = .cranking ∨ s.esc.machine = .retryWait → s.esc.crankCause ≠ some .hostOverride →
           t.esc = { stopped with crankCause := none } ∧ Offered s .eng .command [2] .engine t ∧ Noted .engine 6 s t) ∧
         (s.esc.machine = .cranking ∨ s.esc.machine = .retryWait → s.esc.crankCause = some .hostOverride → t.esc = s.esc) ∧
         (s.esc.machine = .cooldown → t.esc = { s.esc with stopCause := some .zone }) ∧
         (s.esc.machine = .stopping → t.esc = { s.esc with
           stopCause := some .zone, latch := if s.esc.latch = some true then some true else none }) ∧
         (s.esc.machine = .off ∨ s.esc.machine = .fault → t.esc = s.esc)) ∧
       (halts → s.demand.motion = .standstill →
         (s.esc.machine = .warmup ∨ s.esc.machine = .run → 0 < s.par .tCool →
           t.esc = { s.esc with machine := .cooldown, stopCause := some .safe, cooldownTimer := some (s.par .tCool * 1000) }) ∧
         (s.esc.machine = .warmup ∨ s.esc.machine = .run → s.par .tCool = 0 →
           t.esc = { stopped with stopCause := some .safe, latch := none }) ∧
         (s.esc.machine = .cranking ∨ s.esc.machine = .retryWait → t.esc.machine = .stopping ∧ t.esc.stopCause = some .safe ∧
           t.esc.crankCause = none) ∧
         (s.esc.machine = .cooldown → t.esc = { s.esc with stopCause := some .safe }) ∧
         (s.esc.machine = .stopping → t.esc = { s.esc with stopCause := some .safe, latch := none }) ∧
         (s.esc.machine = .off ∨ s.esc.machine = .fault → t.esc = s.esc)) ∧
       (halts → t.level = .safeStop) ∧
       (halts → s.mode = .ready → 0 < s.bbu.prev →
         t.bbu.result.trigger = .cut ∧ t.bbu.result.fReg = 0 ∧ t.bbu.prev = 0) ∧
       (¬halts ∨ s.mode ≠ .ready ∨ s.bbu.prev = 0 → t.bbu = s.bbu ∧ t.log = s.log ∧ t.wear = s.wear) ∧
       (raises → ¬halts → Noted .faultRaised FaultKind.zoneReserve.code s t)) ∧
      OnlyChanges [.hli, .demand, .nlc, .bbu, .esc, .log, .wear, .faults, .notices] s t) ∧
    (s.demand.zone = true → ∃ t, exec (.routeZoneEnter tag []) s = .next t ∧
      Answered tag 0x02 ([stOk, 0, 1] ++ scheduleBytes s.esc.schedule) i s t ∧ OnlyChanges [.hli] s t) ∧
    (s.demand.zone = true → ∃ t, exec (.routeZoneExit tag []) s = .next t ∧
      Answered tag 0x02 ([stOk, 1, 0] ++ scheduleBytes t.esc.schedule) i s t ∧ t.demand = { s.demand with zone := false } ∧
      t.faults.reserve = false ∧ t.faults.entry .zoneReserve = none ∧
      (s.esc.machine = .off →
        (s.StartFits t.level → ∀ c, s.FirstCause s.psu.above s.esc.schedule c → Started s t c) ∧
        (¬s.StartFits t.level ∨ (∀ c, ¬s.FirstCause s.psu.above s.esc.schedule c) → t.esc = s.esc)) ∧
      (s.esc.machine = .cooldown →
        (s.Returns s.psu.above t.level →
          t.esc = { s.esc with machine := .run, cooldownTimer := none, stopCause := none } ∧ Noted .engine 4 s t) ∧
        (¬s.Returns s.psu.above t.level → t.esc = s.esc)) ∧
      (s.esc.machine ≠ .off → s.esc.machine ≠ .cooldown → t.esc = s.esc) ∧
      (s.esc.machine ≠ .off → OnlyChanges [.hli, .demand, .esc, .faults, .notices] s t) ∧
      OnlyChanges [.hli, .demand, .nlc, .esc, .wear, .faults, .notices] s t) ∧
    (s.demand.zone = false → ∃ t, exec (.routeZoneExit tag []) s = .next t ∧
      Answered tag 0x02 ([stOk, 1, 0] ++ scheduleBytes s.esc.schedule) i s t ∧ OnlyChanges [.hli] s t)

/-- SCHEDULE in READY takes its clamped counts and starts in the phase they give; one that is DUE at once cranks an OFF engine if
the conditions of a start hold, stands if they do not, and is cleared if the engine is not OFF, which is an evaluation point: in
COOLDOWN a standing auto cause then returns the engine to RUN; outside READY it is refused with MODE; CANCEL clears the schedule
(R144, R151, R160, R162; the DEMAND cause reads the PSU's value as it stands, log 21). -/
def Obligations.ScheduleIsTakenInReady : Prop :=
  ∀ (tag stops hi lo : Byte) (s : State) (i : Fin 4), s.Accepts i →
    let n := min 15 stops.toNat
    let m := min 10000 (hi.toNat * 256 + lo.toNat)
    let st := okOrClamped (decide (15 < stops.toNat) || decide (10000 < hi.toNat * 256 + lo.toNat))
    (∃ t, exec (.routeSchedule tag [stops, hi, lo]) s = .next t ∧
      (s.mode = .ready → 0 < n + m →
        t.esc = { s.esc with schedule := some ⟨if 0 < n then .countStops else .countDistance, n, m⟩ } ∧
        Answered tag 0x02 ([st, 2, byte (bit s.demand.zone)] ++ scheduleBytes t.esc.schedule) i s t ∧
        OnlyChanges [.hli, .esc] s t) ∧
      (s.mode = .ready → n + m = 0 → s.esc.machine ≠ .off → s.esc.machine ≠ .cooldown ∨ s.autoReturns = false →
        t.esc = { s.esc with schedule := none } ∧
        Answered tag 0x02 ([st, 2, byte (bit s.demand.zone)] ++ scheduleBytes none) i s t ∧ OnlyChanges [.hli, .esc] s t) ∧
      (s.mode = .ready → n + m = 0 → s.esc.machine = .cooldown → s.autoReturns = true →
        t.esc = { s.esc with schedule := none, machine := .run, cooldownTimer := none, stopCause := none } ∧
        Noted .engine 4 s t ∧ Answered tag 0x02 ([st, 2, byte (bit s.demand.zone)] ++ scheduleBytes none) i s t ∧
        OnlyChanges [.hli, .esc, .notices] s t) ∧
      (s.mode = .ready → n + m = 0 → s.esc.machine = .off → s.startAllowed = false →
        t.esc = { s.esc with schedule := some ⟨.due, 0, 0⟩ } ∧
        Answered tag 0x02 ([st, 2, byte (bit s.demand.zone)] ++ scheduleBytes (some ⟨.due, 0, 0⟩)) i s t ∧
        OnlyChanges [.hli, .esc] s t) ∧
      (s.mode = .ready → n + m = 0 → s.esc.machine = .off → s.startAllowed = true →
        t.esc.machine = .cranking ∧ t.esc.schedule = none ∧ Queued .eng .command [1] .engine t ∧
        Answered tag 0x02 ([st, 2, byte (bit s.demand.zone)] ++ scheduleBytes none) i s t ∧
        OnlyChanges [.hli, .nlc, .esc, .wear, .notices] s t) ∧
      (s.mode ≠ .ready →
        Answered tag 0x02 ([stMode, 2, byte (bit s.demand.zone)] ++ scheduleBytes s.esc.schedule) i s t ∧
        OnlyChanges [.hli] s t)) ∧
    (∃ t, exec (.routeCancel tag []) s = .next t ∧ t.esc = { s.esc with schedule := none } ∧
      Answered tag 0x02 ([stOk, 3, byte (bit s.demand.zone)] ++ scheduleBytes none) i s t ∧ OnlyChanges [.hli, .esc] s t)

/-- ENGINE START: in READY below SAFE_STOP, outside a zone or with OVERRIDE, an engine that is OFF and ready cranks, counts its
start and has START offered; a zone without OVERRIDE is answered INHIBITED and another mode MODE; the other machine states answer
as R148 gives (R145, R148, R151, R153, R159, R173; with no coolant stored the increment is 1, log 27). -/
def Obligations.HostStartCranksTheEngine : Prop :=
  ∀ (tag flags : Byte) (s : State) (i : Fin 4), s.Accepts i →
    let override := flags.getLsbD 0
    (s.mode = .ready → s.level ≠ .safeStop → (s.demand.zone = false ∨ override = true) → s.esc.machine = .off →
      s.engReady = true → ∃ t, exec (.engineStart tag [flags]) s = .next t ∧
        t.esc = { s.esc with machine := .cranking, attempts := 1, crankCause := some (if override then .hostOverride else .host),
                             crankTimer := some (s.par .tCrank), schedule := none, latch := none, stopCause := none } ∧
        Queued .eng .command [1] .engine t ∧
        (t.wearItem .starts).value =
          min 4294967295 ((s.wearItem .starts).value + startsIncrement s.nodes.coolantSeen) ∧
        (∀ k, k ≠ .starts → t.wearItem k = s.wearItem k) ∧ Noted .engine 1 s t ∧
        Answered tag 0x03 (t.engineReply stOk) i s t ∧ OnlyChanges [.hli, .nlc, .esc, .wear, .notices] s t) ∧
    (s.mode = .ready → s.level ≠ .safeStop → s.demand.zone = true → override = false →
      ∃ t, exec (.engineStart tag [flags]) s = .next t ∧ Answered tag 0x03 (s.engineReply stInhibited) i s t ∧
        OnlyChanges [.hli] s t) ∧
    (s.mode ≠ .ready ∨ s.level = .safeStop → ∃ t, exec (.engineStart tag [flags]) s = .next t ∧
      Answered tag 0x03 (s.engineReply stMode) i s t ∧ OnlyChanges [.hli] s t) ∧
    (s.mode = .ready → s.level ≠ .safeStop → (s.demand.zone = false ∨ override = true) →
      ∃ t, exec (.engineStart tag [flags]) s = .next t ∧
        let unchanged := fun status : Byte => Answered tag 0x03 (s.engineReply status) i s t ∧ OnlyChanges [.hli] s t
        (s.esc.machine = .off → s.engReady = false → unchanged stAbsent) ∧
        (s.esc.machine ∈ [EngineState.cranking, .retryWait, .warmup, .run] → unchanged stOk) ∧
        (s.esc.machine = .cooldown → s.esc.stopCause = some .auto ∨ s.esc.stopCause = some .host →
          t.esc = { s.esc with machine := .run, cooldownTimer := none, stopCause := none } ∧
          Answered tag 0x03 (t.engineReply stOk) i s t ∧ OnlyChanges [.hli, .esc, .notices] s t) ∧
        (s.esc.machine = .cooldown → s.esc.stopCause = some .zone → unchanged stInhibited) ∧
        (s.esc.machine = .cooldown → s.esc.stopCause = some .safe → unchanged stMode) ∧
        (s.esc.machine = .cooldown → s.esc.stopCause = some .mode ∨ s.esc.stopCause = some .shutdown → unchanged stActive) ∧
        (s.esc.machine = .stopping → t.esc = { s.esc with latch := some override } ∧
          Answered tag 0x03 (t.engineReply stOk) i s t ∧ OnlyChanges [.hli, .esc] s t) ∧
        (s.esc.machine = .fault → unchanged stActive))

/-- ENGINE STOP in RUN or WARMUP: COOLDOWN for t_cool, or straight to STOPPING with IMMEDIATE or a t_cool of 0; a crank is
abandoned; STOPPING drops its latch; in OFF and FAULT, and in COOLDOWN without IMMEDIATE, it is answered OK and changes nothing
(R151, R152, R158; IMMEDIATE with a t_cool of 0 is read as log 31 says). -/
def Obligations.HostStopStopsTheEngine : Prop :=
  ∀ (tag flags : Byte) (s : State) (i : Fin 4), s.Accepts i → ∃ t, exec (.engineStop tag [flags]) s = .next t ∧
    Answered tag 0x03 (t.engineReply stOk) i s t ∧
    (s.esc.machine = .run ∨ s.esc.machine = .warmup → flags.getLsbD 0 = false → 0 < s.par .tCool →
      t.esc = { s.esc with machine := .cooldown, stopCause := some .host, cooldownTimer := some (s.par .tCool * 1000) } ∧
      Offered s .eng .force [0, 0] .engine t ∧ Noted .engine 5 s t ∧ OnlyChanges [.hli, .nlc, .esc, .notices] s t) ∧
    (s.esc.machine = .run ∨ s.esc.machine = .warmup → flags.getLsbD 0 = true ∨ s.par .tCool = 0 →
      t.esc.machine = .stopping ∧ t.esc.stopCause = some .host ∧ t.esc.stopTimer = some (s.par .tStop) ∧
      t.esc.stopExpiries = 0 ∧ t.esc.cooldownTimer = none ∧ Offered s .eng .command [2] .engine t ∧
      OnlyChanges [.hli, .nlc, .esc, .notices] s t) ∧
    (s.esc.machine = .cranking ∨ s.esc.machine = .retryWait →
      t.esc.machine = .stopping ∧ t.esc.stopCause = some .host ∧ t.esc.crankCause = none ∧ t.esc.crankTimer = none ∧
      t.esc.restTimer = none ∧ t.esc.stopTimer = some (s.par .tStop) ∧ OnlyChanges [.hli, .nlc, .esc, .notices] s t) ∧
    (s.esc.machine = .cooldown → flags.getLsbD 0 = true →
      t.esc.machine = .stopping ∧ t.esc.stopCause = some .host ∧ t.esc.stopTimer = some (s.par .tStop)) ∧
    (s.esc.machine = .stopping → t.esc = { s.esc with stopCause := some .host, latch := none } ∧ OnlyChanges [.hli, .esc] s t) ∧
    (s.esc.machine = .off ∨ s.esc.machine = .fault ∨ (s.esc.machine = .cooldown ∧ flags.getLsbD 0 = false) →
      OnlyChanges [.hli] s t)

/-- AUTO_ON sets AUTO and is an evaluation point: in OFF the first of SOC_LOW, DEMAND and SCHEDULED that stands starts the engine if
mode, node, level, zone and off-dwell allow it; in COOLDOWN under cause AUTO or HOST a standing SOC_LOW or DEMAND returns it to RUN;
it does nothing else. AUTO_OFF clears AUTO and does nothing else (R144, R145, R151, R155; the DEMAND cause reads the PSU's value as
it stands, log 21). -/
def Obligations.AutoSettingFollowsItsRequests : Prop :=
  ∀ (tag flags : Byte) (s : State) (i : Fin 4), s.Accepts i →
    (∃ t, exec (.engineAutoOn tag [flags]) s = .next t ∧ t.esc.auto = true ∧ Answered tag 0x03 (t.engineReply stOk) i s t ∧
      OnlyChanges [.hli, .nlc, .esc, .wear, .notices] s t ∧
      let stays := t.esc = { s.esc with auto := true } ∧ OnlyChanges [.hli, .esc] s t
      let low : Prop := ∃ soc, s.nodes.socSeen = some soc ∧ soc < s.par .socStart
      let above : Prop := s.par .tDem * 1000 ≤ s.psu.above
      let due : Prop := ∃ sch, s.esc.schedule = some sch ∧ sch.phase = .due
      let dwell := s.par .tOffMin * 1000 *
        (if (s.wearItem .starts).state = .warn ∨ (s.wearItem .starts).state = .unknown then 2 else 1)
      let free : Prop := s.mode = .ready ∧ s.level ≠ .safeStop ∧ s.demand.zone = false
      (s.esc.machine = .off →
        (∀ c, (c = CrankCause.socLow ∧ low) ∨ (c = .demand ∧ ¬low ∧ above) ∨ (c = .scheduled ∧ ¬low ∧ ¬above ∧ due) →
          free → s.engReady = true → dwell ≤ s.esc.offDwell →
          t.esc = { s.esc with auto := true, machine := .cranking, attempts := 1, crankCause := some c,
                               crankTimer := some (s.par .tCrank), schedule := none, latch := none, stopCause := none } ∧
          Queued .eng .command [1] .engine t ∧ Noted .engine 1 s t ∧
          (t.wearItem .starts).value =
            min 4294967295 ((s.wearItem .starts).value + startsIncrement s.nodes.coolantSeen)) ∧
        ((¬low ∧ ¬above ∧ ¬due) ∨ ¬free ∨ s.engReady = false ∨ s.esc.offDwell < dwell → stays)) ∧
      (s.esc.machine = .cooldown →
        (low ∨ above → free → s.esc.stopCause = some .auto ∨ s.esc.stopCause = some .host →
          t.esc = { s.esc with auto := true, machine := .run, cooldownTimer := none, stopCause := none } ∧
          Noted .engine 4 s t ∧ OnlyChanges [.hli, .esc, .notices] s t) ∧
        ((¬low ∧ ¬above) ∨ ¬free ∨ (s.esc.stopCause ≠ some .auto ∧ s.esc.stopCause ≠ some .host) → stays)) ∧
      (s.esc.machine ≠ .off → s.esc.machine ≠ .cooldown → stays)) ∧
    (∃ t, exec (.engineAutoOff tag [flags]) s = .next t ∧ t.esc = { s.esc with auto := false } ∧
      Answered tag 0x03 (t.engineReply stOk) i s t ∧ OnlyChanges [.hli, .esc] s t)

/-- RESET_FAULT takes the machine from FAULT to OFF or RUN by the engine state that readers see, clears both counts and ends the
causes of CRANK_FAIL and STOP_FAIL; it is refused ACTIVE for any other engine state, MODE in SHUTDOWN, and answered OK outside
FAULT (R154, R158). -/
def Obligations.ResetFaultLeavesFault : Prop :=
  ∀ (tag flags : Byte) (s : State) (i : Fin 4), s.Accepts i → ∃ t, exec (.engineResetFault tag [flags]) s = .next t ∧
    (s.mode ≠ .shutdown → s.esc.machine = .fault → s.nodes.engineSeen = .off ∨ s.nodes.engineSeen = .running →
      t.esc = { s.esc with machine := if s.nodes.engineSeen = .off then .off else .run, attempts := 0, stopExpiries := 0,
                           offDwell := if s.nodes.engineSeen = .off then 0 else s.esc.offDwell } ∧
      (∀ e ∈ t.faults.active, e.kind = .crankFail ∨ e.kind = .stopFail → e.causePresent = false) ∧
      t.faults.active.map ActiveFault.kind = s.faults.active.map ActiveFault.kind ∧
      Answered tag 0x03 (t.engineReply stOk) i s t ∧ OnlyChanges [.hli, .esc, .faults, .notices] s t) ∧
    (s.mode ≠ .shutdown → s.esc.machine = .fault → s.nodes.engineSeen ≠ .off → s.nodes.engineSeen ≠ .running →
      Answered tag 0x03 (s.engineReply stActive) i s t ∧ OnlyChanges [.hli] s t) ∧
    (s.mode ≠ .shutdown → s.esc.machine ≠ .fault → Answered tag 0x03 (s.engineReply stOk) i s t ∧ OnlyChanges [.hli] s t) ∧
    (s.mode = .shutdown → Answered tag 0x03 (s.engineReply stMode) i s t ∧ OnlyChanges [.hli] s t)

/-! ## MODE -/

/-- MODE READY in STANDBY: taken when INV, BAT, BKF and BKR are PRESENT, the load is complete and the level is below SAFE_STOP;
otherwise refused with the first unmet condition; in READY answered OK, in SHUTDOWN refused (R2, R3, R4, R7, R215). -/
def Obligations.ModeReadyExaminesSixConditions : Prop :=
  ∀ (tag : Byte) (s : State) (i : Fin 4), s.Accepts i → ∃ t, exec (.modeReady tag []) s = .next t ∧
    let here := fun n => (s.node n).presence = .present
    let refused := fun reason : Byte => Answered tag 0x04 [stMode, byte s.mode.code, reason] i s t ∧ OnlyChanges [.hli] s t
    (s.mode = .standby →
      (here .inv → here .bat → here .bkf → here .bkr → s.wear.load ≠ .inFlight → s.level ≠ .safeStop →
        t.mode = .ready ∧ t.demand = { s.demand with freshness := some (s.par .tFresh), firstInReady := true } ∧
        t.hli.access = .drive ∧ Noted .mode 2 s t ∧ Replied [] tag 0x04 [stOk, 2, 0] i s t ∧
        OnlyChanges [.mode, .hli, .demand, .notices] s t) ∧
      (¬here .inv → refused 0x02) ∧ (here .inv → ¬here .bat → refused 0x03) ∧
      (here .inv → here .bat → ¬here .bkf → refused 0x04) ∧ (here .inv → here .bat → here .bkf → ¬here .bkr → refused 0x05) ∧
      (here .inv → here .bat → here .bkf → here .bkr → s.wear.load = .inFlight → refused 0x06) ∧
      (here .inv → here .bat → here .bkf → here .bkr → s.wear.load ≠ .inFlight → s.level = .safeStop → refused 0x07)) ∧
    (s.mode = .ready → Answered tag 0x04 [stOk, 2, 0] i s t ∧ OnlyChanges [.hli] s t) ∧
    (s.mode = .shutdown → refused 0x01)

/-- MODE STANDBY: from READY at standstill with the leaving steps, from a shutdown that still waits for the engine, refused while
MOVING or SAVING (R2, R5, R7, R83, R120). -/
def Obligations.ModeStandbyLeavesReady : Prop :=
  ∀ (tag : Byte) (s : State) (i : Fin 4), s.Accepts i → ∃ t, exec (.modeStandby tag []) s = .next t ∧
    (s.mode = .ready → s.demand.motion = .standstill →
      t.mode = .standby ∧ t.demand = { s.demand with stale := false } ∧
      t.bbu = { s.bbu with prev := 0, result := .initial, saturated := false, braking := false } ∧ t.psu = .initial ∧
      t.log.current = none ∧ t.esc.schedule = none ∧ Offered s .inv .torque [0, 0] .mode t ∧
      Offered s .bkf .pressure [0, 0, 0] .mode t ∧ Offered s .bkr .pressure [0, 0, 0] .mode t ∧ Noted .mode 1 s t ∧
      (s.esc.machine = .run → 0 < s.par .tCool → t.esc.machine = .cooldown ∧ t.esc.stopCause = some .mode) ∧
      Answered tag 0x04 [stOk, 1, 0] i s t ∧
      OnlyChanges [.mode, .hli, .demand, .nlc, .bbu, .psu, .esc, .log, .faults, .notices] s t) ∧
    (s.mode = .ready → s.demand.motion = .moving → Answered tag 0x04 [stMode, 2, 0x08] i s t ∧ OnlyChanges [.hli] s t) ∧
    (s.mode = .shutdown → s.progress ≠ .saving →
      t.mode = .standby ∧ t.progress = .idle ∧ Noted .mode 1 s t ∧ Answered tag 0x04 [stOk, 1, 0] i s t ∧
      OnlyChanges [.mode, .progress, .hli, .notices] s t) ∧
    (s.mode = .shutdown → s.progress = .saving → Answered tag 0x04 [stBusy, 3, 0x0A] i s t ∧ OnlyChanges [.hli] s t) ∧
    (s.mode = .standby → Answered tag 0x04 [stOk, 1, 0] i s t ∧ OnlyChanges [.hli] s t)

/-- MODE SHUTDOWN from STANDBY or READY at standstill: ENGINE_WAIT ends at once with the engine OFF or FAULT, and a running engine
cools down under cause SHUTDOWN; from READY the split unit is reset, F_reg_prev is 0, the open event closes and the schedule is
cleared; the save carries the image of the items with the next generation; refused while MOVING, answered OK in SHUTDOWN (R2, R6,
R7, R83, R120, R151, R184, R185, R215; the generation after 4294967295 is 0: log 44). -/
def Obligations.ModeShutdownWaitsForTheEngine : Prop :=
  ∀ (tag : Byte) (s : State) (i : Fin 4), s.Accepts i → ∃ t, exec (.modeShutdown tag []) s = .next t ∧
    (s.mode = .standby ∨ s.mode = .ready → s.demand.motion = .standstill →
      t.mode = .shutdown ∧ t.hli.access = .drive ∧ Noted .mode 3 s t ∧
      (s.esc.machine = .off ∨ s.esc.machine = .fault → t.progress = .saving ∧
        (s.wear.save = none → s.wear.load ≠ .inFlight →
          t.wear.generation = s.wear.generation + 1 ∧
          t.wear.save = some ⟨⟨false, true, false⟩, imageOf s.wear.items (s.wear.generation + 1)⟩)) ∧
      (s.esc.machine = .run ∨ s.esc.machine = .warmup → 0 < s.par .tCool →
        t.progress = .engineWait ∧ t.esc.machine = .cooldown ∧ t.esc.stopCause = some .shutdown ∧ t.wear = s.wear) ∧
      (s.mode = .ready → t.psu = .initial ∧ t.bbu.prev = 0 ∧ t.log.current = none ∧ t.esc.schedule = none) ∧
      Offered s .inv .torque [0, 0] .mode t ∧ Offered s .bkf .pressure [0, 0, 0] .mode t ∧
      Offered s .bkr .pressure [0, 0, 0] .mode t ∧ Replied [] tag 0x04 [stOk, 3, 0] i s t ∧
      OnlyChanges [.mode, .progress, .hli, .demand, .nlc, .bbu, .psu, .esc, .log, .wear, .faults, .notices] s t) ∧
    (s.mode = .standby ∨ s.mode = .ready → s.demand.motion = .moving →
      Answered tag 0x04 [stMode, byte s.mode.code, 0x08] i s t ∧ OnlyChanges [.hli] s t) ∧
    (s.mode = .shutdown → Answered tag 0x04 [stOk, 3, 0] i s t ∧ OnlyChanges [.hli] s t)

/-- MODE PARK in STANDBY with the engine OFF enters PARKED: the queue keeps only the entry in flight, which will not return, every
record is ABSENT, the two demand timers stop, KEEP is released, and the clock stays as it is until the reply has been sent; refused
otherwise (R2, R8, R30, R45, R73, R81, R197, R211, R215; the records take their values ahead of the completion of the entry in
flight: log 36; the order in which causes end: log 41; that the deferred replies it releases come in queue order and ahead of its
own: log 51; that it is taken with the load in flight: log 52). -/
def Obligations.ModeParkEntersParked : Prop :=
  ∀ (tag : Byte) (s : State) (i : Fin 4), s.Accepts i → ∃ t, exec (.modePark tag []) s = .next t ∧
    (s.mode = .standby → s.esc.machine = .off →
      t.mode = .parked ∧ t.progress = .idle ∧ t.keep = false ∧ t.nodes = .initial ∧
      t.demand = { s.demand with freshness := none, lowSpeed := none } ∧
      t.bbu = { s.bbu with slipHold := none, lastSlip := none, result := .initial, saturated := false } ∧
      t.nlc.queue = (s.nlc.queue.filter (fun e => e.inFlight)).map
        (fun e => { e with fate := if e.fate = .nodeLost then .nodeLost else .final }) ∧
      (s.nlc.tx = .idle → s.nlc.breakDue = false → s.nlc.queue.all (fun e => !e.inFlight) = true → t.nlc.link = .away) ∧
      t.faults.reserve = false ∧ t.faults.entry .zoneReserve = none ∧ t.hli.access = .drive ∧ Noted .mode 0 s t ∧
      Replied s.abortedReplies tag 0x04 [stOk, 0, 0] i s t ∧
      OnlyChanges [.mode, .progress, .keep, .hli, .demand, .nlc, .nodes, .bbu, .faults, .notices] s t) ∧
    (s.mode = .standby → s.esc.machine ≠ .off → Answered tag 0x04 [stMode, 1, 0x09] i s t ∧ OnlyChanges [.hli] s t) ∧
    (s.mode = .ready ∨ s.mode = .shutdown →
      Answered tag 0x04 [stMode, byte s.mode.code, 0x01] i s t ∧ OnlyChanges [.hli] s t)

/-- MODE HALT: the mode becomes HALTED, the open event closes, waiting entries are aborted, and the HALT frames alone are queued
for the nodes that take them (R2, R7, R10, R74, R111, R215; that the deferred replies it releases come in queue order and ahead of its
own: log 51; that taken in READY it keeps the BBU's values and the schedule: log 60). -/
def Obligations.ModeHaltQueuesTheHaltFrames : Prop :=
  ∀ (tag : Byte) (s : State) (i : Fin 4), s.Accepts i → ∃ t, exec (.modeHalt tag []) s = .next t ∧
    t.mode = .halted ∧ t.progress = .idle ∧ t.log.current = none ∧ t.hli.access = .drive ∧ Noted .mode 4 s t ∧
    Offered s .inv .torque [0, 0] .mode t ∧ Offered s .eng .command [2] .mode t ∧
    Offered s .bkf .pressure [0, 0, 0] .mode t ∧ Offered s .bkr .pressure [0, 0, 0] .mode t ∧
    (∀ e ∈ t.nlc.queue, e.inFlight = false → e.origin = .mode ∧ e.priority = 0 ∧ e.held = false) ∧
    (s.nlc.tx = .idle → s.nlc.breakDue = false → s.nlc.queue = [] →
      (∀ n ∈ [NodeAddr.inv, .eng, .bkf, .bkr], s.takes n = false) → t.nlc.link = .silent) ∧
    Replied s.abortedReplies tag 0x04 [stOk, 4, 0] i s t ∧
    OnlyChanges [.mode, .progress, .hli, .nlc, .log, .notices] s t

/-! ## Reading and the other requests -/

/-- STATUS (in HALTED too, byte for byte), DESCRIBE (in HALTED too), EVENTS, WEAR_READ, CONFIG_GET and FAULTS answer from the state
as it stands and change nothing but the host link (R116, R175, R199, R213, R214, R220). -/
def Obligations.ReadingRequestsChangeNothing : Prop :=
  ∀ (tag : Byte) (s : State) (i : Fin 4), s.Hears i →
    let reads := fun (c : Instr) (kind : Byte) (payload : List Byte) =>
      ∃ t, exec c s = .next t ∧ Answered tag kind payload i s t ∧ OnlyChanges [.hli] s t
    let flags := fun f : ReportFlags => byte (f.alive.toNat * 16 + bit f.ready * 8 + bit f.fault * 4 + bit f.slip * 2)
    let brake := fun b : Option BrkReport => (b.map (fun x =>
      flags x.flags :: (be16 x.pressure ++ be16 (twos16 x.padLeft) ++ be16 (twos16 x.padRight)))).getD []
    let stored := fun n : NodeAddr => match n with
      | .eng => (s.nodes.engReport.map (fun x => [flags x.flags, byte x.engine.code] ++ be16 (x.force / 10) ++
          [byte (x.coolant + 40).toNat, byte (x.rpm / 20)])).getD []
      | .inv => (s.nodes.invReport.map (fun x => flags x.flags :: (be16 (twos16 x.speed) ++ be16 x.tMot ++ be16 x.tGen ++
          [byte (x.temp + 40).toNat]))).getD []
      | .bat => (s.nodes.batReport.map (fun x => flags x.flags :: (be16 x.soc ++ be16 (x.pChg / 500) ++ be16 (x.pDis / 500) ++
          be16 (twos16 (x.power / 500)) ++ [byte (x.temp + 40).toNat]))).getD []
      | .bkf => brake s.nodes.bkfReport
      | .bkr => brake s.nodes.bkrReport
      | .aux1 => []
      | .aux2 => []
    let record := fun n : NodeAddr =>
      [byte (nodeCode n), (s.node n).presence.code,
        byte (bit (!(stored n).isEmpty) + 2 * bit (s.node n).limited + 4 * bit (s.node n).held),
        codeOrNone (s.node n).lastCode] ++ be16 (s.node n).misses ++ be16 (s.node n).rejects ++
      [byte (s.node n).repeats, byte (stored n).length] ++ stored n ++ List.replicate (10 - (stored n).length) 0
    reads (.status tag []) 0x05 ([0, byte s.mode.code, s.progress.code, s.hli.access.code, byte (bit s.svc), byte s.level.code] ++
      be16 s.factor ++ [byte s.esc.machine.code, byte (bit s.demand.zone), s.demand.motion.code, byte (bit s.demand.stale)] ++
      be16 ((s.nodes.batReport.map BatReport.soc).getD 0) ++ be32 s.demand.stops.toNat ++ be32 s.demand.distance.toNat ++
      be32 s.runTime.toNat ++ be16 s.nlc.crcErrors ++ be16 s.nlc.noise ++ be16 s.nlc.busResets ++ [byte s.nlc.failures] ++
      be16 s.hli.framingErrors ++ be16 s.hli.crcErrors ++ [byte s.nlc.queue.length, byte s.nlc.inbox.length] ++
      record .eng ++ record .inv ++ record .bat ++ record .bkf ++ record .bkr ++ record .aux1 ++ record .aux2) ∧
    s.statusReply.length = 179 ∧
    reads (.describeIdentity tag []) 0x11 [0, 2, 0x56, 0x41, 0x42, 0x45, 0x4C, 0x49, 0x4E, 0x02, 0x6C] ∧
    reads (.describeCapacities tag []) 0x11 [0, 7, 6, 32, 10, 16, 10, 4] ∧
    reads (.describeStore tag []) 0x11 ([0] ++ be32 s.wear.generation.toNat ++ [s.wear.load.code, s.wear.lastSave.code]) ∧
    (s.mode.live = true →
      reads (.faultsList tag []) 0x0C ([0, byte s.level.code] ++ be16 s.factor ++ [byte s.faults.active.length] ++
        s.faults.active.flatMap ActiveFault.encode) ∧
      reads (.faultsTable tag []) 0x0C (0 :: allFaultKinds.flatMap (fun k => byte k.code :: s.faults.entryBytes k)) ∧
      reads (.wearRead tag []) 0x08 ([0] ++ allWear.flatMap s.wearBytes ++
        [s.wear.load.code, saveByte s.wear.save, waitingByte s.wear.waiting] ++ be32 s.wear.generation.toNat ++
        [s.wear.lastSave.code]) ∧
      (∀ p, reads (.configGet tag [byte (paramRow p).id]) 0x0B
        ([0, byte (paramRow p).id] ++ be32 (s.par p) ++ be32 (paramRow p).lo ++ be32 (paramRow p).hi ++
          be32 (paramRow p).dflt ++ [byte (bit (paramRow p).service + 2 * bit (paramRow p).live)])) ∧
      (∀ id : Byte, paramOfId id.toNat = none → reads (.configGet tag [id]) 0x0B [stValue, id]) ∧
      (∀ start : BitVec 32, let found := s.log.select start
        reads (.events tag (be32 start.toNat)) 0x07
          ([okOrClamped found.2, byte found.1.length] ++ be32 s.log.oldest.toNat ++ be32 s.log.next.toNat ++
            be32 s.log.overwritten.toNat ++ [byte (bit s.log.current.isSome)] ++ found.1.flatMap EventRecord.encode)))

/-- R203: NOTICES returns the pending slots, leaves every slot not pending with count and detail 0, and releases nATTN; HALTED
refuses it with MODE. -/
def Obligations.NoticesFetchClearsTheSlots : Prop :=
  ∀ (tag : Byte) (s : State) (i : Fin 4), s.Hears i → ∃ t, exec (.notices tag []) s = .next t ∧
    (s.mode.live = true → Answered tag 0x06 ([stOk] ++ be16 (s.par .attention % 1024) ++ [byte (pendingKinds s.notices)] ++
        noticeBytes s.notices) i s t ∧
      (∀ k, t.noticeOf k = ⟨false, 0, 0⟩) ∧ t.nattnLow = false ∧ OnlyChanges [.hli, .notices] s t) ∧
    (s.mode = .halted → Answered tag 0x06 [stMode] i s t ∧ OnlyChanges [.hli] s t)

/-- WEAR_RESET: checked by mode, level, item, load and expected value in this order; an item code above 5 is answered VALUE; a stale
expected value changes nothing; an accepted one replaces value, remainder and state, counts the reset and triggers a save (R176,
R177, R178, R184, R185; the generation after 4294967295 is 0: log 44). -/
def Obligations.WearResetComparesBeforeItReplaces : Prop :=
  ∀ (tag : Byte) (expected new : BitVec 32) (s : State) (i : Fin 4), s.Accepts i →
    (∀ item : Byte, 5 < item.toNat →
      ∃ t, exec (.wearReset tag (item :: be32 expected.toNat ++ be32 new.toNat)) s = .next t ∧ OnlyChanges [.hli] s t ∧
        Answered tag 0x09 [if s.mode ≠ .standby then stMode else if s.hli.access = .drive then stLevel else stValue, item]
          i s t) ∧
    ∀ k : WearKind, let item := byte k.code
      let w := s.wearItem k
      ∃ t, exec (.wearReset tag (item :: be32 expected.toNat ++ be32 new.toNat)) s = .next t ∧
      (s.mode ≠ .standby → Answered tag 0x09 [stMode, item] i s t ∧ OnlyChanges [.hli] s t) ∧
      (s.mode = .standby → s.hli.access = .drive → Answered tag 0x09 [stLevel, item] i s t ∧ OnlyChanges [.hli] s t) ∧
      (s.mode = .standby → s.hli.access = .service → s.wear.load = .inFlight →
        Answered tag 0x09 [stBusy, item] i s t ∧ OnlyChanges [.hli] s t) ∧
      (s.mode = .standby → s.hli.access = .service → s.wear.load ≠ .inFlight → w.value ≠ expected.toNat →
        Answered tag 0x09 ([stMismatch, item] ++ be32 w.value ++ [w.state.code] ++ be16 w.resets) i s t ∧
        OnlyChanges [.hli] s t) ∧
      (s.mode = .standby → s.hli.access = .service → s.wear.load ≠ .inFlight → w.value = expected.toNat →
        t.wearItem k = ⟨new.toNat, 0, s.wearStateFor k new.toNat, min 65535 (w.resets + 1)⟩ ∧
        (∀ j, j ≠ k → t.wearItem j = s.wearItem j) ∧
        (s.wear.save = none → t.wear.generation = s.wear.generation + 1 ∧
          t.wear.save = some ⟨⟨true, false, false⟩, imageOf t.wear.items (s.wear.generation + 1)⟩) ∧
        (s.wear.save ≠ none → t.wear.save = s.wear.save ∧ (t.wear.waiting.map Triggers.reset) = some true) ∧
        Answered tag 0x09 ([stOk, item] ++ be32 new.toNat ++ [(t.wearItem k).state.code] ++ be16 (t.wearItem k).resets) i s t ∧
        OnlyChanges [.hli, .wear, .faults, .notices] s t)

/-- CONFIG_SET: refused by id, mode and level in this order; otherwise the parameter, and no other, takes the value held to its
range and to its pair, and the reply gives that value. A wear threshold has every known wear state found again; t_stale and t_lost
set the running timers of their records to end the new length after their start, and records whose end has passed become STALE or
LOST at once; t_slip does the same with the slip-hold timer, which stops where its end has passed; soc_reserve has the reserve
watch examine the SOC in a zone. Any other parameter changes nothing else at once (R51, R52, R54, R55, R59, R73, R85, R166, R167,
R168, R197, R217, R218, R219; that a cleared bit of P40 gives CLAMPED is the model's reading, log 25; an end that falls on the
present millisecond: log 23; the order in which records become LOST: log 40; the deferred replies that a LOST node releases come
ahead of the reply: log 51). -/
def Obligations.ConfigSetTakesTheClampedValue : Prop :=
  ∀ (tag id : Byte) (v : BitVec 32) (s : State) (i : Fin 4), s.Accepts i → ParamLaw s →
    ∃ t, exec (.configSet tag (id :: be32 v.toNat)) s = .next t ∧
      (paramOfId id.toNat = none → Answered tag 0x0A [stValue, id, 0, 0, 0, 0] i s t ∧ OnlyChanges [.hli] s t) ∧
      (∀ p, paramOfId id.toNat = some p →
        (s.mode ≠ .standby → (paramRow p).live = false →
          Answered tag 0x0A ([stMode, id] ++ be32 (s.par p)) i s t ∧ OnlyChanges [.hli] s t) ∧
        (s.mode = .standby → (paramRow p).service = true → s.hli.access = .drive →
          Answered tag 0x0A ([stLevel, id] ++ be32 (s.par p)) i s t ∧ OnlyChanges [.hli] s t) ∧
        (s.mode = .standby ∨ (paramRow p).live = true → (paramRow p).service = false ∨ s.hli.access = .service →
          (∀ q, t.par q = if q = p then configValue s.params p v.toNat else s.par q) ∧
          (paramRow p).lo ≤ t.par p ∧ t.par p ≤ (paramRow p).hi ∧
          ((∀ q ∈ [Param.mMin, .mMax, .vLo, .vHi, .socStart, .socStop, .attention], p ≠ q) →
            t.par p = max (paramRow p).lo (min (paramRow p).hi v.toNat)) ∧
          (∃ due, (p ≠ .tLost → due = []) ∧
            Replied due tag 0x0A ([okOrClamped (t.par p != v.toNat), id] ++ be32 (t.par p)) i s t) ∧
          (p ∈ [Param.padWarn, .padLimit, .batteryWarn, .batteryLimit, .startsWarn, .startsLimit] →
            (∀ k, t.wearItem k = { s.wearItem k with
              state := if (s.wearItem k).state = .unknown then .unknown else t.wearStateFor k (s.wearItem k).value }) ∧
            ((∀ k, (t.wearItem k).state = (s.wearItem k).state) → t.notices = s.notices) ∧
            (∀ k, (t.wearItem k).state ≠ (s.wearItem k).state →
              (∀ j, j ≠ k → (t.wearItem j).state = (s.wearItem j).state) → Noted .wear k.code s t) ∧
            OnlyChanges [.params, .hli, .wear, .notices] s t) ∧
          (p = .tStale → ∀ n,
            ((s.node n).presence ≠ .present → t.node n = s.node n) ∧
            (∀ since, (s.node n).presence = .present → (s.node n).freshTime = some since →
              (elapsed s.runTime since < t.par p →
                t.node n = { s.node n with staleTimer := some (t.par p - elapsed s.runTime since) }) ∧
              (t.par p ≤ elapsed s.runTime since →
                t.node n = { s.node n with presence := .stale, staleTime := some s.runTime, staleTimer := none,
                                           lostTimer := some (s.par .tLost) } ∧
                (n = .bat → t.Raised .batStale)))) ∧
          (p = .tLost → ∀ n,
            ((s.node n).presence ≠ .stale → t.node n = s.node n) ∧
            (∀ since, (s.node n).presence = .stale → (s.node n).staleTime = some since →
              (elapsed s.runTime since < t.par p →
                t.node n = { s.node n with lostTimer := some (t.par p - elapsed s.runTime since) }) ∧
              (t.par p ≤ elapsed s.runTime since →
                t.node n = { s.node n with presence := .lost, staleTimer := none, lostTimer := none, held := false } ∧
                (∀ e ∈ t.nlc.queue, e.target = n → e.inFlight = true) ∧ (∀ k, lossFault n = some k → t.Raised k)))) ∧
          (p = .tSlip → OnlyChanges [.params, .hli, .bbu] s t ∧ (s.bbu.slipHold = none → t.bbu = s.bbu) ∧
            (∀ since, s.bbu.slipHold ≠ none → s.bbu.lastSlip = some since →
              let gone := elapsed s.runTime since
              t.bbu = { s.bbu with slipHold := if t.par p ≤ gone then none else some (t.par p - gone) })) ∧
          (p = .socReserve → ReserveExamined s t ∧ OnlyChanges (.params :: .hli :: raiseBlocks) s t ∧
            (¬s.RaiseStops .zoneReserve ∨ t.faults.reserve = s.faults.reserve →
              OnlyChanges [.params, .hli, .faults, .notices] s t) ∧
            (t.faults.reserve = s.faults.reserve → OnlyChanges [.params, .hli] s t)) ∧
          (p ∉ [Param.padWarn, .padLimit, .batteryWarn, .batteryLimit, .startsWarn, .startsLimit, .tStale, .tLost, .tSlip,
              .socReserve] → OnlyChanges [.params, .hli] s t)))

/-- FAULT_CLEAR removes a LATCHED entry whose cause has ended, with notice FAULT_CLEARED; any other entry is refused ACTIVE, a kind
not in the list answered OK, a code outside 1 to 16 VALUE (R198). -/
def Obligations.FaultClearRemovesEndedLatchedEntries : Prop :=
  ∀ (tag code : Byte) (s : State) (i : Fin 4), s.Accepts i → ∃ t, exec (.faultClear tag [code]) s = .next t ∧
    let reply := fun status : Byte =>
      Answered tag 0x0D ([status, code, byte t.faults.active.length, byte t.level.code] ++ be16 t.factor) i s t
    (code.toNat = 0 ∨ 16 < code.toNat → reply stValue ∧ OnlyChanges [.hli] s t) ∧
    (∀ k, k.code = code.toNat →
      (s.faults.entry k = none → reply stOk ∧ OnlyChanges [.hli] s t) ∧
      (∀ e, s.faults.entry k = some e → k.latched = true → e.causePresent = false →
        reply stOk ∧ t.faults = { s.faults with active := s.faults.active.filter (fun x => x.kind != k) } ∧
        Noted .faultCleared k.code s t ∧
        (t.level = s.level → t.factor = s.factor → t.noticeOf .restriction = s.noticeOf .restriction) ∧
        (t.level ≠ s.level ∨ t.factor ≠ s.factor → Noted .restriction t.level.code s t) ∧
        OnlyChanges [.hli, .faults, .notices] s t) ∧
      (∀ e, s.faults.entry k = some e → k.latched = false ∨ e.causePresent = true →
        reply stActive ∧ OnlyChanges [.hli] s t))

/-- RESPONSE_SET: examined by mode, level, kind, level code and the active list in this order; an accepted one raises the level to
the kind's minimum and holds the factor to 64..255, and leaves the restriction as it is (R190; the entry a refusal carries is the model's choice,
log 33). -/
def Obligations.ResponseSetHoldsTheMinimum : Prop :=
  ∀ (tag code level factor : Byte) (s : State) (i : Fin 4), s.Accepts i →
    ∃ t, exec (.responseSet tag [code, level, factor]) s = .next t ∧
      let refused := fun status : Byte => Answered tag 0x0E (s.responseReply status code) i s t ∧ OnlyChanges [.hli] s t
      (s.mode ≠ .standby → refused stMode) ∧ (s.mode = .standby → s.hli.access = .drive → refused stLevel) ∧
      (s.mode = .standby → s.hli.access = .service →
        (code.toNat = 0 ∨ 16 < code.toNat ∨ level.toNat = 0 ∨ 4 < level.toNat → refused stValue) ∧
        (∀ k l, k.code = code.toNat → levelOfCode level.toNat = some l →
          (s.faults.entry k ≠ none → refused stActive) ∧
          (s.faults.entry k = none →
            (∀ j, t.faults.response j = if j = k then ⟨if l.code < k.minLevel.code then k.minLevel else l, max 64 factor.toNat⟩
              else s.faults.response j) ∧
            t.faults.active = s.faults.active ∧ t.faults.reserve = s.faults.reserve ∧
            Answered tag 0x0E (t.responseReply
              (okOrClamped (decide (l.code < k.minLevel.code) || decide (factor.toNat < 64))) code) i s t ∧
            OnlyChanges [.hli, .faults] s t)))

/-- ACCESS DRIVE always takes the level to DRIVE; ACCESS SERVICE at SERVICE level is answered OK and changes nothing; at DRIVE it is
examined by mode, motion and SVC in this order, and a refusal leaves the level as it stands (R216). -/
def Obligations.AccessRequestsSetTheLevel : Prop :=
  ∀ (tag : Byte) (s : State) (i : Fin 4), s.Accepts i →
    (∃ t, exec (.accessDrive tag []) s = .next t ∧ Replied [] tag 0x0F [stOk, 0] i s t ∧ t.hli.access = .drive ∧
      OnlyChanges [.hli] s t) ∧
    (∃ t, exec (.accessService tag []) s = .next t ∧ OnlyChanges [.hli] s t ∧
      (s.hli.access = .service → Answered tag 0x0F [stOk, 1] i s t) ∧
      (s.hli.access = .drive → s.mode = .standby → s.demand.motion = .standstill → s.svc = true →
        Replied [] tag 0x0F [stOk, 1] i s t ∧ t.hli.access = .service) ∧
      (s.hli.access = .drive → s.mode ≠ .standby ∨ s.demand.motion = .moving → Answered tag 0x0F [stMode, 0] i s t) ∧
      (s.hli.access = .drive → s.mode = .standby → s.demand.motion = .standstill → s.svc = false →
        Answered tag 0x0F [stLevel, 0] i s t))

/-- TUNNEL SEND, in READY to an AUX node or in STANDBY at SERVICE to any node, with the node not ABSENT or LOST: it takes the
lowest free tunnel slot and joins the queue; a POSTED one is answered at once, a CONFIRMED one keeps its inbox slot with its
reply due. The other forms, CONFIRMED or POSTED, are refused VALUE, MODE, LEVEL, ABSENT or FULL at once and change nothing (R67,
R75, R76, R208, R212; that an undefined reply mode is refused VALUE before the other checks is the model's choice, log 42). -/
def Obligations.TunnelSendTakesATunnelSlot : Prop :=
  ∀ (tag : Byte) (n : NodeAddr) (payload : List Byte) (s : State) (i : Fin 4), s.Accepts i → payload.length ≤ 12 →
    let permitted := (s.mode = .ready ∧ isAux n = true) ∨ (s.mode = .standby ∧ s.hli.access = .service)
    (∀ j, permitted → s.takes n = true → s.freeTunnel = some j →
      (∃ t, exec (.tunnelSend tag (byte (nodeCode n) :: 1 :: payload)) s = .next t ∧
        Answered tag 0x10 [stOk, 0, byte (j.val + 1)] i s t ∧ Queued n (.tunnel j) payload .tunnel t ∧
        OnlyChanges [.hli, .nlc] s t) ∧
      (s.hli.deferredHeld < 2 → ∃ t, exec (.tunnelSend tag (byte (nodeCode n) :: 0 :: payload)) s = .next t ∧
        t.hli = { s.hli with framer := .hunt, slots := s.hli.slots.set i (some ⟨tag, 0x10, true⟩) } ∧
        (∃ e ∈ t.nlc.queue, e.target = n ∧ e.kind = .tunnel j ∧ e.reply = .confirmed tag i) ∧
        OnlyChanges [.hli, .nlc] s t)) ∧
    (∀ mode : Byte, mode = 1 ∨ (mode = 0 ∧ s.hli.deferredHeld < 2) →
      ∃ t, exec (.tunnelSend tag (byte (nodeCode n) :: mode :: payload)) s = .next t ∧
      let refused := fun status : Byte => Answered tag 0x10 [status, 0] i s t ∧ OnlyChanges [.hli] s t
      (s.mode = .shutdown ∨ (s.mode = .ready ∧ isAux n = false) → refused stMode) ∧
      (s.mode = .standby → s.hli.access = .drive → refused stLevel) ∧
      (permitted → s.takes n = false → refused stAbsent) ∧
      (permitted → s.takes n = true → s.freeTunnel = none → refused stFull)) ∧
    (∀ target mode : Byte, target.toNat = 0 ∨ 7 < target.toNat ∨ 1 < mode.toNat → mode ≠ 0 ∨ s.hli.deferredHeld < 2 →
      ∃ t, exec (.tunnelSend tag (target :: mode :: payload)) s = .next t ∧
        Answered tag 0x10 [stValue, 0] i s t ∧ OnlyChanges [.hli] s t)

/-- R78's reply: TUNNEL FETCH removes the oldest frame of the inbox and returns it with the number left; an empty inbox gives an
empty result. -/
def Obligations.TunnelFetchReturnsTheOldestFrame : Prop :=
  ∀ (tag : Byte) (s : State) (i : Fin 4), s.Accepts i → ∃ t, exec (.tunnelFetch tag []) s = .next t ∧
    (s.nlc.inbox = [] → Answered tag 0x10 [stOk, 1, 0, 0, 0] i s t ∧ OnlyChanges [.hli] s t) ∧
    (∀ f rest, s.nlc.inbox = f :: rest →
      Answered tag 0x10 ([stOk, 1, byte (nodeCode f.source), byte rest.length, byte f.payload.length] ++ f.payload) i s t ∧
      t.nlc = { s.nlc with inbox := rest } ∧ OnlyChanges [.hli, .nlc] s t)

/-! ## Timers -/

/-- The freshness timer at its end: in READY the demand becomes stale, DEMAND_STALE is raised, the open event closes, the split
result is 0 with both elapsed values taking t_fresh, ENG FORCE 0 is offered (by the ESC where it takes the engine out of service),
INV TORQUE 0 is offered, a brake request is held by friction alone with its two pressures offered, and the timer restarts; in STANDBY
and SHUTDOWN it only stops. A timer that is stopped, or that a DEMAND has started again, does nothing (R15, R84, R95, R101, R123,
R136, R138; an expiry acts on a timer at its end, log 2). -/
def Obligations.FreshnessExpiryHoldsTheDemand : Prop :=
  ∀ s : State, s.supply = .on →
    (s.demand.freshness ≠ some 0 → exec .freshnessTimerExpiry s = .next s) ∧
    (s.mode.live = true → s.demand.freshness = some 0 → ∃ t, exec .freshnessTimerExpiry s = .next t ∧
      (s.mode = .ready →
        t.demand = { s.demand with stale := true, freshness := some (s.par .tFresh) } ∧
        t.Raised .demandStale ∧ t.log.current = none ∧ HandsOn .initial (s.par .tFresh) s t ∧
        (s.takes .eng = true → Queued .eng .force [0, 0] .split t ∨ Queued .eng .force [0, 0] .engine t) ∧
        (s.esc.machine ≠ .cooldown → t.esc.machine = s.esc.machine → Offered s .eng .force [0, 0] .split t) ∧
        (s.demand.record.brake = 0 → Offered s .inv .torque [0, 0] .split t) ∧
        (0 < s.demand.record.brake → t.bbu.result.trigger = .held ∧ t.bbu.result.fReg = 0 ∧ t.bbu.prev = 0 ∧
          t.bbu.result.fDem = s.demand.record.mass * s.demand.record.brake / 100 ∧
          Offered s .inv .torque [0, 0] .blend t ∧ Offered s .bkf .pressure (1 :: be16 t.bbu.result.pFront) .blend t ∧
          Offered s .bkr .pressure (1 :: be16 t.bbu.result.pRear) .blend t) ∧
        OnlyChanges (.demand :: .psu :: raiseBlocks) s t) ∧
      (s.mode ≠ .ready → t.demand = { s.demand with freshness := none } ∧ OnlyChanges [.demand] s t))

/-- The low-speed timer at its end gives STANDSTILL with the stop-eligible mark and, at SAFE_STOP, stop cause SAFE, which sends a
running engine into COOLDOWN with a t_cool above 0; an open event closes into its record (number, speeds, duration, peak, whole kJ, dominant term,
shortfall, slip), which enters the ring in place of the oldest of 32, with notice EVENT. The slip-hold timer at its end stops. A
timer that is stopped or has been started again does nothing (R16, R85, R111, R112, R113, R114, R115, R150, R151; log 2). -/
def Obligations.LowSpeedAndSlipHoldExpire : Prop :=
  ∀ s : State, s.supply = .on →
    (s.demand.lowSpeed ≠ some 0 → exec .lowSpeedTimerExpiry s = .next s) ∧
    (s.mode.live = true → s.demand.lowSpeed = some 0 → ∃ t, exec .lowSpeedTimerExpiry s = .next t ∧
      t.demand = { s.demand with motion := .standstill, stopEligible := true, lowSpeed := none } ∧
      (s.log.current = none → t.log = s.log) ∧
      (∀ ev, s.log.current = some ev → Noted .event (s.log.next.toNat % 256) s t ∧ ∃ r,
        t.log = (if s.log.ring.length < 32 then ⟨none, s.log.ring ++ [r], s.log.next + 1, s.log.overwritten⟩
          else ⟨none, s.log.ring.tail ++ [r], s.log.next + 1, s.log.overwritten + 1⟩) ∧
        r.seq = s.log.next ∧ r.startSpeed = ev.startSpeed ∧ r.endSpeed = s.demand.record.speed ∧
        r.duration = s.runTime - ev.startTime ∧ r.peak = ev.peak ∧ r.reason = .standstill ∧ r.shortfall = ev.shortfall ∧
        r.slip = ev.slip ∧ r.regKj = min 4294967295 (ev.regJoules.toNat / 1000) ∧
        r.frontKj = min 4294967295 (ev.frontJoules.toNat / 1000) ∧ r.rearKj = min 4294967295 (ev.rearJoules.toNat / 1000) ∧
        ∃ before behind, [LimitTerm.abs, .zero, .restriction, .fade, .battery, .motor, .stability, .ramp, .demand] =
            before ++ r.term :: behind ∧
          (∀ x ∈ before, ev.tally[tallyIndex x] < ev.tally[tallyIndex r.term]) ∧
          (∀ x ∈ behind, ev.tally[tallyIndex x] ≤ ev.tally[tallyIndex r.term])) ∧
      (s.level = .safeStop → s.esc.machine = .run → 0 < s.par .tCool →
        t.esc.machine = .cooldown ∧ t.esc.stopCause = some .safe) ∧
      (s.level ≠ .safeStop → OnlyChanges [.demand, .log, .notices] s t) ∧
      OnlyChanges (.demand :: .log :: engineBlocks) s t) ∧
    (s.bbu.slipHold ≠ some 0 → exec .slipHoldTimerExpiry s = .next s) ∧
    (s.mode.live = true → s.bbu.slipHold = some 0 → ∃ t, exec .slipHoldTimerExpiry s = .next t ∧
      t.bbu = { s.bbu with slipHold := none } ∧ OnlyChanges [.bbu] s t)

/-- A stale timer at its end makes the record STALE and starts its lost timer; a lost timer at its end makes it LOST, ends its hold
and takes its waiting entries from the queue; each raises its fault unless the part is HALTED. A timer that is stopped, or that a
report has started again, does nothing (R51, R52, R55, R59, R73; an expiry acts on a timer at its end, log 2). -/
def Obligations.PresenceTimersMakeStaleAndLost : Prop :=
  ∀ (n : NodeAddr) (s : State), s.supply = .on →
    ((s.node n).staleTimer ≠ some 0 → exec (.staleTimerExpiry n) s = .next s) ∧
    (s.mode ≠ .parked → (s.node n).staleTimer = some 0 → ∃ t, exec (.staleTimerExpiry n) s = .next t ∧
      (t.node n).presence = .stale ∧ (t.node n).staleTime = some s.runTime ∧
      (t.node n).staleTimer = none ∧ (t.node n).lostTimer = some (s.par .tLost) ∧ (∀ m, m ≠ n → t.node m = s.node m) ∧
      (n = .bat → s.mode ≠ .halted → t.Raised .batStale) ∧
      (n ≠ .bat → OnlyChanges [.nodes] s t)) ∧
    ((s.node n).lostTimer ≠ some 0 → exec (.lostTimerExpiry n) s = .next s) ∧
    (s.mode ≠ .parked → (s.node n).lostTimer = some 0 → ∃ t, exec (.lostTimerExpiry n) s = .next t ∧
      (t.node n).presence = .lost ∧ (t.node n).staleTimer = none ∧ (t.node n).lostTimer = none ∧ (t.node n).held = false ∧
      t.takes n = false ∧ (∀ e ∈ t.nlc.queue, e.target = n → e.inFlight = true) ∧
      (∀ k, lossFault n = some k → s.mode ≠ .halted → t.Raised k) ∧
      (n = .eng → s.mode ≠ .halted → s.esc.machine ≠ .off → t.esc.machine = .fault))

/-- The crank timer at its end fails the attempt: RETRY_WAIT below the third, FAULT with CRANK_FAIL at the third; the rest timer at
its end starts the next attempt, with its start counted. A timer that is stopped or has been started again does nothing. In
CRANKING and RETRY_WAIT a fresh ENG report of RUNNING is a start, and in CRANKING one of FAULT fails the attempt (R140, R145,
R146, R147, R159, R173; log 2; with no coolant stored the increment is 1, log 27). -/
def Obligations.CrankAttemptsEndInRetryOrFault : Prop :=
  ∀ s : State, s.supply = .on →
    (s.esc.crankTimer ≠ some 0 → exec .crankTimerExpiry s = .next s) ∧
    (s.mode.live = true → s.esc.machine = .cranking → s.esc.crankTimer = some 0 → ∃ t, exec .crankTimerExpiry s = .next t ∧
      t.esc.crankTimer = none ∧ t.esc.attempts = s.esc.attempts ∧
      (s.esc.attempts < 3 → t.esc.machine = .retryWait ∧ t.esc.restTimer = some (s.par .tRest) ∧
        t.esc.crankCause = s.esc.crankCause ∧ Noted .engine 2 s t ∧ OnlyChanges [.esc, .notices] s t) ∧
      (3 ≤ s.esc.attempts → t.esc.machine = .fault ∧ t.esc.crankCause = none ∧ t.Raised .crankFail)) ∧
    (s.esc.restTimer ≠ some 0 → exec .restTimerExpiry s = .next s) ∧
    (s.mode.live = true → s.esc.machine = .retryWait → s.esc.restTimer = some 0 → ∃ t, exec .restTimerExpiry s = .next t ∧
      t.esc = { s.esc with machine := .cranking, attempts := s.esc.attempts + 1, crankTimer := some (s.par .tCrank),
                           restTimer := none } ∧
      Offered s .eng .command [1] .engine t ∧
      (s.takes .eng = true → (t.wearItem .starts).value =
        min 4294967295 ((s.wearItem .starts).value + startsIncrement s.nodes.coolantSeen)) ∧
      OnlyChanges [.nlc, .esc, .wear, .notices] s t) ∧
    (∀ (retry : Bool) (payload : List Byte) (w : Wave), s.HearsFresh .eng payload w → s.mode ≠ .halted →
      s.nodes.faultFlag .eng = true ∨ (byteAt payload 0).getLsbD 2 = false →
      let r := engReportOf payload
      ∃ t, exec (.reportReceived .eng retry payload w) s = .next t ∧
        (s.esc.machine = .cranking ∨ s.esc.machine = .retryWait → r.engine = .running →
          t.esc = { s.esc with window := false, crankTimer := none, restTimer := none, crankCause := none,
                               machine := if r.coolant < (s.par .tWarm : Int) then .warmup else .run }) ∧
        (s.esc.machine = .cranking → r.engine = .fault → s.esc.attempts < 3 →
          t.esc = { s.esc with window := false, crankTimer := none, restTimer := some (s.par .tRest),
                               machine := .retryWait }) ∧
        (s.esc.machine = .cranking → r.engine = .fault → 3 ≤ s.esc.attempts →
          t.esc = { s.esc with window := false, crankTimer := none, crankCause := none, machine := .fault } ∧
          t.Raised .crankFail) ∧
        (s.esc.machine = .cranking → r.engine ≠ .running → r.engine ≠ .fault → t.esc = { s.esc with window := false }) ∧
        (s.esc.machine = .retryWait → r.engine ≠ .running → t.esc = { s.esc with window := false }))

/-- The cooldown timer at its end enters STOPPING with STOP offered; the stop timer's first end offers STOP again, its second ends
in FAULT with STOP_FAIL; a timer that is stopped or has been started again does nothing. A fresh ENG report: OFF adopts a first
RUNNING, WARMUP goes on to RUN warm, WARMUP, RUN and COOLDOWN end in OFF or FAULT as it gives, and STOPPING ends in OFF, from where
a latched start cranks again; a SHUTDOWN in ENGINE_WAIT goes on to SAVING as the engine enters OFF or FAULT (R6, R140, R141, R142,
R149, R152, R153; logs 2 and 20; the attempt count that an adoption leaves: log 61). -/
def Obligations.StopsEndInOffOrFault : Prop :=
  ∀ s : State, s.supply = .on →
    (s.esc.cooldownTimer ≠ some 0 → exec .cooldownTimerExpiry s = .next s) ∧
    (s.mode.live = true → s.esc.machine = .cooldown → s.esc.cooldownTimer = some 0 →
      ∃ t, exec .cooldownTimerExpiry s = .next t ∧
      t.esc = { s.esc with machine := .stopping, stopTimer := some (s.par .tStop), stopExpiries := 0, cooldownTimer := none,
                           crankTimer := none, restTimer := none } ∧
      Offered s .eng .command [2] .engine t ∧ Noted .engine 6 s t ∧ OnlyChanges [.nlc, .esc, .notices] s t) ∧
    (s.esc.stopTimer ≠ some 0 → exec .stopTimerExpiry s = .next s) ∧
    (s.mode.live = true → s.esc.machine = .stopping → s.esc.stopTimer = some 0 → ∃ t, exec .stopTimerExpiry s = .next t ∧
      (s.esc.stopExpiries = 0 → t.esc = { s.esc with stopExpiries := 1, stopTimer := some (s.par .tStop) } ∧
        Offered s .eng .command [2] .engine t ∧ OnlyChanges [.nlc, .esc] s t) ∧
      (s.esc.stopExpiries ≠ 0 → t.esc.machine = .fault ∧ t.esc.stopTimer = none ∧ t.esc.latch = none ∧
        t.esc.stopCause = none ∧ t.Raised .stopFail ∧ (s.mode = .shutdown → s.progress = .engineWait → t.progress = .saving))) ∧
    (∀ (retry : Bool) (payload : List Byte) (w : Wave), s.HearsFresh .eng payload w → s.mode ≠ .halted →
      s.nodes.faultFlag .eng = true ∨ (byteAt payload 0).getLsbD 2 = false →
      let r := engReportOf payload
      let here := s.esc.machine
      ∃ t, exec (.reportReceived .eng retry payload w) s = .next t ∧
        (here = .off → t.esc = { s.esc with window := false, machine :=
          if s.esc.window = true ∧ r.engine = .running ∧ (s.mode = .standby ∨ s.mode = .ready) then
            (if r.coolant < (s.par .tWarm : Int) then .warmup else .run) else .off }) ∧
        (here = .warmup → r.engine = .running → t.esc = { s.esc with window := false, machine :=
          if (s.par .tWarm : Int) ≤ r.coolant then .run else .warmup }) ∧
        (here = .warmup ∨ here = .run ∨ here = .cooldown → r.engine = .off →
          t.esc = { s.esc with window := false, machine := .off, offDwell := 0, cooldownTimer := none, stopCause := none,
                               latch := none }) ∧
        (here = .warmup ∨ here = .run ∨ here = .cooldown ∨ here = .stopping → r.engine = .fault →
          t.esc = { s.esc with window := false, machine := .fault, cooldownTimer := none, stopTimer := none,
                               stopCause := none, latch := none }) ∧
        (here = .warmup ∨ here = .run → r.engine = .off ∨ r.engine = .fault → Queued .eng .force [0, 0] .engine t) ∧
        ((here = .run ∧ r.engine = .running) ∨ (here = .cooldown ∧ r.engine = .running) ∨
            (here = .stopping ∧ r.engine = .running) ∨ (here ∈ [EngineState.warmup, .run, .cooldown, .stopping] ∧
              (r.engine = .cranking ∨ r.engine = .stopping)) ∨ here = .fault →
          t.esc = { s.esc with window := false }) ∧
        (here = .stopping → r.engine = .off → s.mode ≠ .ready ∨ (s.demand.zone = true ∧ s.esc.latch ≠ some true) →
          t.esc = { s.esc with window := false, machine := .off, offDwell := 0, stopTimer := none, stopCause := none,
                               latch := none }) ∧
        (∀ override, here = .stopping → r.engine = .off → s.esc.latch = some override → s.mode = .ready → s.level ≠ .safeStop →
          (s.demand.zone = false ∨ override = true) → r.flags.ready = true →
          t.esc.machine = .cranking ∧ t.esc.attempts = 1 ∧ t.esc.latch = none ∧ t.esc.stopTimer = none ∧
          t.esc.crankCause = some (if override then .hostOverride else .host) ∧ Queued .eng .command [1] .engine t) ∧
        (s.mode = .shutdown → s.progress = .engineWait → here ∈ [EngineState.warmup, .run, .cooldown, .stopping] →
          r.engine = .off ∨ r.engine = .fault → t.progress = .saving))

/-- The quiet timer at its end ends the cause of LINK_ERRORS, a SELF kind; a READY-time counter at 60 min gives trigger PERIODIC
and returns to 0. A timer that is stopped or has been started again, and a counter below 60 min, do nothing, and neither does the
command of a counter at 60 min that is taken outside READY (R35, R183, R184, R185, R193; logs 2 and 55; the generation after
4294967295 is 0: log 44). -/
def Obligations.QuietAndPeriodicTimersExpire : Prop :=
  ∀ s : State, s.supply = .on →
    (s.nlc.quiet ≠ some 0 → exec .quietTimerExpiry s = .next s) ∧
    (s.nlc.link ≠ .silent → s.nlc.quiet = some 0 → ∃ t, exec .quietTimerExpiry s = .next t ∧
      t.nlc = { s.nlc with quiet := none } ∧ (s.mode ≠ .halted → t.faults.entry .linkErrors = none) ∧
      (s.mode = .halted → t.faults = s.faults) ∧ OnlyChanges [.nlc, .faults, .notices] s t) ∧
    (s.mode ≠ .ready ∨ s.wear.readyMs < 3600000 → exec .periodicSaveTrigger s = .next s) ∧
    (s.mode = .ready → 3600000 ≤ s.wear.readyMs → ∃ t, exec .periodicSaveTrigger s = .next t ∧ t.wear.readyMs = 0 ∧
      t.wear.items = s.wear.items ∧
      (s.wear.save = none → s.wear.load ≠ .inFlight → t.wear.generation = s.wear.generation + 1 ∧
        t.wear.save = some ⟨⟨false, false, true⟩, imageOf s.wear.items (s.wear.generation + 1)⟩) ∧
      (s.wear.save ≠ none ∨ s.wear.load = .inFlight → t.wear.save = s.wear.save ∧
        t.wear.waiting.map Triggers.periodic = some true) ∧
      OnlyChanges [.wear] s t)

/-! ## The wear store -/

/-- The load completes: a good image is added to what has been counted and finds every state; a bad one, or none, leaves the items
and raises STORE_BAD; a save that waited for the load begins (R181, R182, R185; in PARKED too, a case that the spec says does not arise,
log 52). -/
def Obligations.StoreLoadAdoptsAGoodImage : Prop :=
  ∀ s : State, s.supply = .on →
    (s.wear.load = .inFlight → ∃ t, exec .storeLoadComplete s = .next t ∧
      (s.wear.waiting = none → t.wear.save = s.wear.save) ∧
      (∀ tr, s.wear.waiting = some tr → t.wear.waiting = none ∧ t.wear.save.map SaveJob.triggers = some tr) ∧
      (∀ bs, s.wear.store = .image bs → goodImage bs = true → t.wear.load = .good ∧ OnlyChanges [.wear] s t ∧
        (s.wear.waiting = none → t.wear.generation = BitVec.ofNat 32 (unsigned (field bs 36 4))) ∧
        ∀ k, (t.wearItem k).value = min 4294967295 (unsigned (field bs (4 * k.code) 4) + (s.wearItem k).value) ∧
          (t.wearItem k).remainder = (s.wearItem k).remainder ∧
          (t.wearItem k).resets = unsigned (field bs (24 + 2 * k.code) 2) ∧
          (t.wearItem k).state = s.wearStateFor k (t.wearItem k).value) ∧
      (s.wear.store.goodBytes = none → t.wear.load = .bad ∧ (s.mode ≠ .halted → t.Raised .storeBad) ∧
        (s.level = .safeStop ∨ t.level ≠ .safeStop → ∀ k, t.wearItem k = s.wearItem k))) ∧
    (s.wear.load ≠ .inFlight → exec .storeLoadComplete s = .next s)

/-- A save completes: PASS when the store reads back the image, FAIL otherwise, with notice STORE; a pending save begins; a save
that carries SHUTDOWN parks a part in SHUTDOWN, with the clock slow at once when no reply is due (R6, R8, R45, R184, R185, R211;
the read-back is an operand, log 8; the records take their values ahead of the completion of an entry in flight: log 36; the
generation after 4294967295 is 0: log 44). -/
def Obligations.SaveCompletionParksAShutdown : Prop :=
  ∀ (readBack : Option (List Byte)) (job : SaveJob) (s : State), s.supply = .on →
    (s.wear.save = some job → ∃ t, exec (.saveComplete readBack) s = .next t ∧
      (let ok := readBack = none ∨ readBack = some job.image
       (ok → t.wear.lastSave = .pass ∧ t.wear.store = .image job.image ∧ Noted .store 0 s t) ∧
       (¬ok → t.wear.lastSave = .fail ∧ t.wear.store = .image (readBack.getD []) ∧ Noted .store 1 s t)) ∧
      t.wear.items = s.wear.items ∧
      (s.wear.waiting = none → t.wear.save = none ∧ t.wear.generation = s.wear.generation) ∧
      (∀ tr, s.wear.waiting = some tr → t.wear.waiting = none ∧ t.wear.generation = s.wear.generation + 1 ∧
        t.wear.save = some ⟨tr, imageOf s.wear.items (s.wear.generation + 1)⟩) ∧
      (job.triggers.shutdown = true → s.mode = .shutdown → s.progress = .saving →
        t.mode = .parked ∧ t.keep = false ∧ t.nodes = .initial ∧ Noted .mode 0 s t ∧
        (s.waking = false → s.hli.line = [] → s.hli.slots = #v[none, none, none, none] → s.abortedReplies = [] →
          t.slowClock = true)) ∧
      (job.triggers.shutdown = false ∨ s.mode ≠ .shutdown → OnlyChanges [.wear, .notices] s t)) ∧
    (s.wear.save = none → exec (.saveComplete readBack) s = .next s)

/-! ## The driveline node link -/

/-- A report of its role's length is acknowledged ACCEPTED and classified: a fresh one makes the record PRESENT and is stored
whole, a fifth repeat makes it STALE, a retransmission changes nothing but the link. Of a fresh one, a FAULT flag newly set raises
the reported fault and a clear one ends its cause, SLIP starts the slip-hold and cuts the recovery of a blend in READY, and a BAT
report wears the battery by its power, its SOC and temperature and the time since the last fresh one; each BAT report that is
stored in a zone is examined by the reserve watch (R37, R47, R48, R49, R50, R53, R57, R85, R86, R171, R197; the acknowledgement and
the noise count in a PARKED part that has not yet left the link: log 15; an SOF and the first symbol are two pulses: log 22; the
bus after a failed echo check, a noise pulse in one, and the moments at which it reads: logs 46, 47 and 56). -/
def Obligations.ReportsAreClassifiedAndStored : Prop :=
  ∀ (n : NodeAddr) (retry : Bool) (payload : List Byte) (w rest : Wave) (eod : Nat) (s : State), s.Follows →
    Carries w (some n) .report retry payload eod rest → reportLength n = some payload.length →
    ∃ t, exec (.reportReceived n retry payload w) s = .next t ∧
      Acknowledged 0x00 eod w rest t.nlc ∧ t.nlc.noise = min 65535 (s.nlc.noise + noiseCount w) ∧
      (s.mode ≠ .parked → (s.node n).lastAlive ≠ some (aliveOf payload) →
        (t.node n).presence = .present ∧ (t.node n).freshTime = some s.runTime ∧ (t.node n).repeats = 0 ∧
        (t.node n).lastAlive = some (aliveOf payload) ∧ (t.node n).staleTimer = some (s.par .tStale) ∧
        (t.node n).lostTimer = none ∧
        (n = .eng → t.nodes.engReport = some (engReportOf payload)) ∧ (n = .inv → t.nodes.invReport = some (invReportOf payload)) ∧
        (n = .bat → t.nodes.batReport = some (batReportOf payload)) ∧ (n = .bkf → t.nodes.bkfReport = some (brkReportOf payload)) ∧
        (n = .bkr → t.nodes.bkrReport = some (brkReportOf payload)) ∧ (∀ m, m ≠ n → t.node m = s.node m) ∧
        (∀ k, reportedFault n = some k → s.mode ≠ .halted →
          ((byteAt payload 0).getLsbD 2 = true → s.nodes.faultFlag n = false →
            ∃ e ∈ t.faults.active, e.kind = k ∧ e.causePresent = true ∧ e.detail = nodeCode n) ∧
          ((byteAt payload 0).getLsbD 2 = false → (n = .bkf → s.nodes.faultFlag .bkr = false) →
            (n = .bkr → s.nodes.faultFlag .bkf = false) →
            ∀ e ∈ t.faults.active, e.kind = k → k.latched = true ∧ e.causePresent = false)) ∧
        (n = .bkf ∨ n = .bkr → (byteAt payload 0).getLsbD 1 = true → s.mode ≠ .halted →
          t.bbu.slipHold = some (s.par .tSlip) ∧ t.bbu.lastSlip = some s.runTime ∧
          (s.mode = .ready → 0 < s.bbu.prev → t.bbu.prev = 0 ∧ t.bbu.result.trigger = .cut ∧ t.bbu.result.fReg = 0 ∧
            t.bbu.result.fDem = s.demand.record.mass * s.demand.record.brake / 100)) ∧
        (n = .bat →
          let r := batReportOf payload
          let since := ((s.node .bat).freshTime.map (elapsed s.runTime)).getD 0
          let weight := (if r.soc < 250 ∨ 850 < r.soc then 2 else 1) * (if 45 ≤ r.temp then 2 else 1)
          let sum := (s.wearItem .battery).remainder + r.power.natAbs * min since (s.par .tStale) * weight
          (t.wearItem .battery).value = min 4294967295 ((s.wearItem .battery).value + sum / 100000000) ∧
          (t.wearItem .battery).remainder = sum % 100000000 ∧ (s.mode ≠ .halted → ReserveExamined s t))) ∧
      (s.mode ≠ .parked → (s.node n).lastAlive = some (aliveOf payload) → retry = false →
        (t.node n).repeats = min 255 ((s.node n).repeats + 1) ∧ (t.node n).freshTime = (s.node n).freshTime ∧
        ((s.node n).presence = .present → 4 ≤ (s.node n).repeats → (t.node n).presence = .stale ∧
          (t.node n).staleTimer = none ∧ (t.node n).lostTimer = some (s.par .tLost)) ∧
        ((s.node n).presence = .present → (s.node n).repeats < 4 → (t.node n).presence = .present ∧
          (t.node n).staleTimer = (s.node n).staleTimer) ∧
        (n = .bat → (s.node n).presence = .present → s.mode ≠ .halted → ReserveExamined s t) ∧
        ((s.node n).presence ≠ .present → (t.node n).presence = (s.node n).presence ∧ OnlyChanges [.nlc, .nodes] s t)) ∧
      ((s.node n).lastAlive = some (aliveOf payload) → retry = true →
        t.nlc = { s.nlc with noise := t.nlc.noise, bus := t.nlc.bus, ack := t.nlc.ack } ∧ OnlyChanges [.nlc] s t)

/-- A TUNNEL frame joins an inbox of fewer than 4 frames, acknowledged ACCEPTED, with notice TUNNEL when it was empty; a full inbox
answers NOT_READY; a TUNNEL frame of an AUX node makes its record PRESENT and releases its hold (R38, R39, R60, R71; the
acknowledgement and the noise count in a PARKED part that has not yet left the link: log 15; an SOF and the first symbol are two
pulses: log 22; the bus after a failed echo check, a noise pulse in one, and the moments at which it reads: logs 46, 47 and 56). -/
def Obligations.TunnelFramesFillTheInbox : Prop :=
  ∀ (n : NodeAddr) (retry : Bool) (payload : List Byte) (w rest : Wave) (eod : Nat) (s : State), s.Follows →
    Carries w (some n) .tunnel retry payload eod rest → ∃ t, exec (.tunnelFrameReceived n retry payload w) s = .next t ∧
      t.nlc.inbox = (if s.nlc.inbox.length < 4 then s.nlc.inbox ++ [⟨n, payload⟩] else s.nlc.inbox) ∧
      Acknowledged (if s.nlc.inbox.length < 4 then 0x00 else 0x10) eod w rest t.nlc ∧
      t.nlc.noise = min 65535 (s.nlc.noise + noiseCount w) ∧
      (s.nlc.inbox = [] → Noted .tunnel (nodeCode n) s t) ∧
      (s.nlc.inbox ≠ [] → t.notices = s.notices) ∧
      (isAux n = true → s.mode ≠ .parked → (t.node n).presence = .present ∧ (t.node n).freshTime = some s.runTime ∧
        (t.node n).staleTimer = some (s.par .tStale) ∧ (t.node n).held = false) ∧
      (isAux n = true → s.mode ≠ .parked → (s.node n).held = true → ∀ e ∈ t.nlc.queue, e.target = n → e.held = false) ∧
      (isAux n = false ∨ (s.node n).held = false →
        t.nlc = { s.nlc with inbox := t.nlc.inbox, noise := t.nlc.noise, bus := t.nlc.bus, ack := t.nlc.ack }) ∧
      (isAux n = false → t.nodes = s.nodes) ∧ OnlyChanges [.nlc, .nodes, .notices] s t

/-- A refused frame is acknowledged INVALID and counted to its source, if that is a node, in every mode in which the link receives.
A frame of bad form, length or CRC counts as a CRC error and is not acknowledged; a good frame between two nodes is followed to its
end; within an EOF a pulse of 0.5 µs or more is a form error, and one below counts as noise there and anywhere else, and leaves the
bus as it is; an SOF on the idle bus begins a node's frame (R21, R22, R23, R36, R37; that a PARKED part that has not yet left the
link still answers and counts: log 15; an SOF and the first symbol are two pulses, log 22; a pulse on the idle bus that is no SOF,
the bus after a failed echo check, a noise pulse in one, the moments at which it reads, and the commands that carry what no row
names: logs 26, 46, 47 and 56). -/
def Obligations.RefusedAndBrokenFramesAreCounted : Prop :=
  ∀ s : State, s.supply = .on → s.nlc.link.receives = true →
    (∀ source cls retry payload w eod rest, s.Follows → Carries w source cls retry payload eod rest →
      destinationOf source cls payload = .nowhere → ∃ t, exec (.nodeFrameRefused source cls retry payload w) s = .next t ∧
        Acknowledged 0x11 eod w rest t.nlc ∧
        t.nlc = { s.nlc with noise := min 65535 (s.nlc.noise + noiseCount w), bus := t.nlc.bus, ack := t.nlc.ack } ∧
        (source = none → t.nodes = s.nodes) ∧
        (∀ n, source = some n →
          t.node n = { s.node n with rejects := min 65535 ((s.node n).rejects + 1) } ∧ ∀ m, m ≠ n → t.node m = s.node m) ∧
        OnlyChanges [.nlc, .nodes] s t) ∧
    (∀ w, hasBreak w = false → s.nlc.tx = .idle → ∃ t, exec (.dnlFrameCrcError w) s = .next t ∧
      let noise := min 65535 (s.nlc.noise + noiseCount w)
      let crcErrors := min 65535 (s.nlc.crcErrors + 1)
      (s.Follows → ∀ eod rest, readFrame w = .badCrc eod rest →
        t.nlc = { s.nlc with noise := noise, crcErrors := crcErrors, bus := (readWindow eod rest).bus } ∧
        OnlyChanges [.nlc] s t) ∧
      (s.Follows → readFrame w = .formError →
        t.nlc = { s.nlc with noise := noise, crcErrors := crcErrors, bus := .waiting } ∧ OnlyChanges [.nlc] s t) ∧
      (s.Follows → ∀ h1 h2 payload eod rest, readFrame w = .good h1 h2 payload eod rest → targetCode h1 ≠ 0 →
        t.nlc = { s.nlc with noise := noise, bus := (readWindow eod rest).bus } ∧ OnlyChanges [.nlc] s t) ∧
      (s.Follows → readFrame w = .noSof → t.nlc = { s.nlc with noise := noise, bus := .waiting } ∧ OnlyChanges [.nlc] s t) ∧
      ((∀ p ∈ w, p.width < 500) → t.nlc = { s.nlc with noise := noise } ∧ OnlyChanges [.nlc] s t) ∧
      (s.nlc.bus = .closing → (∃ p ∈ w, 500 ≤ p.width) →
        t.nlc = { s.nlc with noise := noise, bus := .waiting } ∧ OnlyChanges [.nlc] s t) ∧
      (s.nlc.bus = .waiting → t.nlc = { s.nlc with noise := noise } ∧ OnlyChanges [.nlc] s t)) ∧
    (∀ ns, ns < 160000 → ∃ t, exec (.noisePulse ns) s = .next t ∧ OnlyChanges [.nlc] s t ∧
      (ns < 500 → t.nlc = { s.nlc with noise := min 65535 (s.nlc.noise + 1) }) ∧
      (10000 ≤ ns → ns ≤ 14000 → s.nlc.bus = .idle → t.nlc = { s.nlc with bus := .following }) ∧
      (500 ≤ ns → s.nlc.bus = .closing ∨ (s.nlc.bus = .idle ∧ (ns < 10000 ∨ 14000 < ns)) →
        t.nlc = { s.nlc with bus := .waiting }) ∧
      (500 ≤ ns → s.nlc.bus = .following →
        t.nlc = { s.nlc with crcErrors := min 65535 (s.nlc.crcErrors + 1), bus := .waiting }) ∧
      (500 ≤ ns → s.nlc.bus = .busy ∨ s.nlc.bus = .waiting → t = s))

/-- At bus idle a due break goes first; otherwise, on the link and with the bus free, the first entry that is not held is put in
flight with its frame of R25, and with none the bus stays idle; a followed frame that brought nothing more counts as a CRC error.
The frame is driven for its SOF and 4 µs a bit, most significant bit first, low for a quarter of a 1 and three quarters of a 0, and
reads back as that frame; a break is driven for 192 µs. A link that is being left is left, once no break is due, and the level of a
node that has begun then wakes the part if wake-on-node is set. In HALTED the HALT frames are sent in the same way, one at each
idle bus, and with none left the link falls silent (R8, R9, R10, R20, R23, R24, R25, R32, R33, R36, R41, R42, R43, R65; the edges
of NTX and NLEN stand at their nominal moments, where the spec lets a sender follow the bus: log 26; an SOF and the first symbol
read back as two pulses: log 22; the wake: log 14). -/
def Obligations.BusIdleStartsTheFirstUnheldEntry : Prop :=
  ∀ s : State, s.supply = .on → s.nlc.link.receives = true →
    (∀ bytes taken, s.nlc.tx = .frame bytes → exec (.busIdle taken) s = .next s) ∧
    (s.nlc.tx = .idle ∨ s.nlc.tx = .brk .released →
      let crcErrors := if s.nlc.bus = .following then min 65535 (s.nlc.crcErrors + 1) else s.nlc.crcErrors
      let n : LinkController := { s.nlc with crcErrors := crcErrors }
      (s.nlc.breakDue = true → ∀ taken, ∃ t, exec (.busIdle taken) s = .next t ∧
        t.nlc = { n with tx := .brk .driving, bus := .busy, breakDue := false, failures := 0, ack := none } ∧
        (∀ x, t.nlc.nlen x = decide (x < 192000) ∧ (t.nlc.ntx x = .low ↔ x < 192000)) ∧ OnlyChanges [.nlc] s t) ∧
      (s.nlc.breakDue = false → s.nlc.link = .up ∨ (s.nlc.link = .halting ∧ s.nlc.queue ≠ []) →
        (∃ t, exec (.busIdle true) s = .next t ∧
          t.nlc = { n with tx := .idle, bus := .following, ack := none } ∧ (∀ x, t.nlc.nlen x = false) ∧
          OnlyChanges [.nlc] s t) ∧
        (∃ t, exec (.busIdle false) s = .next t ∧ OnlyChanges [.nlc] s t ∧
          ((∀ e ∈ s.nlc.queue, e.held = true ∨ e.inFlight = true) →
            t.nlc = { n with tx := .idle, bus := .idle, ack := none } ∧ ∀ x, t.nlc.nlen x = false) ∧
          (∀ (front back : List Entry) (e : Entry), s.nlc.queue = front ++ e :: back →
            (∀ x ∈ front, x.held = true ∨ x.inFlight = true) → e.held = false → e.inFlight = false →
            t.nlc = { n with queue := front ++ { e with inFlight := true } :: back, bus := .busy, ack := none,
                             tx := .frame e.frame } ∧
            (∀ x, t.nlc.nlen x = decide (x < 12000 + 32000 * e.frame.length)) ∧ (∀ x, x < 12000 → t.nlc.ntx x = .low) ∧
            (∀ k b, (bitsOf e.frame)[k]? = some b → ∀ x, 12000 + 4000 * k ≤ x → x < 12000 + 4000 * (k + 1) →
              (t.nlc.ntx x = .low ↔ x < 12000 + 4000 * k + if b then 1000 else 3000)) ∧
            (∃ d, t.nlc.drives = [d] ∧ (e.payload.length ≤ 12 → readFrame d.pulses =
              .good (header1 e.priority (nodeCode e.target) (classCode e.kind.cls))
                (header2 (decide (1 ≤ e.attempts)) e.payload.length) e.payload (d.endNs + 8000) []))))) ∧
      (s.nlc.breakDue = false → s.nlc.link = .halting → s.nlc.queue = [] → ∀ taken, ∃ t, exec (.busIdle taken) s = .next t ∧
        t.nlc = { n with tx := .idle, bus := .waiting, link := .silent, ack := none } ∧ (∀ x, t.nlc.nlen x = false) ∧
        OnlyChanges [.nlc] s t) ∧
      (s.nlc.breakDue = false → s.nlc.link = .leaving → ∀ taken, ∃ t, exec (.busIdle taken) s = .next t ∧
        t.nlc = { n with tx := .idle, bus := .waiting, link := .away, ack := none } ∧
        t.waking = (s.waking || (taken && s.mode == .parked && Nat.testBit (s.par .attention) 10)) ∧
        OnlyChanges [.waking, .nlc] s t))

/-- A dominant run of 160 µs is a bus reset: it counts, moves the watch on and restarts the quiet timer, ends the 620's frame in
flight as ABORTED and keeps every entry that may return, unless a newer one for its target and kind waits; the third within 1000 ms
raises LINK_ERRORS. The code goes into its target's record, in PARKED as in every other mode, and changes nothing else of any
record. The 620's own break is one bus reset, however far it has got, and is released at 192 µs. Two runs in the wave of one frame
are two bus resets, and the frame counts no CRC error. It counts the same on a link that is being left, where a frame whose part
has entered PARKED is removed, and on one that falls silent, where a HALT frame returns; with that the link is left or silent, if
no break is due or being sent and nothing is left to send, and a level still dominant then wakes a part with wake-on-node (R9, R21,
R29, R30, R31, R33, R34, R35, R36, R38, R42, R43, R69; the wake: log 14; a distance of exactly 1000 ms is within them, log 24; the
node record of a frame that ends in PARKED: log 36; a run that begins within a symbol or the EOD: log 48). -/
def Obligations.BusResetReturnsTheEntryInFlight : Prop :=
  (∀ (ns : Nat) (s : State), s.supply = .on → s.nlc.link = .up → 160000 ≤ ns → ∃ t, exec (.busReset ns) s = .next t ∧
    t.nlc.inbox = s.nlc.inbox ∧ t.nlc.crcErrors = s.nlc.crcErrors ∧ t.nlc.noise = s.nlc.noise ∧
    t.nlc.failures = s.nlc.failures ∧
    (s.nlc.tx = .brk .recognised →
      t.nlc = (if ns < 192000 then s.nlc else { s.nlc with tx := .brk .released, bus := .waiting }) ∧ OnlyChanges [.nlc] s t) ∧
    (s.nlc.tx ≠ .brk .recognised →
      t.nlc.busResets = min 65535 (s.nlc.busResets + 1) ∧ t.nlc.quiet = some 10000 ∧
      t.nlc.olderReset = s.nlc.newerReset ∧ t.nlc.newerReset = some s.runTime ∧ t.nlc.ack = none ∧
      (s.nlc.tx = .brk .driving → t.nlc.tx = .brk (if ns < 192000 then .recognised else .released)) ∧
      (∀ old, s.nlc.olderReset = some old → elapsed s.runTime old ≤ 1000 → s.mode ≠ .halted → t.Raised .linkErrors) ∧
      ((∀ old, s.nlc.olderReset = some old → 1000 < elapsed s.runTime old) →
        (s.nlc.tx = .idle → t.nlc.queue = s.nlc.queue ∧ t.nlc.tx = .idle ∧ t.nlc.bus = .waiting ∧ OnlyChanges [.nlc] s t) ∧
        (∀ (front back : List Entry) (e : Entry), (∃ bytes, s.nlc.tx = .frame bytes) ∨ (∃ c bytes ns, s.nlc.tx = .ended c bytes ns) →
          s.nlc.queue = front ++ e :: back → (∀ x ∈ front ++ back, x.inFlight = false) → e.inFlight = true →
          e.fate = .returns →
          t.nlc.queue = (if (front ++ back).any (Entry.waitsFor e.target e.kind) then front ++ back
            else front ++ { e with inFlight := false, last := some .aborted } :: back) ∧
          t.nlc.tx = .idle ∧ t.nlc.bus = .waiting ∧ t.node e.target = { s.node e.target with lastCode := some .aborted } ∧
          (∀ m, m ≠ e.target → t.node m = s.node m) ∧ OnlyChanges [.hli, .nlc, .nodes] s t)) ∧
      (∀ w, s.Follows → readFrame w = .brk → (w.filter (fun p => decide (160000 ≤ p.width))).length = 2 →
        s.nlc.olderReset = none → s.nlc.newerReset = none → ∃ u, exec (.dnlFrameCrcError w) s = .next u ∧
          u.nlc.busResets = min 65535 (s.nlc.busResets + 2) ∧ u.nlc.olderReset = some s.runTime ∧
          u.nlc.newerReset = some s.runTime ∧ u.nlc.quiet = some 10000 ∧ u.nlc.crcErrors = s.nlc.crcErrors ∧
          u.nlc.noise = min 65535 (s.nlc.noise + noiseCount w) ∧ u.nlc.queue = s.nlc.queue ∧ u.nlc.bus = .waiting ∧
          OnlyChanges [.nlc] s u))) ∧
  ∀ (ns : Nat) (s : State), s.supply = .on → s.nlc.link = .leaving ∨ s.nlc.link = .halting → 160000 ≤ ns →
    ∃ t, exec (.busReset ns) s = .next t ∧
      t.nlc.inbox = s.nlc.inbox ∧ t.nlc.crcErrors = s.nlc.crcErrors ∧ t.nlc.noise = s.nlc.noise ∧
      t.nlc.failures = s.nlc.failures ∧ t.nlc.breakDue = s.nlc.breakDue ∧
      (s.nlc.tx ≠ .brk .recognised →
        t.nlc.busResets = min 65535 (s.nlc.busResets + 1) ∧ t.nlc.quiet = some 10000 ∧
        t.nlc.olderReset = s.nlc.newerReset ∧ t.nlc.newerReset = some s.runTime ∧ t.nlc.ack = none ∧
        (∀ old, s.nlc.olderReset = some old → elapsed s.runTime old ≤ 1000 → s.mode ≠ .halted → t.Raised .linkErrors)) ∧
      (s.nlc.tx = .brk .recognised → t.nlc.busResets = s.nlc.busResets ∧ t.nlc.quiet = s.nlc.quiet ∧
        t.nlc.olderReset = s.nlc.olderReset ∧ t.nlc.newerReset = s.nlc.newerReset ∧ OnlyChanges [.nlc] s t) ∧
      (s.nlc.tx.breaking = true →
        t.nlc.tx.breaking = decide (ns < 192000) ∧ (192000 ≤ ns → t.nlc.tx = .brk .released ∨ t.nlc.link = .silent)) ∧
      (s.nlc.link = .leaving →
        t.nlc.link = (if s.nlc.breakDue = false ∧ t.nlc.tx = .idle then .away else .leaving) ∧
        t.waking = (s.waking || (decide (160000 < ns) && s.mode == .parked && t.nlc.link == .away &&
          Nat.testBit (s.par .attention) 10))) ∧
      (s.nlc.link = .halting → t.waking = s.waking ∧
        t.nlc.link = (if s.nlc.breakDue = false ∧ t.nlc.queue = [] ∧ (t.nlc.tx = .idle ∨ t.nlc.tx = .brk .released)
          then .silent else .halting)) ∧
      (s.mode = .halted ∨ (∀ old, s.nlc.olderReset = some old → 1000 < elapsed s.runTime old) →
        ((∀ bytes, s.nlc.tx ≠ .frame bytes) → (∀ c bytes since, s.nlc.tx ≠ .ended c bytes since) →
          t.nlc.queue = s.nlc.queue ∧ OnlyChanges [.waking, .nlc] s t) ∧
        (∀ (front back : List Entry) (e : Entry), (∃ bytes, s.nlc.tx = .frame bytes) ∨ (∃ c bytes since, s.nlc.tx = .ended c bytes since) →
          s.nlc.queue = front ++ e :: back → (∀ x ∈ front ++ back, x.inFlight = false) → e.inFlight = true →
          t.nlc.queue = (if e.fate = .returns ∧ (front ++ back).any (Entry.waitsFor e.target e.kind) = false
            then front ++ { e with inFlight := false, last := some .aborted } :: back else front ++ back) ∧
          t.nlc.tx = .idle ∧ t.nlc.bus = .waiting ∧
          t.node e.target = { s.node e.target with lastCode := some .aborted } ∧
          (∀ m, m ≠ e.target → t.node m = s.node m) ∧
          OnlyChanges [.waking, .hli, .nlc, .nodes] s t))

/-- The frame in flight completes with the code its wave gives: a good acknowledgement removes the entry; NOT_READY returns it held
and holds its node, which is not LOST; a failure returns it with its attempt counted, or at the third removes it and counts a miss;
where a newer entry for its target and kind waits it is removed whatever the code; the deferred reply of a CONFIRMED entry becomes
ready as it leaves. A bit error, a lost arbitration and a form error in the window release the bus, and NLEN with it, at their
moment, and are settled when the bus is idle. The last entry of a link that is being left or falls silent is removed on every code,
where PARKED or HALTED was entered over its flight, and on a terminal one: its target's record takes the code in PARKED as in every
other mode, with the miss of a third counted failure and the hold of NOT_READY, NAK_INVALID sets REJECT, and its reply goes out with
that code. With no break due the NLC is then off the link from the end of the ack window, and what stands behind it in the wave is
not received, but its level wakes a part that has left the link, if wake-on-node is set (R9, R27, R28, R29, R30, R31, R32, R41, R42,
R43, R69, R71, R72, R73, R77; the wake: log 14; an SOF and the first symbol are two pulses: log 22; a code that settles in PARKED
is written into the record as PARKED entry left it: log 36; the acknowledgement after a lost arbitration whose own echo check fails,
a noise pulse in an echo check, a level that holds past the last CRC symbol, and the moments at which that check reads: logs 46, 47,
49 and 56; the limited flag after NAK_INVALID or a HALT frame's NAK_NOT_READY: log 57). -/
def Obligations.CompletionsSettleTheEntryInFlight : Prop :=
  (∀ bytes code crc, sendOutcome bytes (frameWave bytes [code, crc]) = .acked code crc (frameEod bytes + 64000) .closing ∧
    sendOutcome bytes (frameWave bytes []) = .emptyWindow (frameEod bytes + 4000) .closing) ∧
  (∀ (e : Entry) (c : Completion) (s : State), s.supply = .on → s.nlc.link = .leaving ∨ s.nlc.link = .halting →
    s.nlc.queue = [e] → e.inFlight = true → s.nlc.breakDue = false → (c.failed = true → s.nlc.failures < 7) →
    c.acked = true ∨ (c.failed = true ∧ 2 ≤ e.attempts) ∨ (c = .nakNotReady ∧ e.isHalt = true) ∨ e.fate ≠ .returns →
    let n : LinkController := { s.nlc with
      queue := [], tx := .idle, bus := .waiting, ack := none, link := if s.nlc.link = .leaving then .away else .silent
      failures := if c.failed then s.nlc.failures + 1 else if c = .done ∨ c = .doneLimited then 0 else s.nlc.failures }
    let wakeable := s.nlc.link == .leaving && s.mode == .parked && Nat.testBit (s.par .attention) 10
    (∀ (bytes : List Byte) (w : Wave) (ends : Nat) (bus : Bus), s.nlc.tx = .frame bytes →
      (sendOutcome bytes w = .emptyWindow ends bus ∧ c = .noAck) ∨
        (∃ code crc, sendOutcome bytes w = .acked code crc ends bus ∧ c = completionOfWindow code crc) →
      ∃ t, exec (.frameCompletion w) s = .next t ∧ e.Concludes c s t ∧
        t.nlc = { n with
          noise := min 65535 (s.nlc.noise + noiseCount (w.takeWhile (fun p => decide (p.edge < ends ∧ p.width < 160000)))) } ∧
        (∀ x, t.nlc.nlen x = false) ∧
        t.waking = (s.waking || (wakeable && w.any (fun p => decide (ends < p.edge + p.width)))) ∧
        OnlyChanges [.waking, .hli, .nlc, .nodes, .notices] s t) ∧
    (∀ (bytes : List Byte) (since : Nat) (taken : Bool), s.nlc.tx = .ended c bytes since →
      ∃ t, exec (.busIdle taken) s = .next t ∧ e.Concludes c s t ∧ t.nlc = n ∧ (∀ x, t.nlc.nlen x = false) ∧
        t.waking = (s.waking || (wakeable && taken)) ∧ OnlyChanges [.waking, .hli, .nlc, .nodes, .notices] s t)) ∧
  ∀ (front back : List Entry) (e : Entry) (s : State), s.supply = .on → s.nlc.link = .up → s.mode.live = true →
    s.nlc.queue = front ++ e :: back → (∀ x ∈ front ++ back, x.inFlight = false) → e.inFlight = true → e.fate = .returns →
    e.isHalt = false →
    let newer := (front ++ back).any (Entry.waitsFor e.target e.kind)
    (∀ bytes w, s.nlc.tx = .frame bytes → hasBreak w = false → ∃ t, exec (.frameCompletion w) s = .next t ∧
      let noise := min 65535 (s.nlc.noise + noiseCount w)
      (∀ ends bus, sendOutcome bytes w = .acked 0x00 (crc8 [0x00]) ends bus →
        t.nlc = { s.nlc with queue := front ++ back, failures := 0, tx := .idle, bus := bus, noise := noise } ∧
        (t.node e.target).lastCode = some .done ∧ (t.node e.target).limited = false ∧
        (∀ tag slot, e.reply = .confirmed tag slot → s.hli.ordered →
          t.hli.line =
            s.hli.line ++ [⟨tag, 0x10, [stOk, 0, byte e.tunnelNumber, byte (nodeCode e.target), 1, 0x00], some slot⟩] ∧
          OnlyChanges [.hli, .nlc, .nodes] s t) ∧
        (e.reply = .none ∨ e.reply = .posted → OnlyChanges [.nlc, .nodes] s t)) ∧
      (∀ ends bus, sendOutcome bytes w = .acked 0x01 (crc8 [0x01]) ends bus →
        t.nlc.queue = front ++ back ∧ t.nlc.failures = 0 ∧ t.nlc.tx = .idle ∧ t.nlc.bus = bus ∧
        (t.node e.target).lastCode = some .doneLimited ∧ (t.node e.target).limited = true ∧
        OnlyChanges [.hli, .nlc, .nodes] s t) ∧
      (∀ ends bus, sendOutcome bytes w = .acked 0x10 (crc8 [0x10]) ends bus → (s.node e.target).presence ≠ .lost →
        t.nlc = { s.nlc with
          queue := (if newer then front ++ back else front ++ { e with inFlight := false, last := some .nakNotReady } :: back).map
            (fun x => if x.target = e.target ∧ x.isHalt = false then { x with held := true } else x)
          tx := .idle, bus := bus, noise := noise } ∧
        (t.node e.target).held = true ∧ (t.node e.target).lastCode = some .nakNotReady ∧
        (newer = false → OnlyChanges [.nlc, .nodes] s t) ∧ OnlyChanges [.hli, .nlc, .nodes] s t) ∧
      (∀ ends bus, sendOutcome bytes w = .acked 0x11 (crc8 [0x11]) ends bus →
        t.nlc = { s.nlc with queue := front ++ back, tx := .idle, bus := bus, noise := noise } ∧
        Noted .reject (nodeCode e.target) s t ∧ OnlyChanges [.hli, .nlc, .nodes, .notices] s t) ∧
      (∀ c ends bus, (sendOutcome bytes w = .emptyWindow ends bus ∧ c = .noAck) ∨
          (∃ code crc, sendOutcome bytes w = .acked code crc ends bus ∧ completionOfWindow code crc = .ackCrc ∧ c = .ackCrc) →
        (t.node e.target).lastCode = some c ∧ t.nlc.tx = .idle ∧ t.nlc.bus = bus ∧
        t.nlc.failures = min 8 (s.nlc.failures + 1) ∧ t.nlc.breakDue = (s.nlc.breakDue || decide (7 ≤ s.nlc.failures)) ∧
        (e.attempts < 2 → (t.node e.target).misses = (s.node e.target).misses ∧
          (newer = false → OnlyChanges [.nlc, .nodes] s t ∧
            t.nlc.queue = front ++ { e with inFlight := false, attempts := e.attempts + 1, last := some c } :: back) ∧
          (newer = true → t.nlc.queue = front ++ back)) ∧
        (2 ≤ e.attempts → t.nlc.queue = front ++ back ∧
          (t.node e.target).misses = min 65535 ((s.node e.target).misses + 1) ∧
          ∀ tag slot, e.reply = .confirmed tag slot → s.hli.ordered →
            t.hli.line = s.hli.line ++
              [⟨tag, 0x10, [stLinkFail, 0, byte e.tunnelNumber, byte (nodeCode e.target), c.code, 0xFF], some slot⟩]) ∧
        OnlyChanges [.hli, .nlc, .nodes] s t) ∧
      (∀ c ns, (sendOutcome bytes w = .windowError ns ∧ c = .ackCrc) ∨ (sendOutcome bytes w = .bitErr ns ∧ c = .bitErr) →
        t.nlc = { s.nlc with tx := .ended c bytes ns, bus := .waiting, noise := noise } ∧
        (s.nlc.ack = none → ∀ x, t.nlc.nlen x = decide (x < ns)) ∧ OnlyChanges [.nlc] s t) ∧
      (∀ ns, sendOutcome bytes w = .lost ns → t.nlc.tx = .ended .lost bytes ns ∧
        ∀ h1 h2 payload eod rest, readFrame w = .good h1 h2 payload eod rest →
          (targetCode h1 ≠ 0 →
            t.nlc = { s.nlc with tx := .ended .lost bytes ns, bus := (readWindow eod rest).bus, noise := noise } ∧
            (s.nlc.ack = none → ∀ x, t.nlc.nlen x = decide (x < ns)) ∧ OnlyChanges [.nlc] s t) ∧
          (targetCode h1 = 0 → ∃ code, Acknowledged code eod w rest t.nlc))) ∧
    (∀ c bytes ns, s.nlc.tx = .ended c bytes ns → c.failed = true ∨ c = .lost → s.nlc.breakDue = false →
      ∃ t, exec (.busIdle true) s = .next t ∧ (t.node e.target).lastCode = some c ∧
        (t.node e.target).misses =
          (if c.failed = true ∧ 2 ≤ e.attempts then min 65535 ((s.node e.target).misses + 1) else (s.node e.target).misses) ∧
        t.nlc.queue = (if newer = true ∨ (c.failed = true ∧ 2 ≤ e.attempts) then front ++ back
          else front ++ { e with inFlight := false, attempts := if c.failed then e.attempts + 1 else e.attempts,
                                 last := some c } :: back) ∧
        (c.failed = true ∧ 7 ≤ s.nlc.failures → t.nlc.tx = .brk .driving ∧ t.nlc.bus = .busy ∧ t.nlc.failures = 0) ∧
        (c.failed = false ∨ s.nlc.failures < 7 → t.nlc.tx = .idle ∧ t.nlc.bus = .following ∧
          t.nlc.failures = if c.failed then s.nlc.failures + 1 else s.nlc.failures) ∧
        OnlyChanges [.hli, .nlc, .nodes] s t)

/-! ## The two computations -/

/-- R98: in every blend F_reg + F_f + F_r = F_dem, and each axle pressure is p_max or the least pressure that covers the axle's
force, whichever is smaller. -/
def Obligations.BlendAllocatesTheWholeDemand : Prop :=
  ∀ (p : Params) (trigger : BlendTrigger) (i : BlendInputs), 0 < getParam p .kFront → 0 < getParam p .kRear →
    let r := i.result p trigger
    r.fReg + r.fFront + r.fRear = r.fDem ∧
    (∃ c, r.pFront = min (getParam p .pMax) c ∧ ∀ q, c ≤ q ↔ r.fFront ≤ q * getParam p .kFront) ∧
    (∃ c, r.pRear = min (getParam p .pMax) c ∧ ∀ q, c ≤ q ↔ r.fRear ≤ q * getParam p .kRear)

/-- F_reg never exceeds F_dem, F_stab, F_ramp or F_restr, and is 0 under slip, a lost INV or BAT, SAFE_STOP, REVERSE and in a held
computation (R94, R95). -/
def Obligations.RecoveryStaysWithinItsBounds : Prop :=
  ∀ (p : Params) (trigger : BlendTrigger) (i : BlendInputs),
    let r := i.result p trigger
    r.fReg ≤ i.fDem ∧ r.fReg ≤ i.fDem * getParam p .qReg / 256 ∧ r.fReg ≤ i.prev + getParam p .rampUp ∧
    r.fReg ≤ i.fRestr p ∧
    (i.slip = true ∨ i.nodeLost = true ∨ i.level = .safeStop ∨ i.reverse = true ∨ i.held = true →
      r.fReg = 0 ∧ r.tReg = 0 ∧ r.fFront + r.fRear = r.fDem)

/-- In every demand split F_e + F_eng + F_short = F_req, charge-sustaining adds force only while F_e is 0, SAFE_STOP leaves no
request, and F_e and F_eng + F_cs stay within the capabilities of motor and engine. T_inv is the torque of F_e - F_cs rounded toward
0; it is at least -T_gen, and with a restriction factor of at most 256 at most T_mot. The ENG FORCE value is F_eng + F_cs in units of
10 N, rounded down (R126, R127, R130, R131, R132, R133). -/
def Obligations.SplitAllocatesTheWholeRequest : Prop :=
  ∀ (p : Params) (i : SplitInputs),
    let r := i.result p
    r.fE + r.fEng + r.fShort = r.fReq ∧ r.fReq ≤ i.traction ∧ (i.level = .safeStop → r.fReq = 0) ∧ r.fE ≤ r.fECap ∧
    r.fEng + r.fCs ≤ i.fEngCap p ∧ (0 < r.fCs → r.fE = 0 ∧ i.machine = .run ∧ i.reverse = false) ∧
    (r.fCs = 0 → r.tInv = ((r.fE * getParam p .wheelR / (getParam p .gearG * 10) : Nat) : Int)) ∧
    (0 < r.fCs → r.tInv = -((r.fCs * getParam p .wheelR / (getParam p .gearG * 10) : Nat) : Int)) ∧
    (r.fCs = 0 → 0 ≤ r.tInv) ∧ (0 < r.fCs → r.tInv ≤ 0) ∧
    -(i.tGen : Int) ≤ r.tInv ∧ (i.factor ≤ 256 → r.tInv ≤ (i.tMot : Int)) ∧
    r.engForce = (r.fEng + r.fCs) / 10 ∧ r.engForce ≤ i.fEngCap p / 10

/-! ## Laws that every step keeps -/

/-- R208, R209, R215: a step keeps the access law, and it keeps the reply law, in which the BUSY replies that wait and the CONFIRMED
sends that hold a slot are counted as logs 13 and 12 read R208. -/
def Obligations.StepsKeepTheHostLinkLaws : Prop :=
  ∀ s t : State, step s = .next t → (AccessLaw s → AccessLaw t) ∧ (ReplyLaw s → ReplyLaw t)

/-- R70: a step keeps the setpoint queue's law. -/
def Obligations.StepsKeepTheQueueLaw : Prop :=
  ∀ s t : State, QueueLaw s → step s = .next t → QueueLaw t

/-- R114: a step keeps the event log's law. -/
def Obligations.StepsKeepTheRingLaw : Prop :=
  ∀ s t : State, RingLaw s → step s = .next t → RingLaw t

/-- R190, R193, R195: a step keeps the fault list's law, and under it k stays within 64..256. -/
def Obligations.StepsKeepTheFaultLaw : Prop :=
  ∀ s : State, FaultLaw s → (64 ≤ s.factor ∧ s.factor ≤ 256) ∧ ∀ t, step s = .next t → FaultLaw t

/-- R217, R218: a step keeps every parameter in its range and the pairs in order. -/
def Obligations.StepsKeepTheParameterLaw : Prop :=
  ∀ s t : State, ParamLaw s → step s = .next t → ParamLaw t

/-- R145, R147, R152, R156: a step keeps each engine timer to its own machine state, and every crank inside a zone to cause
HOST_OVERRIDE. -/
def Obligations.StepsKeepTheEngineLaws : Prop :=
  ∀ s t : State, step s = .next t → (EngineLaw s → EngineLaw t) ∧ (ZoneLaw s → ZoneLaw t)

/-- R51, R52, R53: a step keeps the presence timers to their states. -/
def Obligations.StepsKeepThePresenceLaw : Prop :=
  ∀ s t : State, PresenceLaw s → step s = .next t → PresenceLaw t

/-- R166: a step keeps every wear state that is not UNKNOWN as its value stands against its thresholds. -/
def Obligations.StepsKeepTheWearLaw : Prop :=
  ∀ s t : State, WearLaw s → step s = .next t → WearLaw t

/-- The state after reset meets the access, reply, queue, ring, fault, parameter, engine, presence, wear and zone laws (R1, R45,
R64, R114, R140, R165, R189, R191, R211, R215, R217). -/
def Obligations.ResetMeetsEveryLaw : Prop :=
  AccessLaw State.reset ∧ ReplyLaw State.reset ∧ QueueLaw State.reset ∧ RingLaw State.reset ∧ FaultLaw State.reset ∧
    ParamLaw State.reset ∧ EngineLaw State.reset ∧ PresenceLaw State.reset ∧ WearLaw State.reset ∧ ZoneLaw State.reset
end

