-- ==== Sys2Proof/Laws/State.lean ====
section
/-! SUPPORT. One lemma per field per update of State, true by rfl, for simp. -/

namespace Sys2Proof.Machine

section
variable (s : State) (x : Supply)
@[simp] theorem State.setSupply_supply : (s.setSupply x).supply = x := rfl
@[simp] theorem State.setSupply_mode : (s.setSupply x).mode = s.mode := rfl
@[simp] theorem State.setSupply_progress : (s.setSupply x).progress = s.progress := rfl
@[simp] theorem State.setSupply_waking : (s.setSupply x).waking = s.waking := rfl
@[simp] theorem State.setSupply_keep : (s.setSupply x).keep = s.keep := rfl
@[simp] theorem State.setSupply_slowClock : (s.setSupply x).slowClock = s.slowClock := rfl
@[simp] theorem State.setSupply_runTime : (s.setSupply x).runTime = s.runTime := rfl
@[simp] theorem State.setSupply_svc : (s.setSupply x).svc = s.svc := rfl
@[simp] theorem State.setSupply_params : (s.setSupply x).params = s.params := rfl
@[simp] theorem State.setSupply_hli : (s.setSupply x).hli = s.hli := rfl
@[simp] theorem State.setSupply_demand : (s.setSupply x).demand = s.demand := rfl
@[simp] theorem State.setSupply_nlc : (s.setSupply x).nlc = s.nlc := rfl
@[simp] theorem State.setSupply_nodes : (s.setSupply x).nodes = s.nodes := rfl
@[simp] theorem State.setSupply_bbu : (s.setSupply x).bbu = s.bbu := rfl
@[simp] theorem State.setSupply_psu : (s.setSupply x).psu = s.psu := rfl
@[simp] theorem State.setSupply_esc : (s.setSupply x).esc = s.esc := rfl
@[simp] theorem State.setSupply_log : (s.setSupply x).log = s.log := rfl
@[simp] theorem State.setSupply_wear : (s.setSupply x).wear = s.wear := rfl
@[simp] theorem State.setSupply_faults : (s.setSupply x).faults = s.faults := rfl
@[simp] theorem State.setSupply_notices : (s.setSupply x).notices = s.notices := rfl
@[simp] theorem State.setSupply_pending : (s.setSupply x).pending = s.pending := rfl
end

section
variable (s : State) (x : Mode)
@[simp] theorem State.setMode_supply : (s.setMode x).supply = s.supply := rfl
@[simp] theorem State.setMode_mode : (s.setMode x).mode = x := rfl
@[simp] theorem State.setMode_progress : (s.setMode x).progress = s.progress := rfl
@[simp] theorem State.setMode_waking : (s.setMode x).waking = s.waking := rfl
@[simp] theorem State.setMode_keep : (s.setMode x).keep = s.keep := rfl
@[simp] theorem State.setMode_slowClock : (s.setMode x).slowClock = s.slowClock := rfl
@[simp] theorem State.setMode_runTime : (s.setMode x).runTime = s.runTime := rfl
@[simp] theorem State.setMode_svc : (s.setMode x).svc = s.svc := rfl
@[simp] theorem State.setMode_params : (s.setMode x).params = s.params := rfl
@[simp] theorem State.setMode_hli : (s.setMode x).hli = s.hli := rfl
@[simp] theorem State.setMode_demand : (s.setMode x).demand = s.demand := rfl
@[simp] theorem State.setMode_nlc : (s.setMode x).nlc = s.nlc := rfl
@[simp] theorem State.setMode_nodes : (s.setMode x).nodes = s.nodes := rfl
@[simp] theorem State.setMode_bbu : (s.setMode x).bbu = s.bbu := rfl
@[simp] theorem State.setMode_psu : (s.setMode x).psu = s.psu := rfl
@[simp] theorem State.setMode_esc : (s.setMode x).esc = s.esc := rfl
@[simp] theorem State.setMode_log : (s.setMode x).log = s.log := rfl
@[simp] theorem State.setMode_wear : (s.setMode x).wear = s.wear := rfl
@[simp] theorem State.setMode_faults : (s.setMode x).faults = s.faults := rfl
@[simp] theorem State.setMode_notices : (s.setMode x).notices = s.notices := rfl
@[simp] theorem State.setMode_pending : (s.setMode x).pending = s.pending := rfl
end

section
variable (s : State) (x : Progress)
@[simp] theorem State.setProgress_supply : (s.setProgress x).supply = s.supply := rfl
@[simp] theorem State.setProgress_mode : (s.setProgress x).mode = s.mode := rfl
@[simp] theorem State.setProgress_progress : (s.setProgress x).progress = x := rfl
@[simp] theorem State.setProgress_waking : (s.setProgress x).waking = s.waking := rfl
@[simp] theorem State.setProgress_keep : (s.setProgress x).keep = s.keep := rfl
@[simp] theorem State.setProgress_slowClock : (s.setProgress x).slowClock = s.slowClock := rfl
@[simp] theorem State.setProgress_runTime : (s.setProgress x).runTime = s.runTime := rfl
@[simp] theorem State.setProgress_svc : (s.setProgress x).svc = s.svc := rfl
@[simp] theorem State.setProgress_params : (s.setProgress x).params = s.params := rfl
@[simp] theorem State.setProgress_hli : (s.setProgress x).hli = s.hli := rfl
@[simp] theorem State.setProgress_demand : (s.setProgress x).demand = s.demand := rfl
@[simp] theorem State.setProgress_nlc : (s.setProgress x).nlc = s.nlc := rfl
@[simp] theorem State.setProgress_nodes : (s.setProgress x).nodes = s.nodes := rfl
@[simp] theorem State.setProgress_bbu : (s.setProgress x).bbu = s.bbu := rfl
@[simp] theorem State.setProgress_psu : (s.setProgress x).psu = s.psu := rfl
@[simp] theorem State.setProgress_esc : (s.setProgress x).esc = s.esc := rfl
@[simp] theorem State.setProgress_log : (s.setProgress x).log = s.log := rfl
@[simp] theorem State.setProgress_wear : (s.setProgress x).wear = s.wear := rfl
@[simp] theorem State.setProgress_faults : (s.setProgress x).faults = s.faults := rfl
@[simp] theorem State.setProgress_notices : (s.setProgress x).notices = s.notices := rfl
@[simp] theorem State.setProgress_pending : (s.setProgress x).pending = s.pending := rfl
end

section
variable (s : State) (x : Bool)
@[simp] theorem State.setWaking_supply : (s.setWaking x).supply = s.supply := rfl
@[simp] theorem State.setWaking_mode : (s.setWaking x).mode = s.mode := rfl
@[simp] theorem State.setWaking_progress : (s.setWaking x).progress = s.progress := rfl
@[simp] theorem State.setWaking_waking : (s.setWaking x).waking = x := rfl
@[simp] theorem State.setWaking_keep : (s.setWaking x).keep = s.keep := rfl
@[simp] theorem State.setWaking_slowClock : (s.setWaking x).slowClock = s.slowClock := rfl
@[simp] theorem State.setWaking_runTime : (s.setWaking x).runTime = s.runTime := rfl
@[simp] theorem State.setWaking_svc : (s.setWaking x).svc = s.svc := rfl
@[simp] theorem State.setWaking_params : (s.setWaking x).params = s.params := rfl
@[simp] theorem State.setWaking_hli : (s.setWaking x).hli = s.hli := rfl
@[simp] theorem State.setWaking_demand : (s.setWaking x).demand = s.demand := rfl
@[simp] theorem State.setWaking_nlc : (s.setWaking x).nlc = s.nlc := rfl
@[simp] theorem State.setWaking_nodes : (s.setWaking x).nodes = s.nodes := rfl
@[simp] theorem State.setWaking_bbu : (s.setWaking x).bbu = s.bbu := rfl
@[simp] theorem State.setWaking_psu : (s.setWaking x).psu = s.psu := rfl
@[simp] theorem State.setWaking_esc : (s.setWaking x).esc = s.esc := rfl
@[simp] theorem State.setWaking_log : (s.setWaking x).log = s.log := rfl
@[simp] theorem State.setWaking_wear : (s.setWaking x).wear = s.wear := rfl
@[simp] theorem State.setWaking_faults : (s.setWaking x).faults = s.faults := rfl
@[simp] theorem State.setWaking_notices : (s.setWaking x).notices = s.notices := rfl
@[simp] theorem State.setWaking_pending : (s.setWaking x).pending = s.pending := rfl
end

section
variable (s : State) (x : Bool)
@[simp] theorem State.setKeep_supply : (s.setKeep x).supply = s.supply := rfl
@[simp] theorem State.setKeep_mode : (s.setKeep x).mode = s.mode := rfl
@[simp] theorem State.setKeep_progress : (s.setKeep x).progress = s.progress := rfl
@[simp] theorem State.setKeep_waking : (s.setKeep x).waking = s.waking := rfl
@[simp] theorem State.setKeep_keep : (s.setKeep x).keep = x := rfl
@[simp] theorem State.setKeep_slowClock : (s.setKeep x).slowClock = s.slowClock := rfl
@[simp] theorem State.setKeep_runTime : (s.setKeep x).runTime = s.runTime := rfl
@[simp] theorem State.setKeep_svc : (s.setKeep x).svc = s.svc := rfl
@[simp] theorem State.setKeep_params : (s.setKeep x).params = s.params := rfl
@[simp] theorem State.setKeep_hli : (s.setKeep x).hli = s.hli := rfl
@[simp] theorem State.setKeep_demand : (s.setKeep x).demand = s.demand := rfl
@[simp] theorem State.setKeep_nlc : (s.setKeep x).nlc = s.nlc := rfl
@[simp] theorem State.setKeep_nodes : (s.setKeep x).nodes = s.nodes := rfl
@[simp] theorem State.setKeep_bbu : (s.setKeep x).bbu = s.bbu := rfl
@[simp] theorem State.setKeep_psu : (s.setKeep x).psu = s.psu := rfl
@[simp] theorem State.setKeep_esc : (s.setKeep x).esc = s.esc := rfl
@[simp] theorem State.setKeep_log : (s.setKeep x).log = s.log := rfl
@[simp] theorem State.setKeep_wear : (s.setKeep x).wear = s.wear := rfl
@[simp] theorem State.setKeep_faults : (s.setKeep x).faults = s.faults := rfl
@[simp] theorem State.setKeep_notices : (s.setKeep x).notices = s.notices := rfl
@[simp] theorem State.setKeep_pending : (s.setKeep x).pending = s.pending := rfl
end

section
variable (s : State) (x : Bool)
@[simp] theorem State.setSlowClock_supply : (s.setSlowClock x).supply = s.supply := rfl
@[simp] theorem State.setSlowClock_mode : (s.setSlowClock x).mode = s.mode := rfl
@[simp] theorem State.setSlowClock_progress : (s.setSlowClock x).progress = s.progress := rfl
@[simp] theorem State.setSlowClock_waking : (s.setSlowClock x).waking = s.waking := rfl
@[simp] theorem State.setSlowClock_keep : (s.setSlowClock x).keep = s.keep := rfl
@[simp] theorem State.setSlowClock_slowClock : (s.setSlowClock x).slowClock = x := rfl
@[simp] theorem State.setSlowClock_runTime : (s.setSlowClock x).runTime = s.runTime := rfl
@[simp] theorem State.setSlowClock_svc : (s.setSlowClock x).svc = s.svc := rfl
@[simp] theorem State.setSlowClock_params : (s.setSlowClock x).params = s.params := rfl
@[simp] theorem State.setSlowClock_hli : (s.setSlowClock x).hli = s.hli := rfl
@[simp] theorem State.setSlowClock_demand : (s.setSlowClock x).demand = s.demand := rfl
@[simp] theorem State.setSlowClock_nlc : (s.setSlowClock x).nlc = s.nlc := rfl
@[simp] theorem State.setSlowClock_nodes : (s.setSlowClock x).nodes = s.nodes := rfl
@[simp] theorem State.setSlowClock_bbu : (s.setSlowClock x).bbu = s.bbu := rfl
@[simp] theorem State.setSlowClock_psu : (s.setSlowClock x).psu = s.psu := rfl
@[simp] theorem State.setSlowClock_esc : (s.setSlowClock x).esc = s.esc := rfl
@[simp] theorem State.setSlowClock_log : (s.setSlowClock x).log = s.log := rfl
@[simp] theorem State.setSlowClock_wear : (s.setSlowClock x).wear = s.wear := rfl
@[simp] theorem State.setSlowClock_faults : (s.setSlowClock x).faults = s.faults := rfl
@[simp] theorem State.setSlowClock_notices : (s.setSlowClock x).notices = s.notices := rfl
@[simp] theorem State.setSlowClock_pending : (s.setSlowClock x).pending = s.pending := rfl
end

section
variable (s : State) (x : Time)
@[simp] theorem State.setRunTime_supply : (s.setRunTime x).supply = s.supply := rfl
@[simp] theorem State.setRunTime_mode : (s.setRunTime x).mode = s.mode := rfl
@[simp] theorem State.setRunTime_progress : (s.setRunTime x).progress = s.progress := rfl
@[simp] theorem State.setRunTime_waking : (s.setRunTime x).waking = s.waking := rfl
@[simp] theorem State.setRunTime_keep : (s.setRunTime x).keep = s.keep := rfl
@[simp] theorem State.setRunTime_slowClock : (s.setRunTime x).slowClock = s.slowClock := rfl
@[simp] theorem State.setRunTime_runTime : (s.setRunTime x).runTime = x := rfl
@[simp] theorem State.setRunTime_svc : (s.setRunTime x).svc = s.svc := rfl
@[simp] theorem State.setRunTime_params : (s.setRunTime x).params = s.params := rfl
@[simp] theorem State.setRunTime_hli : (s.setRunTime x).hli = s.hli := rfl
@[simp] theorem State.setRunTime_demand : (s.setRunTime x).demand = s.demand := rfl
@[simp] theorem State.setRunTime_nlc : (s.setRunTime x).nlc = s.nlc := rfl
@[simp] theorem State.setRunTime_nodes : (s.setRunTime x).nodes = s.nodes := rfl
@[simp] theorem State.setRunTime_bbu : (s.setRunTime x).bbu = s.bbu := rfl
@[simp] theorem State.setRunTime_psu : (s.setRunTime x).psu = s.psu := rfl
@[simp] theorem State.setRunTime_esc : (s.setRunTime x).esc = s.esc := rfl
@[simp] theorem State.setRunTime_log : (s.setRunTime x).log = s.log := rfl
@[simp] theorem State.setRunTime_wear : (s.setRunTime x).wear = s.wear := rfl
@[simp] theorem State.setRunTime_faults : (s.setRunTime x).faults = s.faults := rfl
@[simp] theorem State.setRunTime_notices : (s.setRunTime x).notices = s.notices := rfl
@[simp] theorem State.setRunTime_pending : (s.setRunTime x).pending = s.pending := rfl
end

section
variable (s : State) (x : Bool)
@[simp] theorem State.setSvc_supply : (s.setSvc x).supply = s.supply := rfl
@[simp] theorem State.setSvc_mode : (s.setSvc x).mode = s.mode := rfl
@[simp] theorem State.setSvc_progress : (s.setSvc x).progress = s.progress := rfl
@[simp] theorem State.setSvc_waking : (s.setSvc x).waking = s.waking := rfl
@[simp] theorem State.setSvc_keep : (s.setSvc x).keep = s.keep := rfl
@[simp] theorem State.setSvc_slowClock : (s.setSvc x).slowClock = s.slowClock := rfl
@[simp] theorem State.setSvc_runTime : (s.setSvc x).runTime = s.runTime := rfl
@[simp] theorem State.setSvc_svc : (s.setSvc x).svc = x := rfl
@[simp] theorem State.setSvc_params : (s.setSvc x).params = s.params := rfl
@[simp] theorem State.setSvc_hli : (s.setSvc x).hli = s.hli := rfl
@[simp] theorem State.setSvc_demand : (s.setSvc x).demand = s.demand := rfl
@[simp] theorem State.setSvc_nlc : (s.setSvc x).nlc = s.nlc := rfl
@[simp] theorem State.setSvc_nodes : (s.setSvc x).nodes = s.nodes := rfl
@[simp] theorem State.setSvc_bbu : (s.setSvc x).bbu = s.bbu := rfl
@[simp] theorem State.setSvc_psu : (s.setSvc x).psu = s.psu := rfl
@[simp] theorem State.setSvc_esc : (s.setSvc x).esc = s.esc := rfl
@[simp] theorem State.setSvc_log : (s.setSvc x).log = s.log := rfl
@[simp] theorem State.setSvc_wear : (s.setSvc x).wear = s.wear := rfl
@[simp] theorem State.setSvc_faults : (s.setSvc x).faults = s.faults := rfl
@[simp] theorem State.setSvc_notices : (s.setSvc x).notices = s.notices := rfl
@[simp] theorem State.setSvc_pending : (s.setSvc x).pending = s.pending := rfl
end

section
variable (s : State) (x : Params)
@[simp] theorem State.setParams_supply : (s.setParams x).supply = s.supply := rfl
@[simp] theorem State.setParams_mode : (s.setParams x).mode = s.mode := rfl
@[simp] theorem State.setParams_progress : (s.setParams x).progress = s.progress := rfl
@[simp] theorem State.setParams_waking : (s.setParams x).waking = s.waking := rfl
@[simp] theorem State.setParams_keep : (s.setParams x).keep = s.keep := rfl
@[simp] theorem State.setParams_slowClock : (s.setParams x).slowClock = s.slowClock := rfl
@[simp] theorem State.setParams_runTime : (s.setParams x).runTime = s.runTime := rfl
@[simp] theorem State.setParams_svc : (s.setParams x).svc = s.svc := rfl
@[simp] theorem State.setParams_params : (s.setParams x).params = x := rfl
@[simp] theorem State.setParams_hli : (s.setParams x).hli = s.hli := rfl
@[simp] theorem State.setParams_demand : (s.setParams x).demand = s.demand := rfl
@[simp] theorem State.setParams_nlc : (s.setParams x).nlc = s.nlc := rfl
@[simp] theorem State.setParams_nodes : (s.setParams x).nodes = s.nodes := rfl
@[simp] theorem State.setParams_bbu : (s.setParams x).bbu = s.bbu := rfl
@[simp] theorem State.setParams_psu : (s.setParams x).psu = s.psu := rfl
@[simp] theorem State.setParams_esc : (s.setParams x).esc = s.esc := rfl
@[simp] theorem State.setParams_log : (s.setParams x).log = s.log := rfl
@[simp] theorem State.setParams_wear : (s.setParams x).wear = s.wear := rfl
@[simp] theorem State.setParams_faults : (s.setParams x).faults = s.faults := rfl
@[simp] theorem State.setParams_notices : (s.setParams x).notices = s.notices := rfl
@[simp] theorem State.setParams_pending : (s.setParams x).pending = s.pending := rfl
end

section
variable (s : State) (x : HostLink)
@[simp] theorem State.setHli_supply : (s.setHli x).supply = s.supply := rfl
@[simp] theorem State.setHli_mode : (s.setHli x).mode = s.mode := rfl
@[simp] theorem State.setHli_progress : (s.setHli x).progress = s.progress := rfl
@[simp] theorem State.setHli_waking : (s.setHli x).waking = s.waking := rfl
@[simp] theorem State.setHli_keep : (s.setHli x).keep = s.keep := rfl
@[simp] theorem State.setHli_slowClock : (s.setHli x).slowClock = s.slowClock := rfl
@[simp] theorem State.setHli_runTime : (s.setHli x).runTime = s.runTime := rfl
@[simp] theorem State.setHli_svc : (s.setHli x).svc = s.svc := rfl
@[simp] theorem State.setHli_params : (s.setHli x).params = s.params := rfl
@[simp] theorem State.setHli_hli : (s.setHli x).hli = x := rfl
@[simp] theorem State.setHli_demand : (s.setHli x).demand = s.demand := rfl
@[simp] theorem State.setHli_nlc : (s.setHli x).nlc = s.nlc := rfl
@[simp] theorem State.setHli_nodes : (s.setHli x).nodes = s.nodes := rfl
@[simp] theorem State.setHli_bbu : (s.setHli x).bbu = s.bbu := rfl
@[simp] theorem State.setHli_psu : (s.setHli x).psu = s.psu := rfl
@[simp] theorem State.setHli_esc : (s.setHli x).esc = s.esc := rfl
@[simp] theorem State.setHli_log : (s.setHli x).log = s.log := rfl
@[simp] theorem State.setHli_wear : (s.setHli x).wear = s.wear := rfl
@[simp] theorem State.setHli_faults : (s.setHli x).faults = s.faults := rfl
@[simp] theorem State.setHli_notices : (s.setHli x).notices = s.notices := rfl
@[simp] theorem State.setHli_pending : (s.setHli x).pending = s.pending := rfl
end

section
variable (s : State) (x : DemandUnit)
@[simp] theorem State.setDemand_supply : (s.setDemand x).supply = s.supply := rfl
@[simp] theorem State.setDemand_mode : (s.setDemand x).mode = s.mode := rfl
@[simp] theorem State.setDemand_progress : (s.setDemand x).progress = s.progress := rfl
@[simp] theorem State.setDemand_waking : (s.setDemand x).waking = s.waking := rfl
@[simp] theorem State.setDemand_keep : (s.setDemand x).keep = s.keep := rfl
@[simp] theorem State.setDemand_slowClock : (s.setDemand x).slowClock = s.slowClock := rfl
@[simp] theorem State.setDemand_runTime : (s.setDemand x).runTime = s.runTime := rfl
@[simp] theorem State.setDemand_svc : (s.setDemand x).svc = s.svc := rfl
@[simp] theorem State.setDemand_params : (s.setDemand x).params = s.params := rfl
@[simp] theorem State.setDemand_hli : (s.setDemand x).hli = s.hli := rfl
@[simp] theorem State.setDemand_demand : (s.setDemand x).demand = x := rfl
@[simp] theorem State.setDemand_nlc : (s.setDemand x).nlc = s.nlc := rfl
@[simp] theorem State.setDemand_nodes : (s.setDemand x).nodes = s.nodes := rfl
@[simp] theorem State.setDemand_bbu : (s.setDemand x).bbu = s.bbu := rfl
@[simp] theorem State.setDemand_psu : (s.setDemand x).psu = s.psu := rfl
@[simp] theorem State.setDemand_esc : (s.setDemand x).esc = s.esc := rfl
@[simp] theorem State.setDemand_log : (s.setDemand x).log = s.log := rfl
@[simp] theorem State.setDemand_wear : (s.setDemand x).wear = s.wear := rfl
@[simp] theorem State.setDemand_faults : (s.setDemand x).faults = s.faults := rfl
@[simp] theorem State.setDemand_notices : (s.setDemand x).notices = s.notices := rfl
@[simp] theorem State.setDemand_pending : (s.setDemand x).pending = s.pending := rfl
end

section
variable (s : State) (x : LinkController)
@[simp] theorem State.setNlc_supply : (s.setNlc x).supply = s.supply := rfl
@[simp] theorem State.setNlc_mode : (s.setNlc x).mode = s.mode := rfl
@[simp] theorem State.setNlc_progress : (s.setNlc x).progress = s.progress := rfl
@[simp] theorem State.setNlc_waking : (s.setNlc x).waking = s.waking := rfl
@[simp] theorem State.setNlc_keep : (s.setNlc x).keep = s.keep := rfl
@[simp] theorem State.setNlc_slowClock : (s.setNlc x).slowClock = s.slowClock := rfl
@[simp] theorem State.setNlc_runTime : (s.setNlc x).runTime = s.runTime := rfl
@[simp] theorem State.setNlc_svc : (s.setNlc x).svc = s.svc := rfl
@[simp] theorem State.setNlc_params : (s.setNlc x).params = s.params := rfl
@[simp] theorem State.setNlc_hli : (s.setNlc x).hli = s.hli := rfl
@[simp] theorem State.setNlc_demand : (s.setNlc x).demand = s.demand := rfl
@[simp] theorem State.setNlc_nlc : (s.setNlc x).nlc = x := rfl
@[simp] theorem State.setNlc_nodes : (s.setNlc x).nodes = s.nodes := rfl
@[simp] theorem State.setNlc_bbu : (s.setNlc x).bbu = s.bbu := rfl
@[simp] theorem State.setNlc_psu : (s.setNlc x).psu = s.psu := rfl
@[simp] theorem State.setNlc_esc : (s.setNlc x).esc = s.esc := rfl
@[simp] theorem State.setNlc_log : (s.setNlc x).log = s.log := rfl
@[simp] theorem State.setNlc_wear : (s.setNlc x).wear = s.wear := rfl
@[simp] theorem State.setNlc_faults : (s.setNlc x).faults = s.faults := rfl
@[simp] theorem State.setNlc_notices : (s.setNlc x).notices = s.notices := rfl
@[simp] theorem State.setNlc_pending : (s.setNlc x).pending = s.pending := rfl
end

section
variable (s : State) (x : NodeTable)
@[simp] theorem State.setNodes_supply : (s.setNodes x).supply = s.supply := rfl
@[simp] theorem State.setNodes_mode : (s.setNodes x).mode = s.mode := rfl
@[simp] theorem State.setNodes_progress : (s.setNodes x).progress = s.progress := rfl
@[simp] theorem State.setNodes_waking : (s.setNodes x).waking = s.waking := rfl
@[simp] theorem State.setNodes_keep : (s.setNodes x).keep = s.keep := rfl
@[simp] theorem State.setNodes_slowClock : (s.setNodes x).slowClock = s.slowClock := rfl
@[simp] theorem State.setNodes_runTime : (s.setNodes x).runTime = s.runTime := rfl
@[simp] theorem State.setNodes_svc : (s.setNodes x).svc = s.svc := rfl
@[simp] theorem State.setNodes_params : (s.setNodes x).params = s.params := rfl
@[simp] theorem State.setNodes_hli : (s.setNodes x).hli = s.hli := rfl
@[simp] theorem State.setNodes_demand : (s.setNodes x).demand = s.demand := rfl
@[simp] theorem State.setNodes_nlc : (s.setNodes x).nlc = s.nlc := rfl
@[simp] theorem State.setNodes_nodes : (s.setNodes x).nodes = x := rfl
@[simp] theorem State.setNodes_bbu : (s.setNodes x).bbu = s.bbu := rfl
@[simp] theorem State.setNodes_psu : (s.setNodes x).psu = s.psu := rfl
@[simp] theorem State.setNodes_esc : (s.setNodes x).esc = s.esc := rfl
@[simp] theorem State.setNodes_log : (s.setNodes x).log = s.log := rfl
@[simp] theorem State.setNodes_wear : (s.setNodes x).wear = s.wear := rfl
@[simp] theorem State.setNodes_faults : (s.setNodes x).faults = s.faults := rfl
@[simp] theorem State.setNodes_notices : (s.setNodes x).notices = s.notices := rfl
@[simp] theorem State.setNodes_pending : (s.setNodes x).pending = s.pending := rfl
end

section
variable (s : State) (x : BrakeUnit)
@[simp] theorem State.setBbu_supply : (s.setBbu x).supply = s.supply := rfl
@[simp] theorem State.setBbu_mode : (s.setBbu x).mode = s.mode := rfl
@[simp] theorem State.setBbu_progress : (s.setBbu x).progress = s.progress := rfl
@[simp] theorem State.setBbu_waking : (s.setBbu x).waking = s.waking := rfl
@[simp] theorem State.setBbu_keep : (s.setBbu x).keep = s.keep := rfl
@[simp] theorem State.setBbu_slowClock : (s.setBbu x).slowClock = s.slowClock := rfl
@[simp] theorem State.setBbu_runTime : (s.setBbu x).runTime = s.runTime := rfl
@[simp] theorem State.setBbu_svc : (s.setBbu x).svc = s.svc := rfl
@[simp] theorem State.setBbu_params : (s.setBbu x).params = s.params := rfl
@[simp] theorem State.setBbu_hli : (s.setBbu x).hli = s.hli := rfl
@[simp] theorem State.setBbu_demand : (s.setBbu x).demand = s.demand := rfl
@[simp] theorem State.setBbu_nlc : (s.setBbu x).nlc = s.nlc := rfl
@[simp] theorem State.setBbu_nodes : (s.setBbu x).nodes = s.nodes := rfl
@[simp] theorem State.setBbu_bbu : (s.setBbu x).bbu = x := rfl
@[simp] theorem State.setBbu_psu : (s.setBbu x).psu = s.psu := rfl
@[simp] theorem State.setBbu_esc : (s.setBbu x).esc = s.esc := rfl
@[simp] theorem State.setBbu_log : (s.setBbu x).log = s.log := rfl
@[simp] theorem State.setBbu_wear : (s.setBbu x).wear = s.wear := rfl
@[simp] theorem State.setBbu_faults : (s.setBbu x).faults = s.faults := rfl
@[simp] theorem State.setBbu_notices : (s.setBbu x).notices = s.notices := rfl
@[simp] theorem State.setBbu_pending : (s.setBbu x).pending = s.pending := rfl
end

section
variable (s : State) (x : SplitUnit)
@[simp] theorem State.setPsu_supply : (s.setPsu x).supply = s.supply := rfl
@[simp] theorem State.setPsu_mode : (s.setPsu x).mode = s.mode := rfl
@[simp] theorem State.setPsu_progress : (s.setPsu x).progress = s.progress := rfl
@[simp] theorem State.setPsu_waking : (s.setPsu x).waking = s.waking := rfl
@[simp] theorem State.setPsu_keep : (s.setPsu x).keep = s.keep := rfl
@[simp] theorem State.setPsu_slowClock : (s.setPsu x).slowClock = s.slowClock := rfl
@[simp] theorem State.setPsu_runTime : (s.setPsu x).runTime = s.runTime := rfl
@[simp] theorem State.setPsu_svc : (s.setPsu x).svc = s.svc := rfl
@[simp] theorem State.setPsu_params : (s.setPsu x).params = s.params := rfl
@[simp] theorem State.setPsu_hli : (s.setPsu x).hli = s.hli := rfl
@[simp] theorem State.setPsu_demand : (s.setPsu x).demand = s.demand := rfl
@[simp] theorem State.setPsu_nlc : (s.setPsu x).nlc = s.nlc := rfl
@[simp] theorem State.setPsu_nodes : (s.setPsu x).nodes = s.nodes := rfl
@[simp] theorem State.setPsu_bbu : (s.setPsu x).bbu = s.bbu := rfl
@[simp] theorem State.setPsu_psu : (s.setPsu x).psu = x := rfl
@[simp] theorem State.setPsu_esc : (s.setPsu x).esc = s.esc := rfl
@[simp] theorem State.setPsu_log : (s.setPsu x).log = s.log := rfl
@[simp] theorem State.setPsu_wear : (s.setPsu x).wear = s.wear := rfl
@[simp] theorem State.setPsu_faults : (s.setPsu x).faults = s.faults := rfl
@[simp] theorem State.setPsu_notices : (s.setPsu x).notices = s.notices := rfl
@[simp] theorem State.setPsu_pending : (s.setPsu x).pending = s.pending := rfl
end

section
variable (s : State) (x : EngineUnit)
@[simp] theorem State.setEsc_supply : (s.setEsc x).supply = s.supply := rfl
@[simp] theorem State.setEsc_mode : (s.setEsc x).mode = s.mode := rfl
@[simp] theorem State.setEsc_progress : (s.setEsc x).progress = s.progress := rfl
@[simp] theorem State.setEsc_waking : (s.setEsc x).waking = s.waking := rfl
@[simp] theorem State.setEsc_keep : (s.setEsc x).keep = s.keep := rfl
@[simp] theorem State.setEsc_slowClock : (s.setEsc x).slowClock = s.slowClock := rfl
@[simp] theorem State.setEsc_runTime : (s.setEsc x).runTime = s.runTime := rfl
@[simp] theorem State.setEsc_svc : (s.setEsc x).svc = s.svc := rfl
@[simp] theorem State.setEsc_params : (s.setEsc x).params = s.params := rfl
@[simp] theorem State.setEsc_hli : (s.setEsc x).hli = s.hli := rfl
@[simp] theorem State.setEsc_demand : (s.setEsc x).demand = s.demand := rfl
@[simp] theorem State.setEsc_nlc : (s.setEsc x).nlc = s.nlc := rfl
@[simp] theorem State.setEsc_nodes : (s.setEsc x).nodes = s.nodes := rfl
@[simp] theorem State.setEsc_bbu : (s.setEsc x).bbu = s.bbu := rfl
@[simp] theorem State.setEsc_psu : (s.setEsc x).psu = s.psu := rfl
@[simp] theorem State.setEsc_esc : (s.setEsc x).esc = x := rfl
@[simp] theorem State.setEsc_log : (s.setEsc x).log = s.log := rfl
@[simp] theorem State.setEsc_wear : (s.setEsc x).wear = s.wear := rfl
@[simp] theorem State.setEsc_faults : (s.setEsc x).faults = s.faults := rfl
@[simp] theorem State.setEsc_notices : (s.setEsc x).notices = s.notices := rfl
@[simp] theorem State.setEsc_pending : (s.setEsc x).pending = s.pending := rfl
end

section
variable (s : State) (x : EventLog)
@[simp] theorem State.setLog_supply : (s.setLog x).supply = s.supply := rfl
@[simp] theorem State.setLog_mode : (s.setLog x).mode = s.mode := rfl
@[simp] theorem State.setLog_progress : (s.setLog x).progress = s.progress := rfl
@[simp] theorem State.setLog_waking : (s.setLog x).waking = s.waking := rfl
@[simp] theorem State.setLog_keep : (s.setLog x).keep = s.keep := rfl
@[simp] theorem State.setLog_slowClock : (s.setLog x).slowClock = s.slowClock := rfl
@[simp] theorem State.setLog_runTime : (s.setLog x).runTime = s.runTime := rfl
@[simp] theorem State.setLog_svc : (s.setLog x).svc = s.svc := rfl
@[simp] theorem State.setLog_params : (s.setLog x).params = s.params := rfl
@[simp] theorem State.setLog_hli : (s.setLog x).hli = s.hli := rfl
@[simp] theorem State.setLog_demand : (s.setLog x).demand = s.demand := rfl
@[simp] theorem State.setLog_nlc : (s.setLog x).nlc = s.nlc := rfl
@[simp] theorem State.setLog_nodes : (s.setLog x).nodes = s.nodes := rfl
@[simp] theorem State.setLog_bbu : (s.setLog x).bbu = s.bbu := rfl
@[simp] theorem State.setLog_psu : (s.setLog x).psu = s.psu := rfl
@[simp] theorem State.setLog_esc : (s.setLog x).esc = s.esc := rfl
@[simp] theorem State.setLog_log : (s.setLog x).log = x := rfl
@[simp] theorem State.setLog_wear : (s.setLog x).wear = s.wear := rfl
@[simp] theorem State.setLog_faults : (s.setLog x).faults = s.faults := rfl
@[simp] theorem State.setLog_notices : (s.setLog x).notices = s.notices := rfl
@[simp] theorem State.setLog_pending : (s.setLog x).pending = s.pending := rfl
end

section
variable (s : State) (x : WearUnit)
@[simp] theorem State.setWear_supply : (s.setWear x).supply = s.supply := rfl
@[simp] theorem State.setWear_mode : (s.setWear x).mode = s.mode := rfl
@[simp] theorem State.setWear_progress : (s.setWear x).progress = s.progress := rfl
@[simp] theorem State.setWear_waking : (s.setWear x).waking = s.waking := rfl
@[simp] theorem State.setWear_keep : (s.setWear x).keep = s.keep := rfl
@[simp] theorem State.setWear_slowClock : (s.setWear x).slowClock = s.slowClock := rfl
@[simp] theorem State.setWear_runTime : (s.setWear x).runTime = s.runTime := rfl
@[simp] theorem State.setWear_svc : (s.setWear x).svc = s.svc := rfl
@[simp] theorem State.setWear_params : (s.setWear x).params = s.params := rfl
@[simp] theorem State.setWear_hli : (s.setWear x).hli = s.hli := rfl
@[simp] theorem State.setWear_demand : (s.setWear x).demand = s.demand := rfl
@[simp] theorem State.setWear_nlc : (s.setWear x).nlc = s.nlc := rfl
@[simp] theorem State.setWear_nodes : (s.setWear x).nodes = s.nodes := rfl
@[simp] theorem State.setWear_bbu : (s.setWear x).bbu = s.bbu := rfl
@[simp] theorem State.setWear_psu : (s.setWear x).psu = s.psu := rfl
@[simp] theorem State.setWear_esc : (s.setWear x).esc = s.esc := rfl
@[simp] theorem State.setWear_log : (s.setWear x).log = s.log := rfl
@[simp] theorem State.setWear_wear : (s.setWear x).wear = x := rfl
@[simp] theorem State.setWear_faults : (s.setWear x).faults = s.faults := rfl
@[simp] theorem State.setWear_notices : (s.setWear x).notices = s.notices := rfl
@[simp] theorem State.setWear_pending : (s.setWear x).pending = s.pending := rfl
end

section
variable (s : State) (x : FaultUnit)
@[simp] theorem State.setFaults_supply : (s.setFaults x).supply = s.supply := rfl
@[simp] theorem State.setFaults_mode : (s.setFaults x).mode = s.mode := rfl
@[simp] theorem State.setFaults_progress : (s.setFaults x).progress = s.progress := rfl
@[simp] theorem State.setFaults_waking : (s.setFaults x).waking = s.waking := rfl
@[simp] theorem State.setFaults_keep : (s.setFaults x).keep = s.keep := rfl
@[simp] theorem State.setFaults_slowClock : (s.setFaults x).slowClock = s.slowClock := rfl
@[simp] theorem State.setFaults_runTime : (s.setFaults x).runTime = s.runTime := rfl
@[simp] theorem State.setFaults_svc : (s.setFaults x).svc = s.svc := rfl
@[simp] theorem State.setFaults_params : (s.setFaults x).params = s.params := rfl
@[simp] theorem State.setFaults_hli : (s.setFaults x).hli = s.hli := rfl
@[simp] theorem State.setFaults_demand : (s.setFaults x).demand = s.demand := rfl
@[simp] theorem State.setFaults_nlc : (s.setFaults x).nlc = s.nlc := rfl
@[simp] theorem State.setFaults_nodes : (s.setFaults x).nodes = s.nodes := rfl
@[simp] theorem State.setFaults_bbu : (s.setFaults x).bbu = s.bbu := rfl
@[simp] theorem State.setFaults_psu : (s.setFaults x).psu = s.psu := rfl
@[simp] theorem State.setFaults_esc : (s.setFaults x).esc = s.esc := rfl
@[simp] theorem State.setFaults_log : (s.setFaults x).log = s.log := rfl
@[simp] theorem State.setFaults_wear : (s.setFaults x).wear = s.wear := rfl
@[simp] theorem State.setFaults_faults : (s.setFaults x).faults = x := rfl
@[simp] theorem State.setFaults_notices : (s.setFaults x).notices = s.notices := rfl
@[simp] theorem State.setFaults_pending : (s.setFaults x).pending = s.pending := rfl
end

section
variable (s : State) (x : Vector NoticeSlot 10)
@[simp] theorem State.setNotices_supply : (s.setNotices x).supply = s.supply := rfl
@[simp] theorem State.setNotices_mode : (s.setNotices x).mode = s.mode := rfl
@[simp] theorem State.setNotices_progress : (s.setNotices x).progress = s.progress := rfl
@[simp] theorem State.setNotices_waking : (s.setNotices x).waking = s.waking := rfl
@[simp] theorem State.setNotices_keep : (s.setNotices x).keep = s.keep := rfl
@[simp] theorem State.setNotices_slowClock : (s.setNotices x).slowClock = s.slowClock := rfl
@[simp] theorem State.setNotices_runTime : (s.setNotices x).runTime = s.runTime := rfl
@[simp] theorem State.setNotices_svc : (s.setNotices x).svc = s.svc := rfl
@[simp] theorem State.setNotices_params : (s.setNotices x).params = s.params := rfl
@[simp] theorem State.setNotices_hli : (s.setNotices x).hli = s.hli := rfl
@[simp] theorem State.setNotices_demand : (s.setNotices x).demand = s.demand := rfl
@[simp] theorem State.setNotices_nlc : (s.setNotices x).nlc = s.nlc := rfl
@[simp] theorem State.setNotices_nodes : (s.setNotices x).nodes = s.nodes := rfl
@[simp] theorem State.setNotices_bbu : (s.setNotices x).bbu = s.bbu := rfl
@[simp] theorem State.setNotices_psu : (s.setNotices x).psu = s.psu := rfl
@[simp] theorem State.setNotices_esc : (s.setNotices x).esc = s.esc := rfl
@[simp] theorem State.setNotices_log : (s.setNotices x).log = s.log := rfl
@[simp] theorem State.setNotices_wear : (s.setNotices x).wear = s.wear := rfl
@[simp] theorem State.setNotices_faults : (s.setNotices x).faults = s.faults := rfl
@[simp] theorem State.setNotices_notices : (s.setNotices x).notices = x := rfl
@[simp] theorem State.setNotices_pending : (s.setNotices x).pending = s.pending := rfl
end

section
variable (s : State) (x : List Instr)
@[simp] theorem State.setPending_supply : (s.setPending x).supply = s.supply := rfl
@[simp] theorem State.setPending_mode : (s.setPending x).mode = s.mode := rfl
@[simp] theorem State.setPending_progress : (s.setPending x).progress = s.progress := rfl
@[simp] theorem State.setPending_waking : (s.setPending x).waking = s.waking := rfl
@[simp] theorem State.setPending_keep : (s.setPending x).keep = s.keep := rfl
@[simp] theorem State.setPending_slowClock : (s.setPending x).slowClock = s.slowClock := rfl
@[simp] theorem State.setPending_runTime : (s.setPending x).runTime = s.runTime := rfl
@[simp] theorem State.setPending_svc : (s.setPending x).svc = s.svc := rfl
@[simp] theorem State.setPending_params : (s.setPending x).params = s.params := rfl
@[simp] theorem State.setPending_hli : (s.setPending x).hli = s.hli := rfl
@[simp] theorem State.setPending_demand : (s.setPending x).demand = s.demand := rfl
@[simp] theorem State.setPending_nlc : (s.setPending x).nlc = s.nlc := rfl
@[simp] theorem State.setPending_nodes : (s.setPending x).nodes = s.nodes := rfl
@[simp] theorem State.setPending_bbu : (s.setPending x).bbu = s.bbu := rfl
@[simp] theorem State.setPending_psu : (s.setPending x).psu = s.psu := rfl
@[simp] theorem State.setPending_esc : (s.setPending x).esc = s.esc := rfl
@[simp] theorem State.setPending_log : (s.setPending x).log = s.log := rfl
@[simp] theorem State.setPending_wear : (s.setPending x).wear = s.wear := rfl
@[simp] theorem State.setPending_faults : (s.setPending x).faults = s.faults := rfl
@[simp] theorem State.setPending_notices : (s.setPending x).notices = s.notices := rfl
@[simp] theorem State.setPending_pending : (s.setPending x).pending = x := rfl
end

end Sys2Proof.Machine
end

