-- ==== Sys2Proof/Laws/Frames.lean ====
section
/-! SUPPORT. For every shared operation the fields it can change, stated once: what the operation adds to a frame. -/

namespace Sys2Proof.Machine

/-! ## Frames compose -/

/-- Two states that agree with a third on a field agree on it. -/
theorem Block.same_trans {s t u : State} {b : Block} (h : b.same s t) (h' : b.same t u) : b.same s u := by
  cases b <;> exact Eq.trans h' h

/-- Agreeing on a field is symmetric. -/
theorem Block.same_symm {s t : State} {b : Block} (h : b.same s t) : b.same t s := by cases b <;> exact Eq.symm h

/-- A state changes nothing of itself. -/
@[simp] theorem OnlyChanges.refl (bs : List Block) (s : State) : OnlyChanges bs s s := fun b _ => by cases b <;> rfl

/-- Frames over one list of fields compose. -/
theorem OnlyChanges.trans {bs : List Block} {s t u : State} (h : OnlyChanges bs s t) (h' : OnlyChanges bs t u) :
    OnlyChanges bs s u := fun b hb => Block.same_trans (h b hb) (h' b hb)

/-- A frame may name more fields. -/
theorem OnlyChanges.mono {as bs : List Block} {s t : State} (h : OnlyChanges as s t) (sub : as ⊆ bs) : OnlyChanges bs s t :=
  fun b hb => h b (fun ha => hb (sub ha))

/-- A step whose fields are among the listed ones adds nothing to a frame. -/
theorem OnlyChanges.step {as bs : List Block} {s t u : State} (h : OnlyChanges as t u) (sub : as ⊆ bs) :
    OnlyChanges bs s u ↔ OnlyChanges bs s t :=
  ⟨fun hu b hb => Block.same_trans (hu b hb) (Block.same_symm (h b (fun ha => hb (sub ha)))),
   fun ht => ht.trans (h.mono sub)⟩

/-- A frame over a conditional. -/
@[simp] theorem OnlyChanges.ite {bs : List Block} {s t u : State} {c : Prop} [Decidable c] :
    OnlyChanges bs s (if c then t else u) ↔ (c → OnlyChanges bs s t) ∧ (¬c → OnlyChanges bs s u) := by split <;> simp [*]

/-- A frame over the state of a conditional request outcome. -/
@[simp] theorem OnlyChanges.iteTaken {bs : List Block} {s : State} {t u : Taken} {c : Prop} [Decidable c] :
    OnlyChanges bs s (if c then t else u).state ↔ (c → OnlyChanges bs s t.state) ∧ (¬c → OnlyChanges bs s u.state) := by
  split <;> simp [*]

/-- A frame over a fold. -/
theorem OnlyChanges.foldl {α : Type} {bs : List Block} {f : State → α → State} (h : ∀ s a, OnlyChanges bs s (f s a)) :
    ∀ (l : List α) (s : State), OnlyChanges bs s (l.foldl f s)
  | [], s => .refl bs s
  | a :: l, s => (h s a).trans (OnlyChanges.foldl h l (f s a))

section
variable {bs : List Block} {s t : State}

@[simp] theorem Taken.now_state (p : List Byte) : (Taken.now t p).state = t := rfl
@[simp] theorem Taken.engine_state (st : Byte) : (Taken.engine t st).state = t := rfl
@[simp] theorem Taken.route_state (st sub : Byte) : (Taken.route t st sub).state = t := rfl
@[simp] theorem Taken.mode_state (st : Byte) (r : Reason) : (Taken.mode t st r).state = t := rfl
@[simp] theorem Taken.carried_state : (Taken.carried t).state = t := rfl
@[simp] theorem Taken.refusedFor_state (r : Reason) : (Taken.refusedFor t r).state = t := rfl
@[simp] theorem Taken.access_state (st : Byte) : (Taken.access t st).state = t := rfl

/-! ## Field updates -/

@[simp] theorem State.frame_setSupply (x : Supply) (h : [.supply] ⊆ bs) :
    OnlyChanges bs s (t.setSupply x) ↔ OnlyChanges bs s t :=
  OnlyChanges.step (fun b hb => by cases b <;> first | rfl | exact absurd (List.mem_singleton.mpr rfl) hb) h

@[simp] theorem State.frame_setMode (x : Mode) (h : [.mode] ⊆ bs) :
    OnlyChanges bs s (t.setMode x) ↔ OnlyChanges bs s t :=
  OnlyChanges.step (fun b hb => by cases b <;> first | rfl | exact absurd (List.mem_singleton.mpr rfl) hb) h

@[simp] theorem State.frame_setProgress (x : Progress) (h : [.progress] ⊆ bs) :
    OnlyChanges bs s (t.setProgress x) ↔ OnlyChanges bs s t :=
  OnlyChanges.step (fun b hb => by cases b <;> first | rfl | exact absurd (List.mem_singleton.mpr rfl) hb) h

@[simp] theorem State.frame_setWaking (x : Bool) (h : [.waking] ⊆ bs) :
    OnlyChanges bs s (t.setWaking x) ↔ OnlyChanges bs s t :=
  OnlyChanges.step (fun b hb => by cases b <;> first | rfl | exact absurd (List.mem_singleton.mpr rfl) hb) h

@[simp] theorem State.frame_setKeep (x : Bool) (h : [.keep] ⊆ bs) :
    OnlyChanges bs s (t.setKeep x) ↔ OnlyChanges bs s t :=
  OnlyChanges.step (fun b hb => by cases b <;> first | rfl | exact absurd (List.mem_singleton.mpr rfl) hb) h

@[simp] theorem State.frame_setSlowClock (x : Bool) (h : [.slowClock] ⊆ bs) :
    OnlyChanges bs s (t.setSlowClock x) ↔ OnlyChanges bs s t :=
  OnlyChanges.step (fun b hb => by cases b <;> first | rfl | exact absurd (List.mem_singleton.mpr rfl) hb) h

@[simp] theorem State.frame_setRunTime (x : Time) (h : [.runTime] ⊆ bs) :
    OnlyChanges bs s (t.setRunTime x) ↔ OnlyChanges bs s t :=
  OnlyChanges.step (fun b hb => by cases b <;> first | rfl | exact absurd (List.mem_singleton.mpr rfl) hb) h

@[simp] theorem State.frame_setSvc (x : Bool) (h : [.svc] ⊆ bs) :
    OnlyChanges bs s (t.setSvc x) ↔ OnlyChanges bs s t :=
  OnlyChanges.step (fun b hb => by cases b <;> first | rfl | exact absurd (List.mem_singleton.mpr rfl) hb) h

@[simp] theorem State.frame_setParams (x : Params) (h : [.params] ⊆ bs) :
    OnlyChanges bs s (t.setParams x) ↔ OnlyChanges bs s t :=
  OnlyChanges.step (fun b hb => by cases b <;> first | rfl | exact absurd (List.mem_singleton.mpr rfl) hb) h

@[simp] theorem State.frame_setHli (x : HostLink) (h : [.hli] ⊆ bs) :
    OnlyChanges bs s (t.setHli x) ↔ OnlyChanges bs s t :=
  OnlyChanges.step (fun b hb => by cases b <;> first | rfl | exact absurd (List.mem_singleton.mpr rfl) hb) h

@[simp] theorem State.frame_setDemand (x : DemandUnit) (h : [.demand] ⊆ bs) :
    OnlyChanges bs s (t.setDemand x) ↔ OnlyChanges bs s t :=
  OnlyChanges.step (fun b hb => by cases b <;> first | rfl | exact absurd (List.mem_singleton.mpr rfl) hb) h

@[simp] theorem State.frame_setNlc (x : LinkController) (h : [.nlc] ⊆ bs) :
    OnlyChanges bs s (t.setNlc x) ↔ OnlyChanges bs s t :=
  OnlyChanges.step (fun b hb => by cases b <;> first | rfl | exact absurd (List.mem_singleton.mpr rfl) hb) h

@[simp] theorem State.frame_setNodes (x : NodeTable) (h : [.nodes] ⊆ bs) :
    OnlyChanges bs s (t.setNodes x) ↔ OnlyChanges bs s t :=
  OnlyChanges.step (fun b hb => by cases b <;> first | rfl | exact absurd (List.mem_singleton.mpr rfl) hb) h

@[simp] theorem State.frame_setBbu (x : BrakeUnit) (h : [.bbu] ⊆ bs) :
    OnlyChanges bs s (t.setBbu x) ↔ OnlyChanges bs s t :=
  OnlyChanges.step (fun b hb => by cases b <;> first | rfl | exact absurd (List.mem_singleton.mpr rfl) hb) h

@[simp] theorem State.frame_setPsu (x : SplitUnit) (h : [.psu] ⊆ bs) :
    OnlyChanges bs s (t.setPsu x) ↔ OnlyChanges bs s t :=
  OnlyChanges.step (fun b hb => by cases b <;> first | rfl | exact absurd (List.mem_singleton.mpr rfl) hb) h

@[simp] theorem State.frame_setEsc (x : EngineUnit) (h : [.esc] ⊆ bs) :
    OnlyChanges bs s (t.setEsc x) ↔ OnlyChanges bs s t :=
  OnlyChanges.step (fun b hb => by cases b <;> first | rfl | exact absurd (List.mem_singleton.mpr rfl) hb) h

@[simp] theorem State.frame_setLog (x : EventLog) (h : [.log] ⊆ bs) :
    OnlyChanges bs s (t.setLog x) ↔ OnlyChanges bs s t :=
  OnlyChanges.step (fun b hb => by cases b <;> first | rfl | exact absurd (List.mem_singleton.mpr rfl) hb) h

@[simp] theorem State.frame_setWear (x : WearUnit) (h : [.wear] ⊆ bs) :
    OnlyChanges bs s (t.setWear x) ↔ OnlyChanges bs s t :=
  OnlyChanges.step (fun b hb => by cases b <;> first | rfl | exact absurd (List.mem_singleton.mpr rfl) hb) h

@[simp] theorem State.frame_setFaults (x : FaultUnit) (h : [.faults] ⊆ bs) :
    OnlyChanges bs s (t.setFaults x) ↔ OnlyChanges bs s t :=
  OnlyChanges.step (fun b hb => by cases b <;> first | rfl | exact absurd (List.mem_singleton.mpr rfl) hb) h

@[simp] theorem State.frame_setNotices (x : Vector NoticeSlot 10) (h : [.notices] ⊆ bs) :
    OnlyChanges bs s (t.setNotices x) ↔ OnlyChanges bs s t :=
  OnlyChanges.step (fun b hb => by cases b <;> first | rfl | exact absurd (List.mem_singleton.mpr rfl) hb) h

@[simp] theorem State.frame_setPending (x : List Instr) (h : [.pending] ⊆ bs) :
    OnlyChanges bs s (t.setPending x) ↔ OnlyChanges bs s t :=
  OnlyChanges.step (fun b hb => by cases b <;> first | rfl | exact absurd (List.mem_singleton.mpr rfl) hb) h

@[simp] theorem State.frame_setNode (n : NodeAddr) (r : NodeRecord) (h : [.nodes] ⊆ bs) :
    OnlyChanges bs s (t.setNode n r) ↔ OnlyChanges bs s t := State.frame_setNodes _ h

/-! ## Time, notices, mode -/

@[simp] theorem State.frame_advance (n : Nat) (h : [.runTime, .demand, .bbu, .esc, .nodes, .nlc, .wear] ⊆ bs) :
    OnlyChanges bs s (State.advance n t) ↔ OnlyChanges bs s t :=
  OnlyChanges.step (fun b hb => by
    cases b <;> first | rfl | exact absurd (by decide) hb) h

@[simp] theorem State.frame_notify (k : NoticeKind) (detail : Nat) (h : [.notices] ⊆ bs) :
    OnlyChanges bs s (State.notify k detail t) ↔ OnlyChanges bs s t :=
  OnlyChanges.step (by
    unfold State.notify; simp (disch := decide)) h

@[simp] theorem State.frame_enterMode (m : Mode) (h : [.mode, .hli, .notices] ⊆ bs) :
    OnlyChanges bs s (State.enterMode m t) ↔ OnlyChanges bs s t :=
  OnlyChanges.step (by
    unfold State.enterMode; simp (disch := decide)) h

/-! ## The host link -/

@[simp] theorem State.frame_ready (r : Reply) (h : [.hli] ⊆ bs) :
    OnlyChanges bs s (State.ready r t) ↔ OnlyChanges bs s t :=
  OnlyChanges.step (by
    unfold State.ready; split <;> simp (disch := decide)) h

@[simp] theorem State.frame_slowDown (h : [.slowClock] ⊆ bs) :
    OnlyChanges bs s (State.slowDown t) ↔ OnlyChanges bs s t :=
  OnlyChanges.step (by
    unfold State.slowDown; simp (disch := decide)) h

@[simp] theorem State.frame_endReply (h : [.hli, .slowClock] ⊆ bs) :
    OnlyChanges bs s (State.endReply t) ↔ OnlyChanges bs s t :=
  OnlyChanges.step (by
    unfold State.endReply; split <;> simp (disch := decide)) h

@[simp] theorem State.frame_answerBusy (tag kind : Byte) (h : [.hli] ⊆ bs) :
    OnlyChanges bs s (State.answerBusy tag kind t) ↔ OnlyChanges bs s t :=
  OnlyChanges.step (by
    unfold State.answerBusy; simp (disch := decide)) h

@[simp] theorem State.frame_takeSlot (i : Fin 4) (q : InboxRequest) (h : [.hli] ⊆ bs) :
    OnlyChanges bs s (State.takeSlot i q t) ↔ OnlyChanges bs s t :=
  OnlyChanges.step (by
    unfold State.takeSlot; simp (disch := decide)) h

@[simp] theorem State.frame_hostEdge (h : [.waking] ⊆ bs) :
    OnlyChanges bs s (State.hostEdge t) ↔ OnlyChanges bs s t :=
  OnlyChanges.step (by
    unfold State.hostEdge; simp (disch := decide)) h

/-! ## The node link -/

@[simp] theorem State.frame_startFrame (h : [.nlc] ⊆ bs) :
    OnlyChanges bs s (State.startFrame t) ↔ OnlyChanges bs s t :=
  OnlyChanges.step (by
    unfold State.startFrame; split <;> simp (disch := decide)) h

@[simp] theorem State.frame_kick (h : [.nlc] ⊆ bs) :
    OnlyChanges bs s (State.kick t) ↔ OnlyChanges bs s t :=
  OnlyChanges.step (by
    unfold State.kick; simp (disch := decide)) h

@[simp] theorem State.frame_offerAt (n : NodeAddr) (k : EntryKind) (payload : List Byte) (priority : Nat) (origin : Origin) (reply : ReplyMode)
    (h : [.nlc] ⊆ bs) :
    OnlyChanges bs s (State.offerAt n k payload priority origin reply t) ↔ OnlyChanges bs s t :=
  OnlyChanges.step (by
    unfold State.offerAt; simp (disch := decide)) h

@[simp] theorem State.frame_offer (n : NodeAddr) (k : EntryKind) (payload : List Byte) (origin : Origin)
    (h : [.nlc] ⊆ bs) :
    OnlyChanges bs s (State.offer n k payload origin t) ↔ OnlyChanges bs s t :=
  OnlyChanges.step (by
    unfold State.offer; simp (disch := decide)) h

@[simp] theorem State.frame_releaseReply (status : Byte) (code : Option Completion) (e : Entry) (h : [.hli] ⊆ bs) :
    OnlyChanges bs s (State.releaseReply status code e t) ↔ OnlyChanges bs s t :=
  OnlyChanges.step (by
    unfold State.releaseReply; split <;> simp (disch := decide)) h

@[simp] theorem State.frame_dropWaiting (picks : Entry → Bool) (code : Entry → Option Completion)
    (h : [.hli, .nlc] ⊆ bs) :
    OnlyChanges bs s (State.dropWaiting picks code t) ↔ OnlyChanges bs s t :=
  OnlyChanges.step (OnlyChanges.trans (t := t.setNlc _) (by simp (disch := decide))
      (OnlyChanges.foldl (fun s e => by simp (disch := decide)) _ _)) h

@[simp] theorem State.frame_linkCheck (h : [.nlc] ⊆ bs) :
    OnlyChanges bs s (State.linkCheck t) ↔ OnlyChanges bs s t :=
  OnlyChanges.step (by
    unfold State.linkCheck; split <;> simp (disch := decide)) h

@[simp] theorem State.frame_settle (c : Completion) (bus : Bus) (h : [.hli, .nlc, .nodes, .notices] ⊆ bs) :
    OnlyChanges bs s (State.settle c bus t) ↔ OnlyChanges bs s t :=
  OnlyChanges.step (by
    unfold State.settle; split <;> simp (disch := decide)) h

@[simp] theorem State.frame_releaseHold (n : NodeAddr) (h : [.nodes, .nlc] ⊆ bs) :
    OnlyChanges bs s (State.releaseHold n t) ↔ OnlyChanges bs s t :=
  OnlyChanges.step (by
    unfold State.releaseHold; simp (disch := decide)) h

@[simp] theorem State.frame_nodeLostQueue (n : NodeAddr) (h : [.nodes, .nlc, .hli] ⊆ bs) :
    OnlyChanges bs s (State.nodeLostQueue n t) ↔ OnlyChanges bs s t :=
  OnlyChanges.step (by
    unfold State.nodeLostQueue; simp (disch := decide)) h

@[simp] theorem State.frame_parkLink (h : [.hli, .nlc] ⊆ bs) :
    OnlyChanges bs s (State.parkLink t) ↔ OnlyChanges bs s t :=
  OnlyChanges.step (by
    unfold State.parkLink; simp (disch := decide)) h

@[simp] theorem State.frame_offerHalt (n : NodeAddr) (k : EntryKind) (payload : List Byte) (h : [.nlc] ⊆ bs) :
    OnlyChanges bs s (State.offerHalt n k payload t) ↔ OnlyChanges bs s t :=
  OnlyChanges.step (by
    unfold State.offerHalt; simp (disch := decide)) h

@[simp] theorem State.frame_haltLink (h : [.hli, .nlc] ⊆ bs) :
    OnlyChanges bs s (State.haltLink t) ↔ OnlyChanges bs s t :=
  OnlyChanges.step (by
    unfold State.haltLink; simp (disch := decide)) h

@[simp] theorem State.frame_rejoinLink (h : [.hli, .nlc] ⊆ bs) :
    OnlyChanges bs s (State.rejoinLink t) ↔ OnlyChanges bs s t :=
  OnlyChanges.step (OnlyChanges.trans (t := t.setNlc _) (by simp (disch := decide))
      (OnlyChanges.foldl (fun s e => by simp (disch := decide)) _ _)) h

@[simp] theorem State.frame_nodeEdge (h : [.waking] ⊆ bs) :
    OnlyChanges bs s (State.nodeEdge t) ↔ OnlyChanges bs s t :=
  OnlyChanges.step (by
    unfold State.nodeEdge; simp (disch := decide)) h

@[simp] theorem State.frame_levelAfter (dominant : Bool) (h : [.waking] ⊆ bs) :
    OnlyChanges bs s (State.levelAfter dominant t) ↔ OnlyChanges bs s t :=
  OnlyChanges.step (by
    unfold State.levelAfter; simp (disch := decide)) h

/-! ## The Fault Monitor -/

@[simp] theorem State.frame_noteRestriction (before : State) (h : [.notices] ⊆ bs) :
    OnlyChanges bs s (State.noteRestriction t before) ↔ OnlyChanges bs s t :=
  OnlyChanges.step (by
    unfold State.noteRestriction; simp (disch := decide)) h

@[simp] theorem State.frame_raiseCore (k : FaultKind) (detail : Nat) (h : [.faults, .notices] ⊆ bs) :
    OnlyChanges bs s (State.raiseCore k detail t) ↔ OnlyChanges bs s t :=
  OnlyChanges.step (by
    unfold State.raiseCore; simp (disch := decide)) h

@[simp] theorem State.frame_removeFault (k : FaultKind) (h : [.faults, .notices] ⊆ bs) :
    OnlyChanges bs s (State.removeFault k t) ↔ OnlyChanges bs s t :=
  OnlyChanges.step (by
    unfold State.removeFault; simp (disch := decide)) h

@[simp] theorem State.frame_endCause (k : FaultKind) (h : [.faults, .notices] ⊆ bs) :
    OnlyChanges bs s (State.endCause k t) ↔ OnlyChanges bs s t :=
  OnlyChanges.step (by
    unfold State.endCause; simp (disch := decide); split <;> simp (disch := decide)) h

@[simp] theorem State.frame_endCauses (ks : List FaultKind) (h : [.faults, .notices] ⊆ bs) :
    OnlyChanges bs s (State.endCauses ks t) ↔ OnlyChanges bs s t :=
  OnlyChanges.step (OnlyChanges.foldl (fun s k => by simp (disch := decide)) _ _) h

@[simp] theorem State.frame_takeFaultClear (data : List Byte) (h : [.faults, .notices] ⊆ bs) :
    OnlyChanges bs s (State.takeFaultClear data t).state ↔ OnlyChanges bs s t :=
  OnlyChanges.step (by
    unfold State.takeFaultClear; dsimp only; repeat' split
    all_goals simp (disch := decide)) h

@[simp] theorem State.frame_takeResponseSet (data : List Byte) (h : [.faults] ⊆ bs) :
    OnlyChanges bs s (State.takeResponseSet data t).state ↔ OnlyChanges bs s t :=
  OnlyChanges.step (by
    unfold State.takeResponseSet; simp (disch := decide); split <;> simp (disch := decide)) h

@[simp] theorem State.frame_takeFaults (page : Byte) : (State.takeFaults page t).state = t := by
  unfold State.takeFaults; split
  · rfl
  · split <;> rfl

@[simp] theorem State.frame_takeNotices (h : [.notices] ⊆ bs) :
    OnlyChanges bs s (State.takeNotices t).state ↔ OnlyChanges bs s t :=
  OnlyChanges.step (by
    unfold State.takeNotices; simp (disch := decide)) h

/-! ## Wear -/

@[simp] theorem State.frame_setWearItem (k : WearKind) (w : WearItem) (h : [.wear] ⊆ bs) :
    OnlyChanges bs s (State.setWearItem k w t) ↔ OnlyChanges bs s t :=
  OnlyChanges.step (by
    unfold State.setWearItem; simp (disch := decide)) h

@[simp] theorem State.frame_putWear (k : WearKind) (w : WearItem) (h : [.wear, .notices] ⊆ bs) :
    OnlyChanges bs s (State.putWear k w t) ↔ OnlyChanges bs s t :=
  OnlyChanges.step (by
    unfold State.putWear; simp (disch := decide)) h

@[simp] theorem State.frame_accrue (k : WearKind) (value remainder : Nat) (h : [.wear, .notices] ⊆ bs) :
    OnlyChanges bs s (State.accrue k value remainder t) ↔ OnlyChanges bs s t :=
  OnlyChanges.step (by
    unfold State.accrue; simp (disch := decide)) h

@[simp] theorem State.frame_addEnergy (k : WearKind) (unit amount : Nat) (h : [.wear, .notices] ⊆ bs) :
    OnlyChanges bs s (State.addEnergy k unit amount t) ↔ OnlyChanges bs s t :=
  OnlyChanges.step (by
    unfold State.addEnergy; simp (disch := decide)) h

@[simp] theorem State.frame_recheckWear (h : [.wear, .notices] ⊆ bs) :
    OnlyChanges bs s (State.recheckWear t) ↔ OnlyChanges bs s t :=
  OnlyChanges.step (OnlyChanges.foldl (fun s k => by simp (disch := decide)) _ _) h

@[simp] theorem State.frame_padAxle (left right : WearKind) (temps : Option Int × Option Int) (joules : Nat)
    (h : [.wear, .notices] ⊆ bs) :
    OnlyChanges bs s (State.padAxle left right temps joules t) ↔ OnlyChanges bs s t :=
  OnlyChanges.step (by
    unfold State.padAxle; simp (disch := decide)) h

@[simp] theorem State.frame_padWear (front rear : Nat) (h : [.wear, .notices] ⊆ bs) :
    OnlyChanges bs s (State.padWear front rear t) ↔ OnlyChanges bs s t :=
  OnlyChanges.step (by
    unfold State.padWear; simp (disch := decide)) h

@[simp] theorem State.frame_batteryWear (r : BatReport) (since : Nat) (h : [.wear, .notices] ⊆ bs) :
    OnlyChanges bs s (State.batteryWear r since t) ↔ OnlyChanges bs s t :=
  OnlyChanges.step (by
    unfold State.batteryWear; simp (disch := decide)) h

@[simp] theorem State.frame_startWear (h : [.wear, .notices] ⊆ bs) :
    OnlyChanges bs s (State.startWear t) ↔ OnlyChanges bs s t :=
  OnlyChanges.step (by
    unfold State.startWear; simp (disch := decide)) h

@[simp] theorem State.frame_saveTrigger (n : Triggers) (h : [.wear] ⊆ bs) :
    OnlyChanges bs s (State.saveTrigger n t) ↔ OnlyChanges bs s t :=
  OnlyChanges.step (by
    unfold State.saveTrigger; simp (disch := decide)) h

@[simp] theorem State.frame_loadGood (bytes : List Byte) (h : [.wear] ⊆ bs) :
    OnlyChanges bs s (State.loadGood bytes t) ↔ OnlyChanges bs s t :=
  OnlyChanges.step (OnlyChanges.trans (OnlyChanges.foldl (fun s k => by simp (disch := decide)) _ _)
      ((State.frame_setWear _ (by decide)).mpr (.refl _ _))) h

@[simp] theorem State.frame_loadBad (h : [.wear] ⊆ bs) :
    OnlyChanges bs s (State.loadBad t) ↔ OnlyChanges bs s t :=
  OnlyChanges.step (by
    unfold State.loadBad; simp (disch := decide)) h

@[simp] theorem State.frame_endSave (job : SaveJob) (readBack : Option (List Byte)) (h : [.wear, .notices] ⊆ bs) :
    OnlyChanges bs s (State.endSave job readBack t) ↔ OnlyChanges bs s t :=
  OnlyChanges.step (by
    unfold State.endSave; simp (disch := decide)) h

@[simp] theorem State.frame_takeWearRead  : (State.takeWearRead t).state = t := by
  rfl

@[simp] theorem State.frame_resetWear (k : WearKind) (value : Nat) (h : [.wear, .faults, .notices] ⊆ bs) :
    OnlyChanges bs s (State.resetWear k value t) ↔ OnlyChanges bs s t :=
  OnlyChanges.step (by
    unfold State.resetWear; simp (disch := decide)) h

@[simp] theorem State.frame_takeWearReset (data : List Byte) (h : [.wear, .faults, .notices] ⊆ bs) :
    OnlyChanges bs s (State.takeWearReset data t).state ↔ OnlyChanges bs s t :=
  OnlyChanges.step (by
    unfold State.takeWearReset; simp (disch := decide); split <;> simp (disch := decide)) h

/-! ## The event log -/

@[simp] theorem State.frame_logBlend (b : FedBlend) (h : [.log] ⊆ bs) :
    OnlyChanges bs s (State.logBlend b t) ↔ OnlyChanges bs s t :=
  OnlyChanges.step (by
    unfold State.logBlend; simp (disch := decide)) h

@[simp] theorem State.frame_closeEvent (reason : EndReason) (h : [.log, .notices] ⊆ bs) :
    OnlyChanges bs s (State.closeEvent reason t) ↔ OnlyChanges bs s t :=
  OnlyChanges.step (by
    unfold State.closeEvent; split <;> simp (disch := decide)) h

@[simp] theorem State.frame_takeEvents (data : List Byte) : (State.takeEvents data t).state = t := by
  rfl

/-! ## The engine -/

@[simp] theorem State.frame_endEngineWait (h : [.progress, .wear] ⊆ bs) :
    OnlyChanges bs s (State.endEngineWait t) ↔ OnlyChanges bs s t :=
  OnlyChanges.step (by
    unfold State.endEngineWait; simp (disch := decide)) h

@[simp] theorem State.frame_setEngine (m : EngineState) (h : [.progress, .esc, .wear, .faults, .notices] ⊆ bs) :
    OnlyChanges bs s (State.setEngine m t) ↔ OnlyChanges bs s t :=
  OnlyChanges.step (by
    unfold State.setEngine; simp (disch := decide)) h

@[simp] theorem State.frame_offerNoForce (h : [.nlc] ⊆ bs) :
    OnlyChanges bs s (State.offerNoForce t) ↔ OnlyChanges bs s t :=
  OnlyChanges.step (by
    unfold State.offerNoForce; simp (disch := decide)) h

@[simp] theorem State.frame_offerStop (h : [.nlc] ⊆ bs) :
    OnlyChanges bs s (State.offerStop t) ↔ OnlyChanges bs s t :=
  OnlyChanges.step (by
    unfold State.offerStop; simp (disch := decide)) h

@[simp] theorem State.frame_offerStart (h : [.nlc, .wear, .notices] ⊆ bs) :
    OnlyChanges bs s (State.offerStart t) ↔ OnlyChanges bs s t :=
  OnlyChanges.step (by
    unfold State.offerStart; simp (disch := decide)) h

@[simp] theorem State.frame_enterStopping (h : engineBlocks ⊆ bs) :
    OnlyChanges bs s (State.enterStopping t) ↔ OnlyChanges bs s t :=
  OnlyChanges.step (by
    unfold State.enterStopping; simp (disch := decide)) h

@[simp] theorem State.frame_enterCooldown (c : StopCause) (h : engineBlocks ⊆ bs) :
    OnlyChanges bs s (State.enterCooldown c t) ↔ OnlyChanges bs s t :=
  OnlyChanges.step (by
    unfold State.enterCooldown; simp (disch := decide)) h

@[simp] theorem State.frame_abandonCrank (c : StopCause) (h : engineBlocks ⊆ bs) :
    OnlyChanges bs s (State.abandonCrank c t) ↔ OnlyChanges bs s t :=
  OnlyChanges.step (by
    unfold State.abandonCrank; simp (disch := decide)) h

@[simp] theorem State.frame_enterCranking (c : CrankCause) (h : engineBlocks ⊆ bs) :
    OnlyChanges bs s (State.enterCranking c t) ↔ OnlyChanges bs s t :=
  OnlyChanges.step (by
    unfold State.enterCranking; simp (disch := decide)) h

@[simp] theorem State.frame_stopRunning (c : StopCause) (immediate : Bool) (h : engineBlocks ⊆ bs) :
    OnlyChanges bs s (State.stopRunning c immediate t) ↔ OnlyChanges bs s t :=
  OnlyChanges.step (by
    unfold State.stopRunning; simp (disch := decide)) h

@[simp] theorem State.frame_stopCranking (c : StopCause) (h : engineBlocks ⊆ bs) :
    OnlyChanges bs s (State.stopCranking c t) ↔ OnlyChanges bs s t :=
  OnlyChanges.step (by
    unfold State.stopCranking; split <;> simp (disch := decide)) h

@[simp] theorem State.frame_stopCooling (c : StopCause) (immediate : Bool) (h : engineBlocks ⊆ bs) :
    OnlyChanges bs s (State.stopCooling c immediate t) ↔ OnlyChanges bs s t :=
  OnlyChanges.step (by
    unfold State.stopCooling; split <;> simp (disch := decide)) h

@[simp] theorem State.frame_stopStopping (c : StopCause) (h : engineBlocks ⊆ bs) :
    OnlyChanges bs s (State.stopStopping c t) ↔ OnlyChanges bs s t :=
  OnlyChanges.step (by
    unfold State.stopStopping; simp (disch := decide)) h

@[simp] theorem State.frame_stopCause (c : StopCause) (immediate : Bool) (h : engineBlocks ⊆ bs) :
    OnlyChanges bs s (State.stopCause c immediate t) ↔ OnlyChanges bs s t :=
  OnlyChanges.step (by
    unfold State.stopCause; split <;> simp (disch := decide)) h

@[simp] theorem State.frame_safeCause (h : engineBlocks ⊆ bs) :
    OnlyChanges bs s (State.safeCause t) ↔ OnlyChanges bs s t :=
  OnlyChanges.step (by
    unfold State.safeCause; simp (disch := decide)) h

@[simp] theorem State.frame_returnToRun (h : [.progress, .esc, .wear, .faults, .notices] ⊆ bs) :
    OnlyChanges bs s (State.returnToRun t) ↔ OnlyChanges bs s t :=
  OnlyChanges.step (by
    unfold State.returnToRun; simp (disch := decide)) h

@[simp] theorem State.frame_evaluateStart (h : engineBlocks ⊆ bs) :
    OnlyChanges bs s (State.evaluateStart t) ↔ OnlyChanges bs s t :=
  OnlyChanges.step (by
    unfold State.evaluateStart; repeat' split
    all_goals simp (disch := decide)) h

@[simp] theorem State.frame_elapsedHandOn (h : engineBlocks ⊆ bs) :
    OnlyChanges bs s (State.elapsedHandOn t) ↔ OnlyChanges bs s t :=
  OnlyChanges.step (by
    unfold State.elapsedHandOn; simp (disch := decide)) h

@[simp] theorem State.frame_scheduleDue (h : engineBlocks ⊆ bs) :
    OnlyChanges bs s (State.scheduleDue t) ↔ OnlyChanges bs s t :=
  OnlyChanges.step (by
    unfold State.scheduleDue; simp (disch := decide)) h

@[simp] theorem State.frame_putSchedule (sch : Schedule) (h : engineBlocks ⊆ bs) :
    OnlyChanges bs s (State.putSchedule sch t) ↔ OnlyChanges bs s t :=
  OnlyChanges.step (by
    unfold State.putSchedule; simp (disch := decide)) h

@[simp] theorem State.frame_scheduleStop (h : engineBlocks ⊆ bs) :
    OnlyChanges bs s (State.scheduleStop t) ↔ OnlyChanges bs s t :=
  OnlyChanges.step (by
    unfold State.scheduleStop; split <;> simp (disch := decide)) h

@[simp] theorem State.frame_scheduleMetres (n : Nat) (h : engineBlocks ⊆ bs) :
    OnlyChanges bs s (State.scheduleMetres n t) ↔ OnlyChanges bs s t :=
  OnlyChanges.step (by
    unfold State.scheduleMetres; split <;> simp (disch := decide)) h

/-! ## Braking -/

@[simp] theorem State.frame_offerBlend (r : BlendResult) (h : [.nlc] ⊆ bs) :
    OnlyChanges bs s (State.offerBlend r t) ↔ OnlyChanges bs s t :=
  OnlyChanges.step (by
    unfold State.offerBlend; simp (disch := decide)) h

/-- A raise whose hand-on keeps to these fields keeps to them. -/
theorem State.frame_raiseWith {cut : State → State} (hc : ∀ u, OnlyChanges raiseBlocks u (cut u))
    (k : FaultKind) (detail : Nat) :
    OnlyChanges raiseBlocks t (State.raiseWith cut k detail t) := by
  unfold State.raiseWith; dsimp only; split
  · exact OnlyChanges.trans (t := cut (State.raiseCore k detail t)) (OnlyChanges.trans (by simp (disch := decide)) (hc _))
      (by simp (disch := decide))
  · simp (disch := decide)

/-- A blend whose raises keep to these fields keeps to them. -/
theorem State.frame_applyBlend {cut : State → State} (hc : ∀ u, OnlyChanges raiseBlocks u (cut u))
    (slipCut : Bool) (dt : Nat) (r : BlendResult) :
    OnlyChanges raiseBlocks t (State.applyBlend cut slipCut dt r t) := by
  have hs : ∀ u, OnlyChanges raiseBlocks u (State.saturation cut r u) := fun u => by
    unfold State.saturation; split
    · exact OnlyChanges.trans (by simp (disch := decide)) (State.frame_raiseWith hc _ _)
    · simp (disch := decide)
  exact OnlyChanges.trans (by simp (disch := decide)) (hs _)

@[simp] theorem State.frame_cutReblend (slipCut : Bool) (h : raiseBlocks ⊆ bs) :
    OnlyChanges bs s (State.cutReblend slipCut t) ↔ OnlyChanges bs s t :=
  OnlyChanges.step (by
    unfold State.cutReblend; split
    · exact State.frame_applyBlend (fun u => .refl _ u) _ _ _
    · simp) h

@[simp] theorem State.frame_heldBlend (h : raiseBlocks ⊆ bs) :
    OnlyChanges bs s (State.heldBlend t) ↔ OnlyChanges bs s t :=
  OnlyChanges.step (by
    unfold State.heldBlend; split
    · exact State.frame_applyBlend (fun u => by simp (disch := decide)) _ _ _
    · simp) h

@[simp] theorem State.frame_demandBlend (dt : Nat) (h : raiseBlocks ⊆ bs) :
    OnlyChanges bs s (State.demandBlend dt t) ↔ OnlyChanges bs s t :=
  OnlyChanges.step (State.frame_applyBlend (fun u => by simp (disch := decide)) _ _ _) h

@[simp] theorem State.frame_raise (k : FaultKind) (detail : Nat) (h : raiseBlocks ⊆ bs) :
    OnlyChanges bs s (State.raise k detail t) ↔ OnlyChanges bs s t :=
  OnlyChanges.step (State.frame_raiseWith (fun u => by simp (disch := decide)) _ _) h

@[simp] theorem State.frame_leaveBraking (reason : EndReason) (h : [.bbu, .log, .faults, .notices] ⊆ bs) :
    OnlyChanges bs s (State.leaveBraking reason t) ↔ OnlyChanges bs s t :=
  OnlyChanges.step (by
    unfold State.leaveBraking; simp (disch := decide)) h

@[simp] theorem State.frame_slipReport (h : raiseBlocks ⊆ bs) :
    OnlyChanges bs s (State.slipReport t) ↔ OnlyChanges bs s t :=
  OnlyChanges.step (by
    unfold State.slipReport; simp (disch := decide)) h

@[simp] theorem State.frame_retimeSlip (h : [.bbu] ⊆ bs) :
    OnlyChanges bs s (State.retimeSlip t) ↔ OnlyChanges bs s t :=
  OnlyChanges.step (by
    unfold State.retimeSlip; split <;> simp (disch := decide)) h

@[simp] theorem State.frame_reserveWatch (h : raiseBlocks ⊆ bs) :
    OnlyChanges bs s (State.reserveWatch t) ↔ OnlyChanges bs s t :=
  OnlyChanges.step (by
    unfold State.reserveWatch; split <;> simp (disch := decide)) h

@[simp] theorem State.frame_endReserve (h : [.faults, .notices] ⊆ bs) :
    OnlyChanges bs s (State.endReserve t) ↔ OnlyChanges bs s t :=
  OnlyChanges.step (by
    unfold State.endReserve; simp (disch := decide)) h

/-! ## Propulsion -/

@[simp] theorem State.frame_updateElapsed (dt : Nat) (h : .psu :: engineBlocks ⊆ bs) :
    OnlyChanges bs s (State.updateElapsed dt t) ↔ OnlyChanges bs s t :=
  OnlyChanges.step (by
    unfold State.updateElapsed; simp (disch := decide)) h

@[simp] theorem State.frame_setSplit (r : SplitResult) (h : [.psu] ⊆ bs) :
    OnlyChanges bs s (State.setSplit r t) ↔ OnlyChanges bs s t :=
  OnlyChanges.step (by
    unfold State.setSplit; simp (disch := decide)) h

@[simp] theorem State.frame_offerTorque (n : Int) (h : [.nlc] ⊆ bs) :
    OnlyChanges bs s (State.offerTorque n t) ↔ OnlyChanges bs s t :=
  OnlyChanges.step (by
    unfold State.offerTorque; simp (disch := decide)) h

@[simp] theorem State.frame_offerForce (units : Nat) (h : [.nlc] ⊆ bs) :
    OnlyChanges bs s (State.offerForce units t) ↔ OnlyChanges bs s t :=
  OnlyChanges.step (by
    unfold State.offerForce; simp (disch := decide)) h

@[simp] theorem State.frame_demandSplit (dt : Nat) (h : .psu :: engineBlocks ⊆ bs) :
    OnlyChanges bs s (State.demandSplit dt t) ↔ OnlyChanges bs s t :=
  OnlyChanges.step (by
    unfold State.demandSplit; simp (disch := decide)) h

@[simp] theorem State.frame_brakingHandOn (dt : Nat) (h : .psu :: engineBlocks ⊆ bs) :
    OnlyChanges bs s (State.brakingHandOn dt t) ↔ OnlyChanges bs s t :=
  OnlyChanges.step (by
    unfold State.brakingHandOn; simp (disch := decide)) h

@[simp] theorem State.frame_heldSplit (h : .psu :: engineBlocks ⊆ bs) :
    OnlyChanges bs s (State.heldSplit t) ↔ OnlyChanges bs s t :=
  OnlyChanges.step (by
    unfold State.heldSplit; simp (disch := decide)) h

@[simp] theorem State.frame_resetSplit (h : [.psu] ⊆ bs) :
    OnlyChanges bs s (State.resetSplit t) ↔ OnlyChanges bs s t :=
  OnlyChanges.step (by
    unfold State.resetSplit; simp (disch := decide)) h

/-! ## Engine events -/

@[simp] theorem State.frame_startSucceeds (coolant : Int) (h : engineBlocks ⊆ bs) :
    OnlyChanges bs s (State.startSucceeds coolant t) ↔ OnlyChanges bs s t :=
  OnlyChanges.step (by
    unfold State.startSucceeds; simp (disch := decide)) h

@[simp] theorem State.frame_attemptFails (h : raiseBlocks ⊆ bs) :
    OnlyChanges bs s (State.attemptFails t) ↔ OnlyChanges bs s t :=
  OnlyChanges.step (by
    unfold State.attemptFails; simp (disch := decide)) h

@[simp] theorem State.frame_stall (h : engineBlocks ⊆ bs) :
    OnlyChanges bs s (State.stall t) ↔ OnlyChanges bs s t :=
  OnlyChanges.step (by
    unfold State.stall; simp (disch := decide)) h

@[simp] theorem State.frame_reportedEngineFault (h : engineBlocks ⊆ bs) :
    OnlyChanges bs s (State.reportedEngineFault t) ↔ OnlyChanges bs s t :=
  OnlyChanges.step (by
    unfold State.reportedEngineFault; simp (disch := decide)) h

@[simp] theorem State.frame_stopEnds (h : engineBlocks ⊆ bs) :
    OnlyChanges bs s (State.stopEnds t) ↔ OnlyChanges bs s t :=
  OnlyChanges.step (by
    unfold State.stopEnds; dsimp only; split <;> simp (disch := decide)) h

@[simp] theorem State.frame_reportInWarmup (r : EngReport) (h : engineBlocks ⊆ bs) :
    OnlyChanges bs s (State.reportInWarmup r t) ↔ OnlyChanges bs s t :=
  OnlyChanges.step (by
    unfold State.reportInWarmup; split <;> simp (disch := decide)) h

@[simp] theorem State.frame_reportInRun (r : EngReport) (h : engineBlocks ⊆ bs) :
    OnlyChanges bs s (State.reportInRun r t) ↔ OnlyChanges bs s t :=
  OnlyChanges.step (by
    unfold State.reportInRun; split <;> simp (disch := decide)) h

@[simp] theorem State.frame_reportInStopping (r : EngReport) (h : engineBlocks ⊆ bs) :
    OnlyChanges bs s (State.reportInStopping r t) ↔ OnlyChanges bs s t :=
  OnlyChanges.step (by
    unfold State.reportInStopping; split <;> simp (disch := decide)) h

@[simp] theorem State.frame_reportInCranking (r : EngReport) (h : raiseBlocks ⊆ bs) :
    OnlyChanges bs s (State.reportInCranking r t) ↔ OnlyChanges bs s t :=
  OnlyChanges.step (by
    unfold State.reportInCranking; split <;> simp (disch := decide)) h

@[simp] theorem State.frame_reportInRetry (r : EngReport) (h : engineBlocks ⊆ bs) :
    OnlyChanges bs s (State.reportInRetry r t) ↔ OnlyChanges bs s t :=
  OnlyChanges.step (by
    unfold State.reportInRetry; simp (disch := decide)) h

@[simp] theorem State.frame_engineReport (r : EngReport) (h : raiseBlocks ⊆ bs) :
    OnlyChanges bs s (State.engineReport r t) ↔ OnlyChanges bs s t :=
  OnlyChanges.step (by
    unfold State.engineReport; simp (disch := decide); split <;> simp (disch := decide)) h

@[simp] theorem State.frame_engineLost (h : engineBlocks ⊆ bs) :
    OnlyChanges bs s (State.engineLost t) ↔ OnlyChanges bs s t :=
  OnlyChanges.step (by
    unfold State.engineLost; simp (disch := decide)) h

@[simp] theorem State.frame_restExpires (h : engineBlocks ⊆ bs) :
    OnlyChanges bs s (State.restExpires t) ↔ OnlyChanges bs s t :=
  OnlyChanges.step (by
    unfold State.restExpires; simp (disch := decide)) h

@[simp] theorem State.frame_cooldownExpires (h : engineBlocks ⊆ bs) :
    OnlyChanges bs s (State.cooldownExpires t) ↔ OnlyChanges bs s t :=
  OnlyChanges.step (by
    unfold State.cooldownExpires; simp (disch := decide)) h

@[simp] theorem State.frame_stopExpires (h : raiseBlocks ⊆ bs) :
    OnlyChanges bs s (State.stopExpires t) ↔ OnlyChanges bs s t :=
  OnlyChanges.step (by
    unfold State.stopExpires; simp (disch := decide)) h

@[simp] theorem State.frame_hostStart (override : Bool) (h : engineBlocks ⊆ bs) :
    OnlyChanges bs s (State.hostStart override t).state ↔ OnlyChanges bs s t :=
  OnlyChanges.step (by
    unfold State.hostStart; split <;> simp (disch := decide)) h

@[simp] theorem State.frame_takeEngineStart (data : List Byte) (h : engineBlocks ⊆ bs) :
    OnlyChanges bs s (State.takeEngineStart data t).state ↔ OnlyChanges bs s t :=
  OnlyChanges.step (by
    unfold State.takeEngineStart; simp (disch := decide)) h

@[simp] theorem State.frame_takeEngineStop (data : List Byte) (h : engineBlocks ⊆ bs) :
    OnlyChanges bs s (State.takeEngineStop data t).state ↔ OnlyChanges bs s t :=
  OnlyChanges.step (by
    unfold State.takeEngineStop; simp (disch := decide)) h

@[simp] theorem State.frame_takeAutoOn (h : engineBlocks ⊆ bs) :
    OnlyChanges bs s (State.takeAutoOn t).state ↔ OnlyChanges bs s t :=
  OnlyChanges.step (by
    unfold State.takeAutoOn; simp (disch := decide)) h

@[simp] theorem State.frame_takeAutoOff (h : [.esc] ⊆ bs) :
    OnlyChanges bs s (State.takeAutoOff t).state ↔ OnlyChanges bs s t :=
  OnlyChanges.step (by
    unfold State.takeAutoOff; simp (disch := decide)) h

@[simp] theorem State.frame_leaveFault (m : EngineState) (h : [.progress, .esc, .wear, .faults, .notices] ⊆ bs) :
    OnlyChanges bs s (State.leaveFault m t) ↔ OnlyChanges bs s t :=
  OnlyChanges.step (by
    unfold State.leaveFault; simp (disch := decide)) h

@[simp] theorem State.frame_takeResetFault (h : [.progress, .esc, .wear, .faults, .notices] ⊆ bs) :
    OnlyChanges bs s (State.takeResetFault t).state ↔ OnlyChanges bs s t :=
  OnlyChanges.step (by
    unfold State.takeResetFault; simp (disch := decide); split <;> simp (disch := decide)) h

@[simp] theorem State.frame_takeZoneEnter (h : .demand :: raiseBlocks ⊆ bs) :
    OnlyChanges bs s (State.takeZoneEnter t).state ↔ OnlyChanges bs s t :=
  OnlyChanges.step (by
    unfold State.takeZoneEnter; simp (disch := decide)) h

@[simp] theorem State.frame_takeZoneExit (h : .demand :: engineBlocks ⊆ bs) :
    OnlyChanges bs s (State.takeZoneExit t).state ↔ OnlyChanges bs s t :=
  OnlyChanges.step (by
    unfold State.takeZoneExit; simp (disch := decide)) h

@[simp] theorem State.frame_takeSchedule (data : List Byte) (h : engineBlocks ⊆ bs) :
    OnlyChanges bs s (State.takeSchedule data t).state ↔ OnlyChanges bs s t :=
  OnlyChanges.step (by
    unfold State.takeSchedule; simp (disch := decide)) h

@[simp] theorem State.frame_takeCancel (h : [.esc] ⊆ bs) :
    OnlyChanges bs s (State.takeCancel t).state ↔ OnlyChanges bs s t :=
  OnlyChanges.step (by
    unfold State.takeCancel; simp (disch := decide)) h

/-! ## Reports -/

@[simp] theorem State.frame_endPresenceFaults (n : NodeAddr) (h : [.faults, .notices] ⊆ bs) :
    OnlyChanges bs s (State.endPresenceFaults n t) ↔ OnlyChanges bs s t :=
  OnlyChanges.step (by
    unfold State.endPresenceFaults; split <;> simp (disch := decide)) h

@[simp] theorem State.frame_actReported (n : NodeAddr) (before : Bool) (h : raiseBlocks ⊆ bs) :
    OnlyChanges bs s (State.actReported n before t) ↔ OnlyChanges bs s t :=
  OnlyChanges.step (by
    unfold State.actReported; split <;> simp (disch := decide)) h

@[simp] theorem State.frame_becomeStale (n : NodeAddr) (h : .nodes :: raiseBlocks ⊆ bs) :
    OnlyChanges bs s (State.becomeStale n t) ↔ OnlyChanges bs s t :=
  OnlyChanges.step (by
    unfold State.becomeStale; simp (disch := decide)) h

@[simp] theorem State.frame_handLoss (n : NodeAddr) (h : .nodes :: .hli :: raiseBlocks ⊆ bs) :
    OnlyChanges bs s (State.handLoss n t) ↔ OnlyChanges bs s t :=
  OnlyChanges.step (by
    unfold State.handLoss; simp (disch := decide)) h

@[simp] theorem State.frame_becomeLost (n : NodeAddr) (h : .nodes :: .hli :: raiseBlocks ⊆ bs) :
    OnlyChanges bs s (State.becomeLost n t) ↔ OnlyChanges bs s t :=
  OnlyChanges.step (by
    unfold State.becomeLost; split <;> simp (disch := decide)) h

@[simp] theorem State.frame_retimeStale (n : NodeAddr) (h : .nodes :: raiseBlocks ⊆ bs) :
    OnlyChanges bs s (State.retimeStale n t) ↔ OnlyChanges bs s t :=
  OnlyChanges.step (by
    unfold State.retimeStale; split <;> simp (disch := decide)) h

@[simp] theorem State.frame_retimeLost (n : NodeAddr) (h : .nodes :: .hli :: raiseBlocks ⊆ bs) :
    OnlyChanges bs s (State.retimeLost n t) ↔ OnlyChanges bs s t :=
  OnlyChanges.step (by
    unfold State.retimeLost; split <;> simp (disch := decide)) h

@[simp] theorem State.frame_becomePresent (n : NodeAddr) (h : [.nodes, .faults, .notices] ⊆ bs) :
    OnlyChanges bs s (State.becomePresent n t) ↔ OnlyChanges bs s t :=
  OnlyChanges.step (by
    unfold State.becomePresent; simp (disch := decide)) h

@[simp] theorem State.frame_handOn (n : NodeAddr) (since : Option Nat) (h : .nodes :: raiseBlocks ⊆ bs) :
    OnlyChanges bs s (State.handOn n since t) ↔ OnlyChanges bs s t :=
  OnlyChanges.step (by
    unfold State.handOn; dsimp only; repeat' split
    all_goals simp (disch := decide)) h

@[simp] theorem State.frame_takeFresh (n : NodeAddr) (payload : List Byte) (h : .nodes :: raiseBlocks ⊆ bs) :
    OnlyChanges bs s (State.takeFresh n payload t) ↔ OnlyChanges bs s t :=
  OnlyChanges.step (by
    unfold State.takeFresh; simp (disch := decide)) h

@[simp] theorem State.frame_takeRepeat (n : NodeAddr) (payload : List Byte) (h : .nodes :: raiseBlocks ⊆ bs) :
    OnlyChanges bs s (State.takeRepeat n payload t) ↔ OnlyChanges bs s t :=
  OnlyChanges.step (by
    unfold State.takeRepeat; simp (disch := decide)) h

@[simp] theorem State.frame_takeReport (n : NodeAddr) (payload : List Byte) (retry : Bool)
    (h : .nodes :: raiseBlocks ⊆ bs) :
    OnlyChanges bs s (State.takeReport n payload retry t) ↔ OnlyChanges bs s t :=
  OnlyChanges.step (by
    unfold State.takeReport; split <;> simp (disch := decide)) h

@[simp] theorem State.frame_auxPresence (n : NodeAddr) (h : [.nodes, .nlc, .faults, .notices] ⊆ bs) :
    OnlyChanges bs s (State.auxPresence n t) ↔ OnlyChanges bs s t :=
  OnlyChanges.step (by
    unfold State.auxPresence; simp (disch := decide)) h

@[simp] theorem State.frame_parkNodes (h : [.nodes, .faults, .notices] ⊆ bs) :
    OnlyChanges bs s (State.parkNodes t) ↔ OnlyChanges bs s t :=
  OnlyChanges.step (by
    unfold State.parkNodes; simp (disch := decide)) h

/-! ## The demand stream -/

@[simp] theorem State.frame_takeRecord (f : DemandFields) (h : [.demand] ⊆ bs) :
    OnlyChanges bs s (State.takeRecord f t) ↔ OnlyChanges bs s t :=
  OnlyChanges.step (by
    unfold State.takeRecord; simp (disch := decide)) h

@[simp] theorem State.frame_refresh (h : [.demand, .faults, .notices] ⊆ bs) :
    OnlyChanges bs s (State.refresh t) ↔ OnlyChanges bs s t :=
  OnlyChanges.step (by
    unfold State.refresh; simp (disch := decide)) h

@[simp] theorem State.frame_addDistance (dt : Nat) (h : .demand :: engineBlocks ⊆ bs) :
    OnlyChanges bs s (State.addDistance dt t) ↔ OnlyChanges bs s t :=
  OnlyChanges.step (by
    unfold State.addDistance; simp (disch := decide)) h

@[simp] theorem State.frame_passengerStop (h : .demand :: engineBlocks ⊆ bs) :
    OnlyChanges bs s (State.passengerStop t) ↔ OnlyChanges bs s t :=
  OnlyChanges.step (by
    unfold State.passengerStop; simp (disch := decide)) h

@[simp] theorem State.frame_demandStages (f : DemandFields) (h : .demand :: engineBlocks ⊆ bs) :
    OnlyChanges bs s (State.demandStages f t) ↔ OnlyChanges bs s t :=
  OnlyChanges.step (by
    unfold State.demandStages; simp (disch := decide)) h

@[simp] theorem State.frame_brakeDemand (status : Byte) (override : Bool) (dt : Nat) (h : .psu :: raiseBlocks ⊆ bs) :
    OnlyChanges bs s (State.brakeDemand status override dt t).state ↔ OnlyChanges bs s t :=
  OnlyChanges.step (by
    unfold State.brakeDemand; simp (disch := decide)) h

@[simp] theorem State.frame_tractionDemand (status : Byte) (override : Bool) (dt : Nat)
    (h : .psu :: raiseBlocks ⊆ bs) :
    OnlyChanges bs s (State.tractionDemand status override dt t).state ↔ OnlyChanges bs s t :=
  OnlyChanges.step (by
    unfold State.tractionDemand; simp (disch := decide)) h

@[simp] theorem State.frame_takeDemand (data : List Byte) (h : .demand :: .psu :: raiseBlocks ⊆ bs) :
    OnlyChanges bs s (State.takeDemand data t).state ↔ OnlyChanges bs s t :=
  OnlyChanges.step (by
    unfold State.takeDemand; simp (disch := decide)) h

@[simp] theorem State.frame_goStale (h : .demand :: .psu :: raiseBlocks ⊆ bs) :
    OnlyChanges bs s (State.goStale t) ↔ OnlyChanges bs s t :=
  OnlyChanges.step (by
    unfold State.goStale; simp (disch := decide)) h

@[simp] theorem State.frame_freshnessExpires (h : .demand :: .psu :: raiseBlocks ⊆ bs) :
    OnlyChanges bs s (State.freshnessExpires t) ↔ OnlyChanges bs s t :=
  OnlyChanges.step (by
    unfold State.freshnessExpires; simp (disch := decide)) h

@[simp] theorem State.frame_lowSpeedExpires (h : .demand :: .log :: engineBlocks ⊆ bs) :
    OnlyChanges bs s (State.lowSpeedExpires t) ↔ OnlyChanges bs s t :=
  OnlyChanges.step (by
    unfold State.lowSpeedExpires; simp (disch := decide)) h

/-! ## Modes -/

@[simp] theorem State.frame_enterReady (h : [.mode, .hli, .demand, .notices] ⊆ bs) :
    OnlyChanges bs s (State.enterReady t) ↔ OnlyChanges bs s t :=
  OnlyChanges.step (by
    unfold State.enterReady; simp (disch := decide)) h

@[simp] theorem State.frame_offerRelease (h : [.nlc] ⊆ bs) :
    OnlyChanges bs s (State.offerRelease t) ↔ OnlyChanges bs s t :=
  OnlyChanges.step (by
    unfold State.offerRelease; simp (disch := decide)) h

@[simp] theorem State.frame_clearStale (h : [.demand, .faults, .notices] ⊆ bs) :
    OnlyChanges bs s (State.clearStale t) ↔ OnlyChanges bs s t :=
  OnlyChanges.step (by
    unfold State.clearStale; simp (disch := decide)) h

@[simp] theorem State.frame_leaveReady (c : StopCause) (h : .demand :: .psu :: raiseBlocks ⊆ bs) :
    OnlyChanges bs s (State.leaveReady c t) ↔ OnlyChanges bs s t :=
  OnlyChanges.step (by
    unfold State.leaveReady; simp (disch := decide)) h

@[simp] theorem State.frame_beginEngineWait (h : [.progress, .wear] ⊆ bs) :
    OnlyChanges bs s (State.beginEngineWait t) ↔ OnlyChanges bs s t :=
  OnlyChanges.step (by
    unfold State.beginEngineWait; simp (disch := decide)) h

@[simp] theorem State.frame_shutdownFromReady (h : .mode :: .hli :: .demand :: .psu :: raiseBlocks ⊆ bs) :
    OnlyChanges bs s (State.shutdownFromReady t) ↔ OnlyChanges bs s t :=
  OnlyChanges.step (by
    unfold State.shutdownFromReady; simp (disch := decide)) h

@[simp] theorem State.frame_shutdownFromStandby (h : .mode :: .hli :: .demand :: .psu :: raiseBlocks ⊆ bs) :
    OnlyChanges bs s (State.shutdownFromStandby t) ↔ OnlyChanges bs s t :=
  OnlyChanges.step (by
    unfold State.shutdownFromStandby; simp (disch := decide)) h

@[simp] theorem State.frame_enterParked
    (h : [.mode, .progress, .keep, .slowClock, .hli, .demand, .nlc, .nodes, .bbu, .faults, .notices] ⊆ bs) :
    OnlyChanges bs s (State.enterParked t) ↔ OnlyChanges bs s t :=
  OnlyChanges.step (by
    unfold State.enterParked; simp (disch := decide)) h

@[simp] theorem State.frame_wakeEnds (h : [.mode, .waking, .keep, .slowClock, .hli, .nlc, .esc, .notices] ⊆ bs) :
    OnlyChanges bs s (State.wakeEnds t) ↔ OnlyChanges bs s t :=
  OnlyChanges.step (by
    unfold State.wakeEnds; simp (disch := decide)) h

@[simp] theorem State.frame_enterHalted (h : [.mode, .progress, .hli, .nlc, .log, .notices] ⊆ bs) :
    OnlyChanges bs s (State.enterHalted t) ↔ OnlyChanges bs s t :=
  OnlyChanges.step (by
    unfold State.enterHalted; simp (disch := decide)) h

@[simp] theorem State.frame_takeModeReady (h : [.mode, .hli, .demand, .notices] ⊆ bs) :
    OnlyChanges bs s (State.takeModeReady t).state ↔ OnlyChanges bs s t :=
  OnlyChanges.step (by
    unfold State.takeModeReady; split <;> first | (split <;> simp (disch := decide)) | simp) h

@[simp] theorem State.frame_takeModeStandby (h : .mode :: .hli :: .demand :: .psu :: raiseBlocks ⊆ bs) :
    OnlyChanges bs s (State.takeModeStandby t).state ↔ OnlyChanges bs s t :=
  OnlyChanges.step (by
    unfold State.takeModeStandby; split <;> simp (disch := decide)) h

@[simp] theorem State.frame_takeModeShutdown (h : .mode :: .hli :: .demand :: .psu :: raiseBlocks ⊆ bs) :
    OnlyChanges bs s (State.takeModeShutdown t).state ↔ OnlyChanges bs s t :=
  OnlyChanges.step (by
    unfold State.takeModeShutdown; split <;> simp (disch := decide)) h

@[simp] theorem State.frame_takeModePark
    (h : [.mode, .progress, .keep, .slowClock, .hli, .demand, .nlc, .nodes, .bbu, .faults, .notices] ⊆ bs) :
    OnlyChanges bs s (State.takeModePark t).state ↔ OnlyChanges bs s t :=
  OnlyChanges.step (by
    unfold State.takeModePark; split <;> simp (disch := decide)) h

@[simp] theorem State.frame_takeModeHalt (h : [.mode, .progress, .hli, .nlc, .log, .notices] ⊆ bs) :
    OnlyChanges bs s (State.takeModeHalt t).state ↔ OnlyChanges bs s t :=
  OnlyChanges.step (by
    unfold State.takeModeHalt; split <;> simp (disch := decide)) h

@[simp] theorem State.frame_takeModeOther  : (State.takeModeOther t).state = t := by
  rfl

/-! ## Services -/

@[simp] theorem State.frame_configActs (p : Param) (h : .nodes :: .hli :: raiseBlocks ⊆ bs) :
    OnlyChanges bs s (State.configActs p t) ↔ OnlyChanges bs s t :=
  OnlyChanges.step (by
    unfold State.configActs; split
    · simp (disch := decide)
    · split
      · exact OnlyChanges.foldl (fun s n => by simp (disch := decide)) _ _
      · exact OnlyChanges.foldl (fun s n => by simp (disch := decide)) _ _
      · simp (disch := decide)
      · simp (disch := decide)
      · simp) h

@[simp] theorem State.frame_takeConfigSet (data : List Byte) (h : .params :: .nodes :: .hli :: raiseBlocks ⊆ bs) :
    OnlyChanges bs s (State.takeConfigSet data t).state ↔ OnlyChanges bs s t :=
  OnlyChanges.step (by
    unfold State.takeConfigSet; dsimp only; split <;> simp (disch := decide)) h

@[simp] theorem State.frame_takeConfigGet (data : List Byte) : (State.takeConfigGet data t).state = t := by
  unfold State.takeConfigGet; dsimp only; split <;> rfl

@[simp] theorem State.frame_setAccess (a : Access) (h : [.hli] ⊆ bs) :
    OnlyChanges bs s (State.setAccess a t) ↔ OnlyChanges bs s t :=
  OnlyChanges.step (by
    unfold State.setAccess; simp (disch := decide)) h

@[simp] theorem State.frame_takeAccessDrive (h : [.hli] ⊆ bs) :
    OnlyChanges bs s (State.takeAccessDrive t).state ↔ OnlyChanges bs s t :=
  OnlyChanges.step (by
    unfold State.takeAccessDrive; simp (disch := decide)) h

@[simp] theorem State.frame_takeAccessService (h : [.hli] ⊆ bs) :
    OnlyChanges bs s (State.takeAccessService t).state ↔ OnlyChanges bs s t :=
  OnlyChanges.step (by
    unfold State.takeAccessService; simp (disch := decide)) h

@[simp] theorem State.frame_takeAccessOther  : (State.takeAccessOther t).state = t := by
  rfl

@[simp] theorem State.frame_takeStatus  : (State.takeStatus t).state = t := by
  rfl

@[simp] theorem State.frame_takeIdentity  : (State.takeIdentity t).state = t := by
  rfl

@[simp] theorem State.frame_takeCapacities  : (State.takeCapacities t).state = t := by
  rfl

@[simp] theorem State.frame_takeStoreState  : (State.takeStoreState t).state = t := by
  rfl

@[simp] theorem State.frame_takePageOther  : (State.takePageOther t).state = t := by
  rfl

@[simp] theorem State.frame_sendTunnel (n : NodeAddr) (i : Fin 4) (posted : Bool) (tag : Byte) (slot : Fin 4) (payload : List Byte)
    (h : [.nlc] ⊆ bs) :
    OnlyChanges bs s (State.sendTunnel n i posted tag slot payload t).state ↔ OnlyChanges bs s t :=
  OnlyChanges.step (by
    unfold State.sendTunnel; simp (disch := decide)) h

@[simp] theorem State.frame_takeTunnelSend (tag : Byte) (data : List Byte) (slot : Fin 4) (h : [.nlc] ⊆ bs) :
    OnlyChanges bs s (State.takeTunnelSend tag data slot t).state ↔ OnlyChanges bs s t :=
  OnlyChanges.step (by
    unfold State.takeTunnelSend; repeat' split
    all_goals simp (disch := decide)) h

@[simp] theorem State.frame_takeTunnelFetch (h : [.nlc] ⊆ bs) :
    OnlyChanges bs s (State.takeTunnelFetch t).state ↔ OnlyChanges bs s t :=
  OnlyChanges.step (by
    unfold State.takeTunnelFetch; split <;> simp (disch := decide)) h

@[simp] theorem State.frame_beginWaiting (h : [.wear] ⊆ bs) :
    OnlyChanges bs s (State.beginWaiting t) ↔ OnlyChanges bs s t :=
  OnlyChanges.step (by
    unfold State.beginWaiting; simp (disch := decide)) h

@[simp] theorem State.frame_loadCompletes (h : raiseBlocks ⊆ bs) :
    OnlyChanges bs s (State.loadCompletes t) ↔ OnlyChanges bs s t :=
  OnlyChanges.step (by
    unfold State.loadCompletes; split <;> simp (disch := decide)) h

@[simp] theorem State.frame_saveCompletes (readBack : Option (List Byte))
    (h : [.mode, .progress, .keep, .slowClock, .hli, .demand, .nlc, .nodes, .bbu, .wear, .faults, .notices] ⊆ bs) :
    OnlyChanges bs s (State.saveCompletes readBack t) ↔ OnlyChanges bs s t :=
  OnlyChanges.step (by
    unfold State.saveCompletes; split <;> simp (disch := decide)) h

/-! ## Reception -/

@[simp] theorem State.frame_appendInbox (n : NodeAddr) (payload : List Byte) (h : [.nlc, .notices] ⊆ bs) :
    OnlyChanges bs s (State.appendInbox n payload t) ↔ OnlyChanges bs s t :=
  OnlyChanges.step (by
    unfold State.appendInbox; simp (disch := decide)) h

@[simp] theorem State.frame_driveAck (code : Byte) (eod : Nat) (w rest : Wave) (h : [.nlc] ⊆ bs) :
    OnlyChanges bs s (State.driveAck code eod w rest t) ↔ OnlyChanges bs s t :=
  OnlyChanges.step (by
    unfold State.driveAck; split <;> simp (disch := decide)) h

@[simp] theorem State.frame_handTunnel (n : NodeAddr) (payload : List Byte) (h : [.nlc, .nodes, .faults, .notices] ⊆ bs) :
    OnlyChanges bs s (State.handTunnel n payload t) ↔ OnlyChanges bs s t :=
  OnlyChanges.step (by
    unfold State.handTunnel; simp (disch := decide)) h

@[simp] theorem State.frame_handReport (n : NodeAddr) (retry : Bool) (payload : List Byte) (h : .nodes :: raiseBlocks ⊆ bs) :
    OnlyChanges bs s (State.handReport n retry payload t) ↔ OnlyChanges bs s t :=
  OnlyChanges.step (by
    unfold State.handReport; simp (disch := decide)) h

@[simp] theorem State.frame_countReject (source : Option NodeAddr) (h : [.nodes] ⊆ bs) :
    OnlyChanges bs s (State.countReject source t) ↔ OnlyChanges bs s t :=
  OnlyChanges.step (by
    unfold State.countReject; split <;> simp (disch := decide)) h

@[simp] theorem State.frame_handFrame (source : Option NodeAddr) (cls : FrameClass) (retry : Bool) (payload : List Byte) (h : .nodes :: raiseBlocks ⊆ bs) :
    OnlyChanges bs s (State.handFrame source cls retry payload t) ↔ OnlyChanges bs s t :=
  OnlyChanges.step (by
    unfold State.handFrame; split <;> simp (disch := decide)) h

@[simp] theorem State.frame_countCrcError (bus : Bus) (h : [.nlc] ⊆ bs) :
    OnlyChanges bs s (State.countCrcError bus t) ↔ OnlyChanges bs s t :=
  OnlyChanges.step (by
    unfold State.countCrcError; simp (disch := decide)) h

@[simp] theorem State.frame_goodFrame (h1 h2 : Byte) (payload : List Byte) (eod : Nat) (w rest : Wave) (h : .nodes :: raiseBlocks ⊆ bs) :
    OnlyChanges bs s (State.goodFrame h1 h2 payload eod w rest t) ↔ OnlyChanges bs s t :=
  OnlyChanges.step (by
    unfold State.goodFrame; simp (disch := decide)) h

@[simp] theorem State.frame_followFrame (w : Wave) (h : .nodes :: raiseBlocks ⊆ bs) :
    OnlyChanges bs s (State.followFrame w t) ↔ OnlyChanges bs s t :=
  OnlyChanges.step (by
    unfold State.followFrame; split <;> simp (disch := decide)) h

@[simp] theorem State.frame_countNoise (k : Nat) (h : [.nlc] ⊆ bs) :
    OnlyChanges bs s (State.countNoise k t) ↔ OnlyChanges bs s t :=
  OnlyChanges.step (by
    unfold State.countNoise; simp (disch := decide)) h

@[simp] theorem State.frame_strayPulse (h : [.nlc] ⊆ bs) :
    OnlyChanges bs s (State.strayPulse t) ↔ OnlyChanges bs s t :=
  OnlyChanges.step (by
    unfold State.strayPulse; split <;> simp (disch := decide)) h

@[simp] theorem State.frame_abortFrame (h : [.hli, .nlc, .nodes, .notices] ⊆ bs) :
    OnlyChanges bs s (State.abortFrame t) ↔ OnlyChanges bs s t :=
  OnlyChanges.step (by
    unfold State.abortFrame; split <;> simp (disch := decide)) h

@[simp] theorem State.frame_abortBus (h : [.hli, .nlc, .nodes, .notices] ⊆ bs) :
    OnlyChanges bs s (State.abortBus t) ↔ OnlyChanges bs s t :=
  OnlyChanges.step (by
    unfold State.abortBus; simp (disch := decide)) h

@[simp] theorem State.frame_busResets (h : .hli :: .nodes :: raiseBlocks ⊆ bs) :
    OnlyChanges bs s (State.busResets t) ↔ OnlyChanges bs s t :=
  OnlyChanges.step (by
    unfold State.busResets; simp (disch := decide)) h

@[simp] theorem State.frame_releaseBreak (h : [.nlc] ⊆ bs) :
    OnlyChanges bs s (State.releaseBreak t) ↔ OnlyChanges bs s t :=
  OnlyChanges.step (by
    unfold State.releaseBreak; simp (disch := decide)) h

@[simp] theorem State.frame_finishBreak (h : .hli :: .nodes :: raiseBlocks ⊆ bs) :
    OnlyChanges bs s (State.finishBreak t) ↔ OnlyChanges bs s t :=
  OnlyChanges.step (by
    unfold State.finishBreak; split <;> simp (disch := decide)) h

@[simp] theorem State.frame_breakRuns (ns : Nat) (h : .hli :: .nodes :: raiseBlocks ⊆ bs) :
    OnlyChanges bs s (State.breakRuns ns t) ↔ OnlyChanges bs s t :=
  OnlyChanges.step (by
    unfold State.breakRuns; split
    · simp (disch := decide)
    · split <;> simp (disch := decide)) h

@[simp] theorem State.frame_resetRun (ns : Nat) (h : .hli :: .nodes :: raiseBlocks ⊆ bs) :
    OnlyChanges bs s (State.resetRun ns t) ↔ OnlyChanges bs s t :=
  OnlyChanges.step (by
    unfold State.resetRun; simp (disch := decide)) h

@[simp] theorem State.frame_dominantPulse (ns : Nat) (h : .waking :: .hli :: .nodes :: raiseBlocks ⊆ bs) :
    OnlyChanges bs s (State.dominantPulse ns t) ↔ OnlyChanges bs s t :=
  OnlyChanges.step (by
    unfold State.dominantPulse; split <;> simp (disch := decide)) h

@[simp] theorem State.frame_quietExpires (h : [.nlc, .faults, .notices] ⊆ bs) :
    OnlyChanges bs s (State.quietExpires t) ↔ OnlyChanges bs s t :=
  OnlyChanges.step (by
    unfold State.quietExpires; simp (disch := decide)) h

@[simp] theorem State.frame_settleNow (c : Completion) (bus : Bus) (h : [.hli, .nlc, .nodes, .notices] ⊆ bs) :
    OnlyChanges bs s (State.settleNow c bus t) ↔ OnlyChanges bs s t :=
  OnlyChanges.step (by
    unfold State.settleNow; simp (disch := decide)) h

@[simp] theorem State.frame_endFrame (c : Completion) (bytes : List Byte) (ns : Nat) (bus : Bus) (h : [.nlc] ⊆ bs) :
    OnlyChanges bs s (State.endFrame c bytes ns bus t) ↔ OnlyChanges bs s t :=
  OnlyChanges.step (by
    unfold State.endFrame; simp (disch := decide)) h

@[simp] theorem State.frame_ownFrame (bytes : List Byte) (w : Wave) (h : .hli :: .nodes :: raiseBlocks ⊆ bs) :
    OnlyChanges bs s (State.ownFrame bytes w t) ↔ OnlyChanges bs s t :=
  OnlyChanges.step (by
    unfold State.ownFrame; split <;> simp (disch := decide)) h

@[simp] theorem State.frame_frameOnBus (w : Wave) (h : .hli :: .nodes :: raiseBlocks ⊆ bs) :
    OnlyChanges bs s (State.frameOnBus w t) ↔ OnlyChanges bs s t :=
  OnlyChanges.step (by
    unfold State.frameOnBus; split
    · simp (disch := decide)
    · simp
    · simp
    · split
      · simp (disch := decide)
      · simp (disch := decide)
      · split <;> simp (disch := decide)
      · simp
      · simp) h

@[simp] theorem State.frame_laterPulse (p : Pulse) (h : .hli :: .nodes :: raiseBlocks ⊆ bs) :
    OnlyChanges bs s (State.laterPulse t p) ↔ OnlyChanges bs s t :=
  OnlyChanges.step (by
    unfold State.laterPulse; split
    · split <;> simp (disch := decide)
    · simp) h

@[simp] theorem State.frame_wave (w : Wave) (h : .waking :: .hli :: .nodes :: raiseBlocks ⊆ bs) :
    OnlyChanges bs s (State.wave w t) ↔ OnlyChanges bs s t :=
  OnlyChanges.step (by
    unfold State.wave
    rw [State.frame_levelAfter _ (by decide)]
    refine OnlyChanges.trans ?_ (OnlyChanges.foldl (fun s p => by simp (disch := decide)) _ _)
    simp (disch := decide)) h

@[simp] theorem State.frame_ownWave (w : Wave) (h : .waking :: .hli :: .nodes :: raiseBlocks ⊆ bs) :
    OnlyChanges bs s (State.ownWave w t) ↔ OnlyChanges bs s t :=
  OnlyChanges.step (by
    unfold State.ownWave; split <;> simp (disch := decide)) h

@[simp] theorem State.frame_atIdle (h : .hli :: .nodes :: raiseBlocks ⊆ bs) :
    OnlyChanges bs s (State.atIdle t) ↔ OnlyChanges bs s t :=
  OnlyChanges.step (by
    unfold State.atIdle; dsimp only; split <;> simp (disch := decide)) h

@[simp] theorem State.frame_actAtIdle (taken : Bool) (h : [.waking, .nlc] ⊆ bs) :
    OnlyChanges bs s (State.actAtIdle taken t) ↔ OnlyChanges bs s t :=
  OnlyChanges.step (by
    unfold State.actAtIdle; simp (disch := decide)) h

@[simp] theorem State.frame_busFellIdle (taken : Bool) (h : .waking :: .hli :: .nodes :: raiseBlocks ⊆ bs) :
    OnlyChanges bs s (State.busFellIdle taken t) ↔ OnlyChanges bs s t :=
  OnlyChanges.step (by
    unfold State.busFellIdle; split <;> simp (disch := decide)) h

/-! ## Host frames -/

@[simp] theorem State.frame_countFraming (h : [.hli] ⊆ bs) :
    OnlyChanges bs s (State.countFraming t) ↔ OnlyChanges bs s t :=
  OnlyChanges.step (by
    unfold State.countFraming; simp (disch := decide)) h

@[simp] theorem State.frame_lengthByte (b : Byte) (h : [.hli] ⊆ bs) :
    OnlyChanges bs s (State.lengthByte b t) ↔ OnlyChanges bs s t :=
  OnlyChanges.step (by
    unfold State.lengthByte; split <;> simp (disch := decide)) h

@[simp] theorem State.frame_framingError (cause : FramingFault) (h : [.waking, .hli] ⊆ bs) :
    OnlyChanges bs s (State.framingError cause t) ↔ OnlyChanges bs s t :=
  OnlyChanges.step (by
    unfold State.framingError; split
    · simp (disch := decide)
    · split <;> simp (disch := decide)) h

@[simp] theorem State.frame_gapTimeout (us : Nat) (h : [.hli] ⊆ bs) :
    OnlyChanges bs s (State.gapTimeout us t) ↔ OnlyChanges bs s t :=
  OnlyChanges.step (by
    unfold State.gapTimeout; simp (disch := decide)) h

@[simp] theorem State.frame_discardCrc (h : [.hli] ⊆ bs) :
    OnlyChanges bs s (State.discardCrc t) ↔ OnlyChanges bs s t :=
  OnlyChanges.step (by
    unfold State.discardCrc; simp (disch := decide)) h

@[simp] theorem State.frame_resync (us : Nat) (h : [.hli] ⊆ bs) :
    OnlyChanges bs s (State.resync us t) ↔ OnlyChanges bs s t :=
  OnlyChanges.step (by
    unfold State.resync; simp (disch := decide)) h

end

end Sys2Proof.Machine
end

