-- ==== Sys2Proof/Laws/HostLine.lean ====
section
/-! SUPPORT. What the HLI reads from the line of the host link: a byte, a bad byte, an idle stretch, a frame; the command a request's
frame spells and what it does; and what HTX shows of a reply, bit by bit. -/

namespace Sys2Proof.Machine

/-! ## Bytes -/

@[simp] theorem bitLevel_isHigh (b : Bool) : (bitLevel b).isHigh = b := by cases b <;> rfl

/-- Eight data bits read back as the byte they were sent for. -/
theorem levelsNumber_dataLevels (b : Byte) : byte (levelsNumber (dataLevels b)) = b := by
  revert b; decide +kernel

/-- An idle stretch only adds to the time since the last stop bit. -/
theorem sampleLine_high (us n : Nat) (rest : HostLine) :
    sampleLine us (List.replicate n .high ++ rest) = sampleLine (us + n) rest := by
  induction n generalizing us with
  | zero => rfl
  | succ n ih => rw [List.replicate_succ, List.cons_append, sampleLine, ih, Nat.add_right_comm, Nat.add_assoc]

/-- A byte on the line is read as one whose stop bit is as it shows. -/
theorem sampleLine_char (us : Nat) (b : Byte) (stop : PinLevel) (rest : HostLine) :
    sampleLine us (charLine b stop ++ rest) = .quiet us :: takeChar (dataLevels b) stop :: sampleLine 0 rest := rfl

theorem sampleLine_byte (us : Nat) (b : Byte) (rest : HostLine) :
    sampleLine us (byteLine b ++ rest) = .quiet us :: .byte b :: sampleLine 0 rest := by
  rw [byteLine, sampleLine_char, takeChar, levelsNumber_dataLevels]

/-- A byte whose stop bit is low is a bad byte. -/
theorem sampleLine_badByte (us : Nat) (b : Byte) (rest : HostLine) :
    sampleLine us (charLine b .low ++ rest) = .quiet us :: .badByte :: sampleLine 0 rest := rfl

/-- What the HLI takes from spaced bytes. -/
def spacedEvents (bytes : List (Nat × Byte)) : List HrxEvent := bytes.flatMap (fun p => [.quiet p.1, .byte p.2])

theorem sampleLine_spaced (bytes : List (Nat × Byte)) (rest : HostLine) :
    sampleLine 0 (spacedLine bytes ++ rest) = spacedEvents bytes ++ sampleLine 0 rest := by
  induction bytes with
  | nil => rfl
  | cons p ps ih =>
    simp only [spacedLine, List.flatMap_cons, List.append_assoc] at ih ⊢
    rw [sampleLine_high, Nat.zero_add, sampleLine_byte, ih]
    rfl

/-- Bytes without a gap are spaced bytes. -/
theorem bytesLine_eq_spaced (bytes : List Byte) : bytesLine bytes = spacedLine (bytes.map (fun b => (0, b))) := by
  simp [bytesLine, spacedLine, List.flatMap_map]

/-- The line of bytes without a gap shows them. -/
theorem HostLine.shows_bytesLine (bytes : List Byte) : HostLine.Shows (bytesLine bytes) bytes := by
  refine ⟨bytes.map (fun b => (0, b)), bytesLine_eq_spaced bytes, by simp, fun p hp => ?_⟩
  obtain ⟨b, -, rfl⟩ := List.mem_map.mp (List.mem_of_mem_tail hp)
  exact Nat.zero_le _

/-! ## HTX -/

@[simp] theorem byteLine_length (b : Byte) : (byteLine b).length = 10 := rfl

/-- The line of bytes without a gap, bit by bit: bit `j` of byte `k`. -/
theorem bytesLine_getElem? (bytes : List Byte) (k j : Nat) (hj : j < 10) :
    (bytesLine bytes)[10 * k + j]? = bytes[k]?.bind (fun b => (byteLine b)[j]?) := by
  induction bytes generalizing k with
  | nil => rfl
  | cons b bs ih =>
    rw [bytesLine, List.flatMap_cons]
    cases k with
    | zero => rw [Nat.mul_zero, Nat.zero_add, List.getElem?_append_left (by simpa using hj)]; rfl
    | succ k =>
      rw [List.getElem?_append_right (by simp; omega), byteLine_length, show 10 * (k + 1) + j - 10 = 10 * k + j by omega]
      exact ih k

theorem bytesLine_length (bytes : List Byte) : (bytesLine bytes).length = 10 * bytes.length := by
  induction bytes with
  | nil => rfl
  | cons b bs ih => simp only [bytesLine, List.flatMap_cons, List.length_append, byteLine_length, List.length_cons] at ih ⊢; omega

/-- HTX in bit `j` of byte `k` of the reply in progress. -/
theorem HostLink.htx_byte (h : HostLink) (r : Reply) (k j ns : Nat) (b : Byte) (hs : h.sending = some r)
    (hk : r.frame[k]? = some b) (hj : j < 10) (hns : ns < 1000) :
    h.htx (10000 * k + 1000 * j + ns) = (byteLine b).getD j .high := by
  have hdiv : (10000 * k + 1000 * j + ns) / hostBitNs = 10 * k + j := by rw [hostBitNs]; omega
  rw [HostLink.htx, hs]
  simp only [hdiv, Reply.line, List.getD_eq_getElem?_getD, bytesLine_getElem? _ _ _ hj, hk, Option.bind_some]

/-- HTX is high from the end of the reply on. -/
theorem HostLink.htx_after (h : HostLink) (r : Reply) (t : Nat) (hs : h.sending = some r) (ht : 10000 * r.frame.length ≤ t) :
    h.htx t = .high := by
  have hdiv : (bytesLine r.frame).length ≤ t / hostBitNs := by rw [bytesLine_length, hostBitNs]; omega
  rw [HostLink.htx, hs]
  simp only [Reply.line, List.getD_eq_getElem?_getD, List.getElem?_eq_none hdiv, Option.getD_none]

/-! ## The framer, byte by byte (R205) -/

/-- A byte after a gap of at most 200 µs, wherever the framer stands. -/
theorem Framer.commands_byte (f g : Framer) (us : Nat) (b : Byte) (cs : List Instr) (es : List HrxEvent) (hus : us ≤ 200)
    (h : f.takes (.byte b) = (g, cs)) : f.commands (.quiet us :: .byte b :: es) = cs ++ g.commands es := by
  have hquiet : f.takes (.quiet us) = (f, []) := by simp [Framer.takes]; omega
  rw [Framer.commands, hquiet, List.nil_append, Framer.commands, h]

/-- The sync byte begins a frame after any idle stretch. -/
theorem Framer.commands_sync (us : Nat) (es : List HrxEvent) :
    Framer.hunt.commands (.quiet us :: .byte 0xC3 :: es) = Framer.length.commands es := by
  rw [Framer.commands, show Framer.hunt.takes (.quiet us) = (.hunt, []) from rfl, List.nil_append, Framer.commands,
    show Framer.hunt.takes (.byte 0xC3) = (.length, []) from rfl, List.nil_append]

theorem Framer.takes_length (b : Byte) (h : 2 ≤ b.toNat ∧ b.toNat ≤ 250) :
    Framer.length.takes (.byte b) = (.body b.toNat [b], []) := by simp [Framer.takes, Framer.receive, h]

theorem Framer.takes_noLength (b : Byte) (h : ¬(2 ≤ b.toNat ∧ b.toNat ≤ 250)) :
    Framer.length.takes (.byte b) = (.hunt, [.hostFramingError (.lengthByte b)]) := by
  simp only [Framer.takes, Framer.receive, if_neg h]

theorem Framer.takes_body (len : Nat) (got : List Byte) (b : Byte) (h : got.length < len) :
    (Framer.body len got).takes (.byte b) = (.body len (got ++ [b]), []) := by
  simp [Framer.takes, Framer.receive, Nat.succ_le_of_lt h]

theorem Framer.takes_lastOfBody (len : Nat) (got : List Byte) (b : Byte) (h : len ≤ got.length) :
    (Framer.body len got).takes (.byte b) = (.check (got ++ [b]) [], []) := by
  simp [Framer.takes, Framer.receive, Nat.not_lt.mpr h]

/-- Inside a frame a bad byte is a framing error; in HUNT it is passed over. -/
theorem Framer.takes_badByte (f : Framer) :
    f.takes .badByte = (.hunt, if f = .hunt then [] else [.hostFramingError .badByte]) := by cases f <;> rfl

/-- The framer collects the bytes of a frame up to its last payload byte. -/
theorem Framer.commands_body (len : Nat) (bytes : List (Nat × Byte)) (got : List Byte) (es : List HrxEvent)
    (hgap : ∀ p ∈ bytes, p.1 ≤ 200) (hlen : got.length + bytes.length = len + 1) (hne : bytes ≠ []) :
    (Framer.body len got).commands (spacedEvents bytes ++ es) = (Framer.check (got ++ bytes.map Prod.snd) []).commands es := by
  induction bytes generalizing got with
  | nil => exact absurd rfl hne
  | cons p ps ih =>
    have hp : p.1 ≤ 200 := hgap p (List.mem_cons_self ..)
    rw [List.length_cons] at hlen
    show (Framer.body len got).commands (.quiet p.1 :: .byte p.2 :: (spacedEvents ps ++ es)) = _
    cases ps with
    | nil =>
      rw [Framer.commands_byte _ _ _ _ _ _ hp (Framer.takes_lastOfBody len got p.2 (by simp at hlen; omega))]
      rfl
    | cons q qs =>
      rw [List.length_cons] at hlen
      rw [Framer.commands_byte _ _ _ _ _ _ hp (Framer.takes_body len got p.2 (by omega)), List.nil_append,
        ih (got ++ [p.2]) (fun r hr => hgap r (List.mem_cons_of_mem _ hr)) (by simp; omega) (List.cons_ne_nil _ _)]
      simp

/-- Two CRC bytes complete the frame. -/
theorem Framer.commands_check (covered : List Byte) (g₁ g₂ : Nat) (crc : BitVec 16) (es : List HrxEvent) (h₁ : g₁ ≤ 200)
    (h₂ : g₂ ≤ 200) :
    (Framer.check covered []).commands
        (.quiet g₁ :: .byte (byte (crc.toNat / 256)) :: .quiet g₂ :: .byte (byte crc.toNat) :: es) =
      frameCommand covered crc :: Framer.hunt.commands es := by
  have hcrc : BitVec.ofNat 16 ((byte (crc.toNat / 256)).toNat * 256 + (byte crc.toNat).toNat) = crc := by
    have := crc.isLt
    apply BitVec.eq_of_toNat_eq
    simp only [byte, BitVec.toNat_ofNat]
    omega
  have hsecond : (Framer.check covered [byte (crc.toNat / 256)]).takes (.byte (byte crc.toNat)) =
      (.hunt, [frameCommand covered crc]) := by
    simp only [Framer.takes, Framer.receive, hcrc]
  rw [Framer.commands_byte _ (.check covered [byte (crc.toNat / 256)]) _ _ [] _ h₁ rfl, List.nil_append,
    Framer.commands_byte _ _ _ _ _ _ h₂ hsecond, List.singleton_append]

/-! ## Frames -/

/-- A frame on the line, after any idle stretch and with gaps of at most 200 µs inside it, gives its command. -/
theorem Framer.commands_frame (body : List Byte) (crc : BitVec 16) (spaced : List (Nat × Byte)) (es : List HrxEvent)
    (hlen : 2 ≤ body.length ∧ body.length ≤ 250)
    (hbytes : spaced.map Prod.snd = hostFrameCarrying (byte body.length :: body) crc)
    (hgap : ∀ p ∈ spaced.tail, p.1 ≤ 200) :
    Framer.hunt.commands (spacedEvents spaced ++ es) =
      frameCommand (byte body.length :: body) crc :: Framer.hunt.commands es := by
  have hbyte : (byte body.length).toNat = body.length := by simp [byte]; omega
  simp only [hostFrameCarrying, be16, List.cons_append, List.map_eq_cons_iff, List.map_eq_append_iff, List.map_eq_nil_iff] at hbytes
  obtain ⟨sync, _, rfl, hsync, length, _, rfl, hlength, payload, _, rfl, hbody, hi, _, rfl, hhi, lo, _, rfl, hlo, rfl⟩ := hbytes
  simp only [List.tail_cons, List.mem_cons, List.mem_append, List.not_mem_nil, or_false] at hgap
  have hlength' : Framer.length.takes (.byte length.2) = (.body body.length [byte body.length], []) := by
    rw [hlength, Framer.takes_length _ (by rw [hbyte]; exact hlen), hbyte]
  have hpayload : payload.length = body.length := by rw [← hbody, List.length_map]
  have hne : payload ≠ [] := by
    intro h; subst h; simp at hpayload; omega
  rw [show spacedEvents (sync :: length :: (payload ++ [hi, lo])) ++ es = .quiet sync.1 :: .byte 0xC3 :: .quiet length.1 ::
      .byte length.2 :: (spacedEvents payload ++ (.quiet hi.1 :: .byte (byte (crc.toNat / 256)) :: .quiet lo.1 ::
      .byte (byte crc.toNat) :: es)) by simp [spacedEvents, hsync, hhi, hlo],
    Framer.commands_sync, Framer.commands_byte _ _ _ _ _ _ (hgap _ (.inl rfl)) hlength', List.nil_append,
    Framer.commands_body _ _ _ _ (fun p hp => hgap p (.inr (.inl hp))) (by simp [hpayload]; omega) hne,
    Framer.commands_check _ _ _ _ _ (hgap _ (.inr (.inr (.inl rfl)))) (hgap _ (.inr (.inr (.inr rfl)))), hbody]
  rfl

/-- A good frame gives the command of its request. -/
theorem frameCommand_good (tag kind : Byte) (data : List Byte) :
    frameCommand (hostFrameCovered tag kind data) (crc16 (hostFrameCovered tag kind data)) = requestCommand tag kind data := by
  simp [frameCommand, hostFrameCovered]

/-- A frame with a wrong CRC-16 gives HOST_FRAME_BAD_CRC. -/
theorem frameCommand_bad (body : List Byte) (crc : BitVec 16) (h : badFrame body crc = true) :
    frameCommand (byte body.length :: body) crc = .hostFrameBadCrc body crc := by
  simp only [badFrame, Bool.and_eq_true, decide_eq_true_eq, bne_iff_ne] at h
  match body, h with
  | _ :: _ :: _, h => rw [frameCommand, if_neg h.2]

/-- A byte is the literal of its number. -/
theorem byte_eq_of_toNat {b : Byte} {n : Nat} (h : b.toNat = n) : b = BitVec.ofNat 8 n := by
  rw [← h, BitVec.ofNat_toNat, BitVec.setWidth_eq]

/-- No other row names an unnamed frame. -/
theorem requestCommand_unnamed (tag kind : Byte) (data : List Byte) (h : unnamed kind data = true) :
    requestCommand tag kind data = .requestUnknownKind tag kind data := by
  unfold requestCommand
  split <;> rename_i hk <;> simp only [unnamed, hk] at h <;> try (exact absurd h (by decide))
  all_goals try rfl
  all_goals
    cases data with
    | nil => rw [byte_eq_of_toNat hk]; rfl
    | cons sub rest =>
      replace h := of_decide_eq_true h
      simp only [List.head?_cons, Option.map_some, Option.getD_some] at h
      rw [byte_eq_of_toNat hk]
      simp only [routeCommand, engineCommand, modeCommand, faultsCommand, accessCommand, tunnelCommand, describeCommand]
      split <;> first | omega | rfl

/-- The command of a request's frame is that request, and its payload fits a frame. -/
theorem requestCommand_of_fields (c : Instr) (tag kind : Byte) (data : List Byte) (hc : requestFields c = some (tag, kind, data))
    (hw : wellFormed c = true) : requestCommand tag kind data = c ∧ data.length ≤ 248 := by
  cases c
  case requestUnknownKind t k d =>
    cases hc
    simp only [wellFormed, wholeOk, Bool.and_eq_true, decide_eq_true_eq] at hw
    exact ⟨requestCommand_unnamed _ _ _ hw.2, hw.1⟩
  all_goals cases hc
  all_goals
    simp only [wellFormed, wholeOk, restOk, decide_eq_true_eq] at hw
    exact ⟨rfl, by first | exact hw | exact Nat.succ_le_succ hw⟩

/-! ## What the command of a frame does -/

theorem exec_routeCommand (tag : Byte) (data : List Byte) (s : State) :
    exec (routeCommand tag data) s = s.powered (State.hostFrame tag 0x02 data) := by
  cases data with
  | nil => rfl
  | cons sub rest =>
    simp only [routeCommand]
    split <;> try rfl
    all_goals (rename_i h; rw [byte_eq_of_toNat h]; rfl)

theorem exec_engineCommand (tag : Byte) (data : List Byte) (s : State) :
    exec (engineCommand tag data) s = s.powered (State.hostFrame tag 0x03 data) := by
  cases data with
  | nil => rfl
  | cons sub rest =>
    simp only [engineCommand]
    split <;> try rfl
    all_goals (rename_i h; rw [byte_eq_of_toNat h]; rfl)

theorem exec_modeCommand (tag : Byte) (data : List Byte) (s : State) :
    exec (modeCommand tag data) s = s.powered (State.hostFrame tag 0x04 data) := by
  cases data with
  | nil => rfl
  | cons sub rest =>
    simp only [modeCommand]
    split <;> try rfl
    all_goals (rename_i h; rw [byte_eq_of_toNat h]; rfl)

theorem exec_faultsCommand (tag : Byte) (data : List Byte) (s : State) :
    exec (faultsCommand tag data) s = s.powered (State.hostFrame tag 0x0C data) := by
  cases data with
  | nil => rfl
  | cons sub rest =>
    simp only [faultsCommand]
    split <;> try rfl
    all_goals (rename_i h; rw [byte_eq_of_toNat h]; rfl)

theorem exec_accessCommand (tag : Byte) (data : List Byte) (s : State) :
    exec (accessCommand tag data) s = s.powered (State.hostFrame tag 0x0F data) := by
  cases data with
  | nil => rfl
  | cons sub rest =>
    simp only [accessCommand]
    split <;> try rfl
    all_goals (rename_i h; rw [byte_eq_of_toNat h]; rfl)

theorem exec_tunnelCommand (tag : Byte) (data : List Byte) (s : State) :
    exec (tunnelCommand tag data) s = s.powered (State.hostFrame tag 0x10 data) := by
  cases data with
  | nil => rfl
  | cons sub rest =>
    simp only [tunnelCommand]
    split <;> try rfl
    all_goals (rename_i h; rw [byte_eq_of_toNat h]; rfl)

theorem exec_describeCommand (tag : Byte) (data : List Byte) (s : State) :
    exec (describeCommand tag data) s = s.powered (State.hostFrame tag 0x11 data) := by
  cases data with
  | nil => rfl
  | cons sub rest =>
    simp only [describeCommand]
    split <;> try rfl
    all_goals (rename_i h; rw [byte_eq_of_toNat h]; rfl)

/-- What exec does with the command of a good frame: the checks of R207 on that frame. -/
theorem exec_requestCommand (tag kind : Byte) (data : List Byte) (s : State) :
    exec (requestCommand tag kind data) s = s.powered (State.hostFrame tag kind data) := by
  unfold requestCommand
  split <;> rename_i hk <;> try (rw [byte_eq_of_toNat hk])
  all_goals first
    | exact exec_routeCommand tag data s
    | exact exec_engineCommand tag data s
    | exact exec_modeCommand tag data s
    | exact exec_faultsCommand tag data s
    | exact exec_accessCommand tag data s
    | exact exec_tunnelCommand tag data s
    | exact exec_describeCommand tag data s
    | rfl

end Sys2Proof.Machine
end

