-- ==== Sys2Proof/Laws/Ops.lean ====
section
/-! SUPPORT. What the shared operations do, said once: records, parameters, items and notices read after a write; the reply
line; the completion of a frame; offers; raises and ends of cause; a request taken or turned away. -/

namespace Sys2Proof.Machine

/-! ## Readings that a frame leaves alone -/

section
variable {bs : List Block} {s t : State}

theorem OnlyChanges.par (h : OnlyChanges bs s t) (hb : Block.params ∉ bs) (p : Param) : t.par p = s.par p :=
  congrArg (getParam · p) (h _ hb)

theorem OnlyChanges.node (h : OnlyChanges bs s t) (hb : Block.nodes ∉ bs) (n : NodeAddr) : t.node n = s.node n :=
  congrArg (NodeTable.get · n) (h _ hb)

theorem OnlyChanges.takes (h : OnlyChanges bs s t) (hb : Block.nodes ∉ bs) (n : NodeAddr) : t.takes n = s.takes n := by
  unfold State.takes; rw [h.node hb]

theorem OnlyChanges.level (h : OnlyChanges bs s t) (hb : Block.faults ∉ bs) : t.level = s.level :=
  congrArg (fun f : FaultUnit => effLevel f.active) (h _ hb)

theorem OnlyChanges.factor (h : OnlyChanges bs s t) (hb : Block.faults ∉ bs) : t.factor = s.factor :=
  congrArg (fun f : FaultUnit => effFactor f.active) (h _ hb)

theorem OnlyChanges.wearItem (h : OnlyChanges bs s t) (hb : Block.wear ∉ bs) (k : WearKind) : t.wearItem k = s.wearItem k :=
  congrArg (fun w : WearUnit => w.items[Fin.ofNat 6 k.code]) (h _ hb)

theorem OnlyChanges.noticeOf (h : OnlyChanges bs s t) (hb : Block.notices ∉ bs) (k : NoticeKind) :
    t.noticeOf k = s.noticeOf k :=
  congrArg (fun v : Vector NoticeSlot 10 => v[Fin.ofNat 10 k.code]) (h _ hb)

end

/-! ## Records, parameters, items, notices: a read after a write -/

@[simp] theorem NodeTable.get_put_same (t : NodeTable) (n : NodeAddr) (r : NodeRecord) : (t.put n r).get n = r := by
  cases n <;> rfl

theorem NodeTable.get_put_other (t : NodeTable) {n m : NodeAddr} (r : NodeRecord) (h : m ≠ n) :
    (t.put n r).get m = t.get m := by
  cases n <;> cases m <;> first | rfl | exact absurd rfl h

@[simp] theorem State.node_setNode_same (s : State) (n : NodeAddr) (r : NodeRecord) : (s.setNode n r).node n = r :=
  NodeTable.get_put_same s.nodes n r

theorem State.node_setNode_other (s : State) {n m : NodeAddr} (r : NodeRecord) (h : m ≠ n) :
    (s.setNode n r).node m = s.node m := NodeTable.get_put_other s.nodes r h

/-- Storing a report leaves every record. -/
@[simp] theorem NodeTable.get_store (t : NodeTable) (n m : NodeAddr) (payload : List Byte) :
    (t.store n payload).get m = t.get m := by cases n <;> rfl

/-- Every record ages by its own timers. -/
@[simp] theorem NodeTable.get_age (t : NodeTable) (k : Nat) (n : NodeAddr) : (t.age k).get n = (t.get n).age k := by
  cases n <;> rfl

/-- The place of a parameter names it. -/
theorem paramsById_at (p : Param) : paramsById[(paramIdx p).val]? = some p := by cases p <;> rfl

theorem paramIdx_injective {p q : Param} (h : paramIdx p = paramIdx q) : p = q := by
  have hp := paramsById_at p
  rw [h, paramsById_at q] at hp
  exact (Option.some.inj hp).symm

@[simp] theorem getParam_setParam_same (ps : Params) (p : Param) (v : Nat) : getParam (setParam ps p v) p = v := by
  simp [getParam, setParam]

theorem getParam_setParam_other (ps : Params) {p q : Param} (v : Nat) (h : q ≠ p) :
    getParam (setParam ps p v) q = getParam ps q := by
  have hne : (paramIdx p).val ≠ (paramIdx q).val := fun e => h (paramIdx_injective (Fin.ext e)).symm
  simp [getParam, setParam, hne]

/-- A parameter's id names it. -/
@[simp] theorem paramOfId_id (p : Param) : paramOfId (paramRow p).id = some p := by cases p <;> rfl

theorem WearKind.code_injective {j k : WearKind} (h : Fin.ofNat 6 j.code = Fin.ofNat 6 k.code) : j = k := by
  cases j <;> cases k <;> first | rfl | exact absurd h (by decide)

@[simp] theorem State.wearItem_setWearItem_same (s : State) (k : WearKind) (w : WearItem) :
    (s.setWearItem k w).wearItem k = w := by
  simp [State.wearItem, State.setWearItem]

theorem State.wearItem_setWearItem_other (s : State) {j k : WearKind} (w : WearItem) (h : j ≠ k) :
    (s.setWearItem k w).wearItem j = s.wearItem j := by
  have hne : (Fin.ofNat 6 k.code).val ≠ (Fin.ofNat 6 j.code).val :=
    fun e => h (WearKind.code_injective (Fin.ext e)).symm
  simp only [State.wearItem, State.setWearItem, State.setWear_wear, Fin.getElem_fin]
  exact Vector.getElem_set_ne _ _ hne

theorem NoticeKind.code_injective {j k : NoticeKind} (h : Fin.ofNat 10 j.code = Fin.ofNat 10 k.code) : j = k := by
  cases j <;> cases k <;> first | rfl | exact absurd h (by decide)

@[simp] theorem State.noticeOf_notify_same (s : State) (k : NoticeKind) (detail : Nat) :
    (s.notify k detail).noticeOf k = (s.noticeOf k).note detail := by
  simp [State.noticeOf, State.notify]

theorem State.noticeOf_notify_other (s : State) {j k : NoticeKind} (detail : Nat) (h : j ≠ k) :
    (s.notify k detail).noticeOf j = s.noticeOf j := by
  have hne : (Fin.ofNat 10 k.code).val ≠ (Fin.ofNat 10 j.code).val :=
    fun e => h (NoticeKind.code_injective (Fin.ext e)).symm
  simp only [State.noticeOf, State.notify, State.setNotices_notices, Fin.getElem_fin]
  exact Vector.getElem_set_ne _ _ hne

theorem FaultKind.code_injective {j k : FaultKind} (h : Fin.ofNat 16 (j.code - 1) = Fin.ofNat 16 (k.code - 1)) : j = k := by
  cases j <;> cases k <;> first | rfl | exact absurd h (by decide)

@[simp] theorem FaultUnit.response_set_same (f : FaultUnit) (k : FaultKind) (r : Response) :
    (f.setResponse k r).response k = r := by
  simp [FaultUnit.response, FaultUnit.setResponse]

theorem FaultUnit.response_set_other (f : FaultUnit) {j k : FaultKind} (r : Response) (h : j ≠ k) :
    (f.setResponse k r).response j = f.response j := by
  have hne : (Fin.ofNat 16 (k.code - 1)).val ≠ (Fin.ofNat 16 (j.code - 1)).val :=
    fun e => h (FaultKind.code_injective (Fin.ext e)).symm
  simp only [FaultUnit.response, FaultUnit.setResponse, Fin.getElem_fin]
  exact Vector.getElem_set_ne _ _ hne

/-- A fault kind's code names it. -/
@[simp] theorem faultOfCode_code (k : FaultKind) : faultOfCode k.code = some k := by cases k <;> rfl

/-- A wear item's code names it. -/
@[simp] theorem wearOfCode_code (k : WearKind) : wearOfCode k.code = some k := by cases k <;> rfl

/-- A node's address names it. -/
@[simp] theorem nodeOfCode_code (n : NodeAddr) : nodeOfCode (nodeCode n) = some n := by cases n <;> rfl

/-! ## Modes and notices -/

/-- A change of mode: the mode, its notice, and the access level, which falls to DRIVE but on the way to STANDBY. -/
theorem State.enterMode_spec (m : Mode) (s : State) :
    (s.enterMode m).mode = m ∧ Noted .mode m.code s (s.enterMode m) ∧
      (s.enterMode m).hli = if m = .standby then s.hli else { s.hli with access := .drive } := by
  unfold State.enterMode Noted
  dsimp only
  split
  · exact ⟨rfl, State.noticeOf_notify_same (s.setMode m) .mode m.code, rfl⟩
  · exact ⟨rfl, State.noticeOf_notify_same (s.setMode m) .mode m.code, rfl⟩

/-! ## The reply line (R209) -/

/-- A ready reply joins the end of an ordered line, which stays ordered; nothing else of the link moves. -/
theorem State.ready_spec (r : Reply) (s : State) (h : s.hli.ordered) :
    (s.ready r).hli.line = s.hli.line ++ [r] ∧ (s.ready r).hli.ordered ∧ (s.ready r).hli.slots = s.hli.slots ∧
      (s.ready r).hli.framer = s.hli.framer ∧ (s.ready r).hli.access = s.hli.access ∧
      (s.ready r).hli.framingErrors = s.hli.framingErrors ∧ (s.ready r).hli.crcErrors = s.hli.crcErrors := by
  unfold State.ready
  split
  · next hs =>
    have hw := h hs
    exact ⟨by simp [HostLink.line, hs, hw], fun hn => absurd hn (by simp), rfl, rfl, rfl, rfl, rfl⟩
  · next r0 hs =>
    exact ⟨by simp [HostLink.line, hs], fun hn => by simp [hs] at hn, rfl, rfl, rfl, rfl, rfl⟩

/-- The slow clock aside, the end of the replies due in PARKED changes nothing (R211). -/
@[simp] theorem State.slowDown_hli (s : State) : s.slowDown.hli = s.hli := by
  unfold State.slowDown; split <;> rfl

/-- An expiry acts on a timer that stands at its end. -/
@[simp] theorem State.expire_ended (act : State → State) (s : State) : s.expire (some 0) act = act s := rfl

/-- An expiry finds a stopped timer, or one that has been started again, and does nothing (R51, R138, R157). -/
theorem State.expire_other {timer : Timer} (h : timer ≠ some 0) (act : State → State) (s : State) : s.expire timer act = s :=
  if_neg h

/-- The end of a reply takes the first of the line. -/
theorem State.endReply_line (s : State) (h : s.hli.ordered) : s.endReply.hli.line = s.hli.line.tail := by
  unfold State.endReply
  split
  · next hs => simp [HostLink.line, hs, h hs]
  · next r hs => cases hw : s.hli.waiting <;> simp [HostLink.line, hs, hw]

/-! ## The completion of a frame (R30, R31, R32, R72) -/

/-- The reply of a CONFIRMED entry moves the host link alone. -/
theorem State.releaseReply_only (status : Byte) (code : Option Completion) (e : Entry) (s : State) :
    OnlyChanges [.hli] s (s.releaseReply status code e) := by simp (disch := decide)

/-- What it makes of the host link rests on the host link alone. -/
theorem State.releaseReply_hli {s t : State} (h : s.hli = t.hli) (status : Byte) (code : Option Completion) (e : Entry) :
    (s.releaseReply status code e).hli = (t.releaseReply status code e).hli := by
  unfold State.releaseReply
  split
  · simp only [State.ready, h]; split <;> simp
  · exact h
  · exact h

/-- The deferred reply of a CONFIRMED entry joins the end of an ordered line (R77, R209). -/
theorem State.releaseReply_line {s : State} (h : s.hli.ordered) {e : Entry} {tag : Byte} {slot : Fin 4}
    (hr : e.reply = .confirmed tag slot) (status : Byte) (code : Option Completion) :
    (s.releaseReply status code e).hli.line = s.hli.line ++
      [⟨tag, 0x10, [status, 0, byte e.tunnelNumber, byte (nodeCode e.target), codeOrNone code, ackByteOf code], some slot⟩] := by
  simp only [State.releaseReply, hr]
  exact (State.ready_spec _ s h).1

/-- A settled completion, said once: the target's record takes it in every mode, the queue and the failure counter follow, and the
reply of a CONFIRMED entry that leaves becomes ready. -/
theorem State.settle_spec {c : Completion} {bus : Bus} {s : State} {e : Entry}
    (h : s.nlc.queue.find? (fun x => x.inFlight) = some e) :
    let hold := e.holds c (s.node e.target).presence
    let remove := e.leaves c s.nlc.queue
    let q := settleQueue remove (e.attemptsAfter c) c s.nlc.queue
    let t := s.settle c bus
    t.node e.target = (s.node e.target).complete c hold (e.thirdFailure c) ∧ (∀ m, m ≠ e.target → t.node m = s.node m) ∧
      t.nlc = { s.nlc.countFailure c with queue := if hold then holdEntries e.target q else q, tx := .idle, bus := bus } ∧
      t.hli = (if remove then s.releaseReply (if c.acked then stOk else stLinkFail) (some c) e else s).hli ∧
      t.notices = (if c = .nakInvalid then s.notify .reject (nodeCode e.target) else s).notices := by
  have hsettle : ∃ u, s.settle c bus =
        (if e.leaves c s.nlc.queue then u.releaseReply (if c.acked then stOk else stLinkFail) (some c) e else u) ∧
      u.nodes = s.nodes.put e.target ((s.node e.target).complete c (e.holds c (s.node e.target).presence) (e.thirdFailure c)) ∧
      u.nlc = { s.nlc.countFailure c with
        queue := if e.holds c (s.node e.target).presence
          then holdEntries e.target (settleQueue (e.leaves c s.nlc.queue) (e.attemptsAfter c) c s.nlc.queue)
          else settleQueue (e.leaves c s.nlc.queue) (e.attemptsAfter c) c s.nlc.queue
        tx := .idle, bus := bus } ∧
      u.hli = s.hli ∧
      u.notices = (if c = .nakInvalid then s.notify .reject (nodeCode e.target) else s).notices := by
    simp only [State.settle, h]
    by_cases hc : c = .nakInvalid <;> simp only [hc, if_true, if_false] <;> exact ⟨_, rfl, rfl, rfl, rfl, rfl⟩
  obtain ⟨u, hu, hnodes, hnlc, hhli, hnotices⟩ := hsettle
  have hr := State.releaseReply_only (if c.acked then stOk else stLinkFail) (some c) e u
  have hsame : ∀ b : Block, b ≠ .hli → b.same u (s.settle c bus) := by
    intro b hb
    rw [hu]
    split
    · exact hr b (by simpa using hb)
    · exact OnlyChanges.refl [] u b (by simp)
  have hn : (s.settle c bus).nodes = _ := (hsame .nodes (by decide)).trans hnodes
  refine ⟨?_, fun m hm => ?_, (hsame .nlc (by decide)).trans hnlc, ?_, (hsame .notices (by decide)).trans hnotices⟩
  · simp [State.node, hn]
  · simp [State.node, hn, NodeTable.get_put_other _ _ hm]
  · rw [hu]
    split
    · exact State.releaseReply_hli hhli ..
    · exact hhli

/-- A terminal code, and any code of an entry that will not return, takes the entry out of the queue (R30, R73). -/
theorem Entry.leaves_of {e : Entry} {c : Completion} (q : List Entry)
    (h : c.acked = true ∨ (c.failed = true ∧ 2 ≤ e.attempts) ∨ (c = .nakNotReady ∧ e.isHalt = true) ∨ e.fate ≠ .returns) :
    e.leaves c q = true := by
  rcases h with h | ⟨h, h'⟩ | ⟨rfl, h⟩ | h
  · simp [Entry.leaves, Entry.terminal, h]
  · simp [Entry.leaves, Entry.terminal, Entry.thirdFailure, Entry.attemptsAfter, h, h']
  · simp [Entry.leaves, Entry.terminal, h]
  · simp [Entry.leaves, h]

/-- What follows on the node link and at the waking flag leaves a conclusion as it is. -/
theorem Entry.Concludes.carry {e : Entry} {c : Completion} {s t u : State} (h : e.Concludes c s t)
    (hu : OnlyChanges [.nlc, .waking] t u) : e.Concludes c s u := by
  have hnotices : u.notices = t.notices := hu .notices (by simp)
  have hhli : u.hli = t.hli := hu .hli (by simp)
  refine ⟨(hu.node (by simp) _).trans h.record, fun m hm => (hu.node (by simp) m).trans (h.others m hm), fun hc => ?_,
    fun hc => hnotices.trans (h.noNotice hc), fun tag slot hr ho => ?_, fun hr => hhli.trans (h.noReply hr)⟩
  · have := h.reject hc
    simpa [Noted, State.noticeOf, hnotices] using this
  · exact (congrArg HostLink.line hhli).trans (h.reply tag slot hr ho)

/-- A completion that takes its entry out of the queue concludes it. -/
theorem State.settle_concludes {c : Completion} {bus : Bus} {s : State} {e : Entry}
    (h : s.nlc.queue.find? (fun x => x.inFlight) = some e) (hl : e.leaves c s.nlc.queue = true) :
    e.Concludes c s (s.settle c bus) := by
  obtain ⟨hrecord, hothers, -, hhli, hnotices⟩ := State.settle_spec (c := c) (bus := bus) h
  simp only [hl, if_true] at hhli
  have hthird : e.thirdFailure c = true ↔ c.failed = true ∧ 2 ≤ e.attempts := by
    cases hc : c.failed <;> simp [Entry.thirdFailure, Entry.attemptsAfter, hc]
  refine ⟨?_, hothers, fun hc => ?_, fun hc => ?_, fun tag slot hr ho => ?_, fun hr => ?_⟩
  · rw [hrecord]
    simp only [NodeRecord.complete, Entry.holds, hthird, satAdd]
    cases c <;> rfl
  · subst hc
    simp only [if_true] at hnotices
    simpa [Noted, State.noticeOf, hnotices] using State.noticeOf_notify_same s .reject (nodeCode e.target)
  · simpa [hc] using hnotices
  · rw [hhli, State.releaseReply_line ho hr]; rfl
  · rw [hhli]; rcases hr with hr | hr <;> simp [State.releaseReply, hr]

/-! ## Requests (R207, R208) -/

/-- The state a request's owner is handed: the framer in HUNT, the slot taken. -/
def State.afterSlot (s : State) (i : Fin 4) (tag kind : Byte) : State :=
  (s.setHli { s.hli with framer := .hunt }).takeSlot i ⟨tag, kind, false⟩

/-- A request that reaches a PARKED part only wakes it. -/
theorem State.request_parked {s : State} (h : s.mode = .parked) (tag kind : Byte) (confirmed inHalted : Bool) (form : Form)
    (owner : Fin 4 → State → Taken) : s.request tag kind confirmed inHalted form owner = s.setWaking true := by
  simp [State.request, State.hostEdge, h]

/-- A request of good form that finds a slot is its owner's, and its payload joins the reply line. -/
theorem State.request_good {s : State} {i : Fin 4} (h : s.Hears i) (tag kind : Byte) {confirmed inHalted : Bool}
    (owner : Fin 4 → State → Taken) {payload : List Byte} (hh : s.mode = .halted → inHalted = true)
    (hc : confirmed = true → s.hli.deferredHeld < 2) (hr : (owner i (s.afterSlot i tag kind)).reply = some payload) :
    s.request tag kind confirmed inHalted .good owner =
      (owner i (s.afterSlot i tag kind)).state.ready ⟨tag, kind, payload, some i⟩ := by
  have h1 : ¬(confirmed && decide (2 ≤ s.hli.deferredHeld)) = true := by
    intro hx
    simp only [Bool.and_eq_true, decide_eq_true_eq] at hx
    exact absurd (hc hx.1) (by omega)
  have h2 : ¬((s.afterSlot i tag kind).mode = .halted && !inHalted) = true := by
    intro hx
    simp only [Bool.and_eq_true, decide_eq_true_eq, Bool.not_eq_true'] at hx
    exact absurd (hh hx.1) (by simp [hx.2])
  unfold State.request
  refine (if_neg h.awake).trans ((if_neg h1).trans ?_)
  split
  · next hn => exact absurd (h.free.symm.trans hn) (by simp)
  · next j hj =>
    obtain rfl : i = j := Option.some.inj (h.free.symm.trans hj)
    refine (if_neg h2).trans ?_
    change (match (owner i (s.afterSlot i tag kind)).reply with
      | some p => (owner i (s.afterSlot i tag kind)).state.ready ⟨tag, kind, p, some i⟩
      | none => _) = _
    rw [hr]

/-- A request whose owner leaves the host link alone is answered, with the frame of its owner. -/
theorem State.answered_of_owner {s t : State} {i : Fin 4} {tag kind : Byte} {payload : List Byte} (h : s.Hears i)
    (ht : t.hli = (s.afterSlot i tag kind).hli) : Answered tag kind payload i s (t.ready ⟨tag, kind, payload, some i⟩) := by
  have ho : t.hli.ordered := by rw [ht]; exact h.ordered
  obtain ⟨hl, hord, hs, hf, ha, he, hcrc⟩ := State.ready_spec ⟨tag, kind, payload, some i⟩ t ho
  refine ⟨⟨?_, ?_, ?_, hord, ?_, ?_⟩, ?_⟩
  · rw [hl, ht]; simp [State.afterSlot, State.takeSlot, HostLink.line]
  · rw [hs, ht]; rfl
  · rw [hf, ht]; rfl
  · rw [he, ht]; rfl
  · rw [hcrc, ht]; rfl
  · rw [ha, ht]; rfl

/-! ## The queue (R65 to R69) -/

/-- The queue's members after an entry has joined. -/
theorem mem_enqueue {e x : Entry} {q : List Entry} : x ∈ enqueue e q ↔ x = e ∨ x ∈ q := by
  induction q with
  | nil => simp [enqueue]
  | cons y q ih =>
    simp only [enqueue]
    split
    · simp only [List.mem_cons, ih]; tauto
    · simp

/-- Starting the first frame marks one entry in flight and leaves every entry's contents. -/
theorem mem_startFirst {x : Entry} {q : List Entry} (h : x ∈ q) :
    ∃ y ∈ startFirst q, y.target = x.target ∧ y.kind = x.kind ∧ y.payload = x.payload ∧ y.origin = x.origin ∧
      y.reply = x.reply := by
  induction q with
  | nil => cases h
  | cons e q ih =>
    simp only [startFirst]
    split
    · rcases List.mem_cons.mp h with rfl | h
      · exact ⟨_, List.mem_cons_self .., rfl, rfl, rfl, rfl, rfl⟩
      · exact ⟨x, List.mem_cons_of_mem _ h, rfl, rfl, rfl, rfl, rfl⟩
    · rcases List.mem_cons.mp h with rfl | h
      · exact ⟨_, List.mem_cons_self .., rfl, rfl, rfl, rfl, rfl⟩
      · obtain ⟨y, hy, hh⟩ := ih h
        exact ⟨y, List.mem_cons_of_mem _ hy, hh⟩

/-- A kick keeps every entry's contents in the queue. -/
theorem Queued.kick {n : NodeAddr} {k : EntryKind} {payload : List Byte} {origin : Origin} {s : State}
    (h : Queued n k payload origin s) : Queued n k payload origin s.kick := by
  unfold State.kick
  split
  · unfold State.startFrame
    split
    · exact h
    · obtain ⟨e, he, h1, h2, h3, h4⟩ := h
      obtain ⟨y, hy, g1, g2, g3, g4, _⟩ := mem_startFirst he
      exact ⟨y, hy, g1.trans h1, g2.trans h2, g3.trans h3, g4.trans h4⟩
  · exact h

/-- An offer that is taken stands in the queue (R67, R68). -/
theorem State.offered_offerAt (n : NodeAddr) (k : EntryKind) (payload : List Byte) (priority : Nat) (origin : Origin)
    (reply : ReplyMode) (s : State) : Offered s n k payload origin (s.offerAt n k payload priority origin reply) := by
  intro ht
  simp only [State.offerAt, ht, if_true]
  split
  · next hany =>
    obtain ⟨e, he, hw⟩ := List.any_eq_true.mp hany
    have hw' : e.target = n ∧ e.kind = k := by
      simp [Entry.waitsFor] at hw; exact ⟨hw.1.1, hw.1.2⟩
    exact ⟨{ e with payload := payload, origin := origin, attempts := 0 },
      List.mem_map.mpr ⟨e, he, by simp [hw]⟩, hw'.1, hw'.2, rfl, rfl⟩
  · exact Queued.kick ⟨s.newEntry n k payload priority origin reply, mem_enqueue.mpr (.inl rfl), rfl, rfl, rfl, rfl⟩

/-- An offer for another target or kind leaves what is queued. -/
theorem Queued.offerAt {n m : NodeAddr} {k j : EntryKind} {payload bytes : List Byte} {origin o : Origin} {s : State}
    (h : Queued n k payload origin s) (hne : m ≠ n ∨ j ≠ k) (priority : Nat) (reply : ReplyMode) :
    Queued n k payload origin (s.offerAt m j bytes priority o reply) := by
  unfold State.offerAt
  split
  · split
    · obtain ⟨e, he, h1, h2, h3, h4⟩ := h
      have hw : e.waitsFor m j = false := by
        unfold Entry.waitsFor
        rcases hne with hne | hne
        · simp [h1, Ne.symm hne]
        · simp [h2, Ne.symm hne]
      exact ⟨e, List.mem_map.mpr ⟨e, he, by simp [hw]⟩, h1, h2, h3, h4⟩
    · obtain ⟨e, he, hh⟩ := h
      exact Queued.kick ⟨e, mem_enqueue.mpr (.inr he), hh⟩
  · exact h

/-! ## Faults (R192, R193) -/

/-- A raise that the Fault Monitor takes leaves its kind in the list with its cause present. -/
theorem State.raised_raiseCore {s : State} (h : s.mode ≠ .halted) (k : FaultKind) (detail : Nat) :
    (s.raiseCore k detail).Raised k := by
  have hr : ∀ u v : State, (u.noteRestriction v).faults = u.faults := by
    intro u v; unfold State.noteRestriction; split <;> rfl
  unfold State.Raised
  simp only [State.raiseCore, h, if_false, hr]
  change ∃ e ∈ (s.faults.addRaise k detail s.runTime).active, _
  unfold FaultUnit.addRaise
  split
  · exact ⟨_, List.mem_append_right _ (List.mem_singleton.mpr rfl), rfl, rfl⟩
  · next e he =>
    have hk : e.kind = k := by simpa using List.find?_some he
    exact ⟨e.again detail, List.mem_map.mpr ⟨e, List.mem_of_find?_eq_some he, by simp [hk]⟩, hk, rfl⟩

/-- The end of a SELF kind's cause leaves no entry of it. -/
theorem State.entry_endCause_self {s : State} (h : s.mode ≠ .halted) {k : FaultKind} (hk : k.latched = false) :
    (s.endCause k).faults.entry k = none := by
  have hr : ∀ u v : State, (u.noteRestriction v).faults = u.faults := by
    intro u v; unfold State.noteRestriction; split <;> rfl
  simp only [State.endCause, h, if_false]
  split
  · next hn => exact hn
  · simp only [hk, Bool.false_eq_true, if_false, State.removeFault, hr]
    change (s.faults.remove k).entry k = none
    simp [FaultUnit.entry, FaultUnit.remove]

/-! ## The event log (R114) -/

/-- After a closing condition no event is open. -/
theorem State.closeEvent_current (reason : EndReason) (s : State) : (s.closeEvent reason).log.current = none := by
  unfold State.closeEvent
  split
  · assumption
  · simp only [State.notify, State.setNotices_log, State.setLog_log, EventLog.enter]
    split <;> rfl

/-- A record entering the ring leaves at most 32. -/
theorem EventLog.enter_length (r : EventRecord) (l : EventLog) (h : l.ring.length ≤ 32) : (l.enter r).ring.length ≤ 32 := by
  unfold EventLog.enter ringSize
  split
  · simp; omega
  · simp; omega

end Sys2Proof.Machine
end

