-- ==== Sys2Proof/Laws/Symbols.lean ====
section
/-! SUPPORT. What the receiver reads from the symbols the 620 sends: a bit, a run of bits, a byte, bytes; and what it makes of an
empty stretch. -/

namespace Sys2Proof.Machine

/-- The symbol of a bit is read as that bit when its leading edge stands where it is expected (R20, R21). -/
@[simp] theorem nextSymbol_symbolPulse (lo hi e : Nat) (b : Bool) (rest : Wave) (h : lo ≤ e) (h' : e ≤ hi) :
    nextSymbol lo hi (symbolPulse e b :: rest) = .bit b e rest := by
  have hl : ¬e < lo := by omega
  have hh : ¬hi < e := by omega
  cases b <;> simp [nextSymbol, symbolPulse, classifyPulse, hl, hh]

/-- The symbols of bits are read as those bits (R20, R21). -/
theorem readBits_symbolsFrom (bs : List Bool) (e : Nat) (rest : Wave) :
    readBits bs.length e (symbolsFrom e bs ++ rest) = .ok bs (e + bitNs * bs.length) rest := by
  induction bs generalizing e with
  | nil => simp [readBits, symbolsFrom]
  | cons b bs ih =>
    have : e + bitNs + bitNs * bs.length = e + bitNs * (bs.length + 1) := by simp [bitNs]; omega
    simp [readBits, symbolsFrom, nextSymbol_symbolPulse, ih, this]

/-- The bits of a byte give the byte back (R24). -/
@[simp] theorem byte_numberOf_byteBits (b : Byte) : byte (numberOf (byteBits b)) = b := by
  revert b; decide +kernel

/-- Symbols of two runs of bits stand one behind the other. -/
theorem symbolsFrom_append (as bs : List Bool) (e : Nat) :
    symbolsFrom e (as ++ bs) = symbolsFrom e as ++ symbolsFrom (e + bitNs * as.length) bs := by
  induction as generalizing e with
  | nil => simp [symbolsFrom]
  | cons a as ih =>
    have : e + bitNs + bitNs * as.length = e + bitNs * (as.length + 1) := by simp [bitNs]; omega
    simp [symbolsFrom, ih, this]

/-- The symbols of bytes are read as those bytes (R20, R21, R24). -/
theorem readBytes_symbolsFrom (bytes : List Byte) (e : Nat) (rest : Wave) :
    readBytes bytes.length e (symbolsFrom e (bitsOf bytes) ++ rest) = .ok bytes (e + bitNs * (8 * bytes.length)) rest := by
  induction bytes generalizing e with
  | nil => simp [readBytes, bitsOf, symbolsFrom]
  | cons b bytes ih =>
    have hl : (byteBits b).length = 8 := rfl
    have hb := readBits_symbolsFrom (byteBits b) e (symbolsFrom (e + bitNs * 8) (bitsOf bytes) ++ rest)
    have he : e + bitNs * 8 + bitNs * (8 * bytes.length) = e + bitNs * (8 * (bytes.length + 1)) := by simp [bitNs]; omega
    have hs : bitsOf (b :: bytes) = byteBits b ++ bitsOf bytes := rfl
    rw [hl] at hb
    simp only [List.length_cons, readBytes, hs, symbolsFrom_append, List.append_assoc, hl, hb, ih, he, byte_numberOf_byteBits]

/-- A stretch of recessive level stays quiet (R21). -/
@[simp] theorem readQuiet_nil (till : Nat) : readQuiet till [] = .ok () till [] := rfl

/-- An ack window without a pulse is empty, and its EOF runs out (R28). -/
@[simp] theorem readWindow_nil (eod : Nat) : readWindow eod [] = .empty (eod + bitNs) true := rfl

end Sys2Proof.Machine
end

