-- ==== Sys2Proof/Laws/Reception.lean ====
section
/-! SUPPORT. What the NLC makes of a wave, said once: a good frame to the 620, the acknowledgement, the end of the 620's own frame;
and that the wave of a frame as the 620 drives it reads back as that frame. -/

namespace Sys2Proof.Machine

/-! ## Frames to the 620 (R36, R37) -/

/-- What stands on the bus does not move with the count of noise. -/
@[simp] theorem State.countNoise_nlc (k : Nat) (s : State) :
    (s.countNoise k).nlc = { s.nlc with noise := min 65535 (s.nlc.noise + k) } := rfl

/-- Off the link and on the silent link no later pulse of a wave reaches the NLC (R42, R43). -/
theorem State.laterPulses_deaf (w : Wave) {s : State} (h : s.nlc.link.receives = false) : w.foldl State.laterPulse s = s := by
  induction w with
  | nil => rfl
  | cons p w ih => simp [State.laterPulse, h, ih]

/-- Noise counted twice is noise counted at once. -/
theorem State.countNoise_countNoise (j k : Nat) (s : State) : (s.countNoise j).countNoise k = s.countNoise (j + k) := by
  have : min max16 (min max16 (s.nlc.noise + j) + k) = min max16 (s.nlc.noise + (j + k)) := by omega
  simp [State.countNoise, satAdd, State.setNlc, this]

/-- No noise moves no counter that has kept its width. -/
theorem State.countNoise_zero {s : State} (h : s.nlc.noise ≤ 65535) : s.countNoise 0 = s := by
  have : min max16 s.nlc.noise = s.nlc.noise := Nat.min_eq_right h
  simp [State.countNoise, satAdd, State.setNlc, this]

/-- Of the later pulses of a wave without a break, the noise counts while the NLC receives (R22). -/
theorem State.laterPulses_unbroken {w : Wave} (hb : hasBreak w = false) {s : State} (h : s.nlc.link.receives = true)
    (hn : s.nlc.noise ≤ 65535) : w.foldl State.laterPulse s = s.countNoise (noiseCount w) := by
  induction w generalizing s with
  | nil => exact (State.countNoise_zero hn).symm
  | cons p w ih =>
    simp only [hasBreak, List.any_cons, Bool.or_eq_false_iff, beq_eq_false_iff_ne] at hb
    have hk : s.laterPulse p = if classifyPulse p.width = .noise then s.countNoise 1 else s := by
      unfold State.laterPulse
      cases hc : classifyPulse p.width <;> simp_all
    rw [List.foldl_cons, hk]
    by_cases hc : classifyPulse p.width = .noise
    · rw [if_pos hc, ih hb.2 (by simpa using h) (Nat.min_le_left ..), State.countNoise_countNoise]
      simp [noiseCount, hc, Nat.add_comm]
    · rw [if_neg hc, ih hb.2 h hn]
      simp [noiseCount, hc]

/-- Such a wave has no moment at which the NLC may leave the link, if it settles no frame of the 620 (R42). -/
theorem State.dominantLater_unbroken {w : Wave} (h : hasBreak w = false) {s : State} (hs : s.settledBy w = none) :
    s.dominantLater w = false := by
  have hf : w.find? (fun p => classifyPulse p.width == .brk) = none := by simpa [hasBreak] using h
  simp [State.dominantLater, State.mayLeaveAt, hs, hf]

/-- A level past the end of a wave wakes nobody while the NLC is on the link, and moves the waking flag alone (R9, R42). -/
theorem State.levelAfter_spec (dominant : Bool) (s : State) :
    s.levelAfter dominant = s.setWaking (s.waking || (dominant && decide (s.mode = .parked) && decide (s.nlc.link = .away) &&
      Nat.testBit (s.par .attention) 10)) := by
  have hs : s.setWaking s.waking = s := rfl
  unfold State.levelAfter State.nodeEdge
  cases dominant
  · simp [hs]
  · by_cases h : s.mode = .parked ∧ s.nlc.link = .away ∧ Nat.testBit (s.par .attention) 10 = true
    · simp [h]
    · have hf : (decide (s.mode = .parked) && decide (s.nlc.link = .away) && Nat.testBit (s.par .attention) 10) = false := by
        simpa [and_assoc] using h
      simp [h, hf, hs]

/-- A wave without a break that settles no frame of the 620 is its noise and its frame. -/
theorem State.wave_unbroken {w : Wave} (h : hasBreak w = false) {s : State} (hs : s.settledBy w = none) :
    s.wave w = (s.countNoise (noiseCount w)).frameOnBus w := by
  have hall : ∀ p ∈ w, heardFirst none p = true := by
    intro p hp
    have := (List.any_eq_false.mp h) p hp
    simpa [heardFirst] using this
  simp [State.wave, State.levelAfter, State.dominantLater_unbroken h hs, hs, List.takeWhile_eq_self_iff.mpr hall,
    List.dropWhile_eq_nil_iff.mpr hall]

/-- One that settles a frame of the 620 within it is the noise up to there, the frame, the noise behind it while the NLC still
receives, and else the level that wakes the part (R9, R22, R29, R42, R43). -/
theorem State.wave_settles {w : Wave} (h : hasBreak w = false) {s : State} {ns : Nat} (hs : s.settledBy w = some ns) :
    s.wave w = ((w.dropWhile (fun p => decide (p.edge < ns))).foldl State.laterPulse
      ((s.countNoise (noiseCount (w.takeWhile (fun p => decide (p.edge < ns))))).frameOnBus w)).levelAfter
        (w.any (fun p => decide (ns < p.edge + p.width))) := by
  have hsame : ∀ p ∈ w, heardFirst (some ns) p = decide (p.edge < ns) := by
    intro p hp
    have := (List.any_eq_false.mp h) p hp
    simp only [beq_iff_eq] at this
    simp [heardFirst, this]
  have htake : ∀ v : Wave, (∀ p ∈ v, heardFirst (some ns) p = decide (p.edge < ns)) →
      v.takeWhile (heardFirst (some ns)) = v.takeWhile (fun p => decide (p.edge < ns)) ∧
        v.dropWhile (heardFirst (some ns)) = v.dropWhile (fun p => decide (p.edge < ns)) := by
    intro v hv
    induction v with
    | nil => exact ⟨rfl, rfl⟩
    | cons p v ih =>
      have h1 := hv p (List.mem_cons_self ..)
      have h2 := ih fun q hq => hv q (List.mem_cons_of_mem _ hq)
      simp [List.takeWhile_cons, List.dropWhile_cons, h1, h2]
  simp [State.wave, State.dominantLater, State.mayLeaveAt, hs, htake w hsame]

/-- While the receiver may follow a frame, it follows the one on the bus. -/
theorem State.frameOnBus_follows {s : State} (h : s.Follows) (w : Wave) (k : Nat) :
    (s.countNoise k).frameOnBus w = (s.countNoise k).followFrame w := by
  unfold State.frameOnBus
  simp only [State.countNoise_nlc, h.quiet]
  rcases h.bus with hb | hb <;> simp [hb]

/-- A good frame to the 620 is acknowledged and handed on by its source, class, retry flag and payload. -/
theorem State.wave_carries {s : State} (h : s.Follows) {w : Wave} {source : Option NodeAddr} {cls : FrameClass} {retry : Bool}
    {payload : List Byte} {eod : Nat} {rest : Wave} (hc : Carries w source cls retry payload eod rest) :
    s.wave w = (((s.countNoise (noiseCount w)).driveAck ((s.countNoise (noiseCount w)).ackCode source cls payload) eod w
      rest).handFrame source cls retry payload) := by
  obtain ⟨⟨h1, h2, hr, ht, rfl, rfl, rfl⟩, hb⟩ := hc
  have hs : s.settledBy w = none := by simp [State.settledBy, h.quiet]
  rw [State.wave_unbroken hb hs, State.frameOnBus_follows h]
  simp [State.followFrame, State.goodFrame, hr, ht]

/-- A wave on a link that receives is a command's whole effect on a powered part. -/
theorem State.powered_onLink {s : State} (h : s.Follows) (act : State → State) :
    s.powered (State.onLink act) = .next (act s) := by
  simp [State.powered, State.onLink, h.powered, h.receives]

/-- The acknowledgement and the bus behind it; nothing else of the part moves (R37, R38). -/
theorem State.driveAck_spec (code : Byte) (eod : Nat) (w rest : Wave) (s : State) :
    Acknowledged code eod w rest (s.driveAck code eod w rest).nlc ∧ OnlyChanges [.nlc] s (s.driveAck code eod w rest) ∧
      (s.driveAck code eod w rest).nlc =
        { s.nlc with ack := (s.driveAck code eod w rest).nlc.ack, bus := (s.driveAck code eod w rest).nlc.bus } := by
  unfold State.driveAck
  cases he : ackEcho eod w 0 (bitsOf (ackFrame code)) with
  | none =>
    refine ⟨⟨fun _ => ⟨rfl, rfl⟩, fun ns h => ?_⟩, ?_, rfl⟩
    · exact absurd (he.symm.trans h) (by simp)
    · intro b hb; cases b <;> first | rfl | exact absurd (by simp) hb
  | some m =>
    refine ⟨⟨fun h => absurd (he.symm.trans h) (by simp), fun ns h => ?_⟩, ?_, rfl⟩
    · obtain rfl : m = ns := Option.some.inj (he.symm.trans h)
      exact ⟨rfl, rfl⟩
    · intro b hb; cases b <;> first | rfl | exact absurd (by simp) hb

/-- A refused frame of a node adds one to that record's reject count, whatever the mode, and moves nothing else (R37). -/
theorem State.countReject_spec (n : NodeAddr) (s : State) :
    (s.countReject (some n)).node n = { s.node n with rejects := min 65535 ((s.node n).rejects + 1) } ∧
      (∀ m, m ≠ n → (s.countReject (some n)).node m = s.node m) ∧ OnlyChanges [.nodes] s (s.countReject (some n)) :=
  ⟨State.node_setNode_same .., fun _ hm => State.node_setNode_other s _ hm, by simp (disch := decide)⟩

/-! ## The 620's own drive reads back as its frame (R20, R21, R24, R26) -/

/-- The symbols of a frame of up to 12 payload bytes, with nothing but recessive level behind them, read as that frame. -/
theorem readFrame_frameDrive (h1 h2 : Byte) (payload : List Byte) (hl : payloadLength h2 = payload.length)
    (h12 : payload.length ≤ 12) :
    readFrame (frameDrive (h1 :: h2 :: payload ++ [crc8 (h1 :: h2 :: payload)])).pulses =
      .good h1 h2 payload ((frameDrive (h1 :: h2 :: payload ++ [crc8 (h1 :: h2 :: payload)])).endNs + eodNs) [] := by
  have hsplit : bitsOf (h1 :: h2 :: payload ++ [crc8 (h1 :: h2 :: payload)]) =
      bitsOf [h1, h2] ++ bitsOf (payload ++ [crc8 (h1 :: h2 :: payload)]) := by simp [bitsOf]
  have hlen : (bitsOf [h1, h2]).length = 16 := rfl
  have hsof : classifyPulse sofNs = .sof := by decide
  have hA := readBytes_symbolsFrom [h1, h2] (0 + sofNs)
    (symbolsFrom (0 + sofNs + bitNs * 16) (bitsOf (payload ++ [crc8 (h1 :: h2 :: payload)])))
  have hB := readBytes_symbolsFrom (payload ++ [crc8 (h1 :: h2 :: payload)]) (0 + sofNs + bitNs * (8 * 2)) []
  have hle : (payload ++ [crc8 (h1 :: h2 :: payload)]).length = payload.length + 1 := by simp
  simp only [hle, List.append_nil] at hB
  have hA' : readBytes 2 (0 + sofNs) (symbolsFrom (0 + sofNs) (bitsOf (h1 :: h2 :: payload ++ [crc8 (h1 :: h2 :: payload)]))) =
      .ok [h1, h2] (0 + sofNs + bitNs * (8 * 2))
        (symbolsFrom (0 + sofNs + bitNs * 16) (bitsOf (payload ++ [crc8 (h1 :: h2 :: payload)]))) := by
    rw [hsplit, symbolsFrom_append, hlen]; exact hA
  have hend : 0 + sofNs + bitNs * (8 * 2) + bitNs * (8 * (payload.length + 1)) + eodNs =
      sofNs + bitNs * (8 * (h1 :: h2 :: payload ++ [crc8 (h1 :: h2 :: payload)]).length) + eodNs := by
    simp [bitNs, sofNs]; omega
  have h12' : ¬12 < payload.length := by omega
  simp only [Nat.zero_add] at hA' hB hend
  unfold frameDrive
  simp only [readFrame, hsof, Nat.zero_add, hA', byteAt, List.getD_cons_zero, List.getD_cons_succ, readBody, hl, h12', if_false]
  rw [show bitNs * 16 = bitNs * (8 * 2) from rfl, hB]
  simp [hend, List.getD]

/-! ## The echo of a frame that nobody disturbs (R27, R28) -/

/-- Where the symbols of a run of bits stand, and for how long at most. -/
theorem edge_of_symbolsFrom {p : Pulse} {bits : List Bool} {e : Nat} (h : p ∈ symbolsFrom e bits) :
    e ≤ p.edge ∧ p.edge + bitNs ≤ e + bitNs * bits.length ∧ p.width ≤ 3000 := by
  induction bits generalizing e with
  | nil => cases h
  | cons b bits ih =>
    rcases List.mem_cons.mp h with rfl | h
    · refine ⟨Nat.le_refl _, ?_, ?_⟩
      · simp [symbolPulse, bitNs]
      · cases b <;> simp [symbolPulse]
    · obtain ⟨h1, h2, h3⟩ := ih h
      simp only [bitNs, List.length_cons] at *
      exact ⟨by omega, by omega, h3⟩

/-- Pulses that end before a symbol do not give its leading edge. -/
theorem symbolEdge_append {e : Nat} {pre rest : Wave} (h : ∀ p ∈ pre, p.edge + bitNs ≤ e) :
    symbolEdge e (pre ++ rest) = symbolEdge e rest := by
  induction pre with
  | nil => rfl
  | cons p pre ih =>
    have hp := h p (List.mem_cons_self ..)
    have hne : ¬(classifyPulse p.width ≠ .noise ∧ e - slackNs ≤ p.edge ∧ p.edge ≤ e + slackNs) := by
      simp only [bitNs, slackNs] at *; omega
    simp only [List.cons_append, symbolEdge, hne, if_false]
    exact ih fun q hq => h q (List.mem_cons_of_mem _ hq)

/-- A symbol's own pulse gives its leading edge. -/
theorem symbolEdge_symbolPulse (e : Nat) (b : Bool) (rest : Wave) : symbolEdge e (symbolPulse e b :: rest) = e := by
  cases b <;> simp [symbolEdge, symbolPulse, classifyPulse, slackNs]

/-- At the middle of a symbol that stands apart from the others the bus is dominant for a 0 and recessive for a 1. -/
theorem dominantMid_middle {e : Nat} {b : Bool} {pre post : Wave} (hpre : ∀ p ∈ pre, p.edge + p.width ≤ e)
    (hpost : ∀ p ∈ post, e + bitNs ≤ p.edge) :
    dominantMid (pre ++ symbolPulse e b :: post) (e + bitNs / 2) = !b := by
  have h1 : pre.any (fun p => decide (p.edge ≤ e + bitNs / 2) && decide (e + bitNs / 2 ≤ p.edge + p.width)) = false := by
    simp only [List.any_eq_false, Bool.and_eq_true, decide_eq_true_eq, not_and]
    intro p hp _; have := hpre p hp; simp only [bitNs]; omega
  have h2 : post.any (fun p => decide (p.edge ≤ e + bitNs / 2) && decide (e + bitNs / 2 ≤ p.edge + p.width)) = false := by
    simp only [List.any_eq_false, Bool.and_eq_true, decide_eq_true_eq, not_and]
    intro p hp h; have := hpost p hp; simp only [bitNs] at *; omega
  simp only [dominantMid, List.any_append, List.any_cons, h1, h2, Bool.false_or, Bool.or_false]
  cases b <;> simp [symbolPulse, bitNs]

/-- Every bit of a run that nobody disturbs reads back as sent (R27). -/
theorem echoBits_clean (bits : List Bool) {e header : Nat} {pre post : Wave}
    (hpre : ∀ p ∈ pre, p.edge + bitNs ≤ e ∧ p.edge + p.width ≤ e) (hpost : ∀ p ∈ post, e + bitNs * bits.length ≤ p.edge) :
    echoBits (pre ++ symbolsFrom e bits ++ post) header e bits = .agreed (e + bitNs * bits.length) := by
  induction bits generalizing e header pre with
  | nil => simp [echoBits]
  | cons b bits ih =>
    have hw : pre ++ symbolsFrom e (b :: bits) ++ post = pre ++ symbolPulse e b :: (symbolsFrom (e + bitNs) bits ++ post) := by
      simp [symbolsFrom]
    have hnext : ∀ p ∈ symbolsFrom (e + bitNs) bits ++ post, e + bitNs ≤ p.edge := by
      intro p hp
      rcases List.mem_append.mp hp with hp | hp
      · exact (edge_of_symbolsFrom hp).1
      · have h := hpost p hp
        simp only [List.length_cons, Nat.mul_succ] at h
        omega
    have hedge : symbolEdge e (pre ++ symbolPulse e b :: (symbolsFrom (e + bitNs) bits ++ post)) = e := by
      rw [symbolEdge_append fun p hp => (hpre p hp).1, symbolEdge_symbolPulse]
    have hdom := dominantMid_middle (b := b) (fun p hp => (hpre p hp).2) hnext
    have hne : ¬((!b) = b) := by cases b <;> simp
    rw [hw]
    simp only [echoBits, hedge, hdom, hne, if_false]
    have hsplit : pre ++ symbolPulse e b :: (symbolsFrom (e + bitNs) bits ++ post) =
        (pre ++ [symbolPulse e b]) ++ symbolsFrom (e + bitNs) bits ++ post := by simp
    rw [hsplit, ih]
    · simp [bitNs]; omega
    · intro p hp
      rcases List.mem_append.mp hp with hp | hp
      · have := hpre p hp; omega
      · obtain rfl := List.mem_singleton.mp hp
        cases b <;> simp [symbolPulse, bitNs]
    · intro p hp
      have h := hpost p hp
      simp only [List.length_cons, Nat.mul_succ] at h
      omega

/-- Behind the CRC byte of a frame wave stands what is driven in its ack window. -/
theorem pulsesFrom_frameWave (bytes ack : List Byte) :
    pulsesFrom (frameDrive bytes).endNs (frameWave bytes ack) =
      symbolsFrom ((frameDrive bytes).endNs + eodNs) (bitsOf ack) := by
  have hlen : (bitsOf bytes).length = 8 * bytes.length := by
    simp [bitsOf, List.length_flatMap, byteBits]; omega
  have h1 : (frameDrive bytes).pulses.filter (fun p => decide ((frameDrive bytes).endNs ≤ p.edge)) = [] := by
    simp only [List.filter_eq_nil_iff, decide_eq_true_eq]
    intro p hp
    rcases List.mem_cons.mp hp with rfl | hp
    · simp [frameDrive, sofNs]
    · have := (edge_of_symbolsFrom hp).2.1
      rw [hlen] at this
      simp only [frameDrive, bitNs, sofNs] at *; omega
  have h2 : (symbolsFrom ((frameDrive bytes).endNs + eodNs) (bitsOf ack)).filter
      (fun p => decide ((frameDrive bytes).endNs ≤ p.edge)) =
      symbolsFrom ((frameDrive bytes).endNs + eodNs) (bitsOf ack) := by
    simp only [List.filter_eq_self, decide_eq_true_eq]
    intro p hp
    have := (edge_of_symbolsFrom hp).1
    omega
  simp [pulsesFrom, frameWave, List.filter_append, h1, h2]

/-- The echo of a frame wave agrees to the end of the CRC byte. -/
theorem echoBits_frameWave (bytes ack : List Byte) :
    echoBits (frameWave bytes ack) 16 sofNs (bitsOf bytes) = .agreed (frameDrive bytes).endNs := by
  have hlen : (bitsOf bytes).length = 8 * bytes.length := by
    simp [bitsOf, List.length_flatMap, byteBits]; omega
  have h := echoBits_clean (bitsOf bytes) (e := sofNs) (header := 16) (pre := [⟨0, sofNs⟩])
    (post := symbolsFrom ((frameDrive bytes).endNs + eodNs) (bitsOf ack))
    (by
      intro p hp
      obtain rfl := List.mem_singleton.mp hp
      exact ⟨by decide, Nat.le_of_eq (Nat.zero_add _)⟩)
    (by
      intro p hp
      have := (edge_of_symbolsFrom hp).1
      rw [hlen]
      simp only [frameDrive, eodNs] at this
      omega)
  rw [hlen] at h
  exact h

/-- The SOF of a frame wave is dominant throughout. -/
theorem sofDominant_frameWave (bytes ack : List Byte) : ¬sofDominant (frameWave bytes ack) < sofNs := by
  simp [sofDominant, frameWave, frameDrive]

/-- A frame whose SOF and symbols nobody disturbs, with an empty window: NO_ACK, and the EOF runs out (R28). -/
theorem sendOutcome_unacknowledged (bytes : List Byte) :
    sendOutcome bytes (frameWave bytes []) = .emptyWindow (frameEod bytes + bitNs) .closing := by
  have hp := pulsesFrom_frameWave bytes []
  simp only [bitsOf, List.flatMap_nil, symbolsFrom] at hp
  simp [sendOutcome, sofDominant_frameWave, echoBits_frameWave, hp, WindowRead.bus, frameEod]

/-- The same with two bytes of good form in its window: they are read, and the EOF runs out (R28). -/
theorem sendOutcome_acknowledged (bytes : List Byte) (code crc : Byte) :
    sendOutcome bytes (frameWave bytes [code, crc]) = .acked code crc (frameEod bytes + bitNs * 16) .closing := by
  obtain ⟨b, bits, hb⟩ : ∃ b bits, bitsOf [code, crc] = b :: bits := ⟨_, _, rfl⟩
  have hquiet : ∀ e, readQuiet e (symbolsFrom e (bitsOf [code, crc])) = .ok () e (symbolsFrom e (bitsOf [code, crc])) := by
    intro e
    rw [hb]
    cases b <;> simp [readQuiet, symbolsFrom, symbolPulse, classifyPulse]
  have hread := fun e => readBytes_symbolsFrom [code, crc] e []
  simp only [List.length_cons, List.length_nil, List.append_nil] at hread
  have hwin : ∀ e, readWindow e (symbolsFrom e (bitsOf [code, crc])) = .ack code crc (e + bitNs * 16) true := by
    intro e
    have hn : nextSymbol e (e + bitNs) (symbolsFrom e (bitsOf [code, crc])) = .bit b e (symbolsFrom (e + bitNs) bits) := by
      rw [hb]; exact nextSymbol_symbolPulse e (e + bitNs) e b _ (Nat.le_refl _) (Nat.le_add_right _ _)
    simp only [readWindow, hn]
    rw [show (2 : Nat) = 0 + 1 + 1 from rfl, hread]
    simp [byteAt, eofCloses]
  simp [sendOutcome, sofDominant_frameWave, echoBits_frameWave, pulsesFrom_frameWave, hquiet, hwin, WindowRead.bus, frameEod]

/-! ## The level of NTX while a frame is driven (R20, R41) -/

/-- A symbol's moment counted from the one before the first of its run. -/
theorem later_edge (q e k : Nat) : e + q + q * k = e + q * (k + 1) := by rw [Nat.mul_succ]; omega

/-- A later symbol's moment is past a pulse that a bit time holds. -/
theorem past_pulse {q e k x w : Nat} (hw : w ≤ q) (h : e + q * (k + 1) ≤ x) : e + w ≤ x := by
  rw [Nat.mul_succ] at h; omega

/-- Within the bit time of a symbol the bus is dominant for its first quarter or its first three (R20). -/
theorem dominantAt_symbolsFrom {bits : List Bool} {e k x : Nat} {b : Bool} (hb : bits[k]? = some b) (hlo : e + bitNs * k ≤ x)
    (hhi : x < e + bitNs * (k + 1)) :
    dominantAt (symbolsFrom e bits) x = decide (x < e + bitNs * k + if b then 1000 else 3000) := by
  induction bits generalizing e k with
  | nil => simp at hb
  | cons c bits ih =>
    cases k with
    | zero =>
      obtain rfl : c = b := by simpa using hb
      have hlater : dominantAt (symbolsFrom (e + bitNs) bits) x = false := by
        simp only [dominantAt, List.any_eq_false, Bool.and_eq_true, decide_eq_true_eq, not_and]
        intro p hp h
        have := (edge_of_symbolsFrom hp).1
        simp only [bitNs] at *; omega
      simp only [dominantAt] at hlater
      simp only [dominantAt, symbolsFrom, List.any_cons, hlater, Bool.or_false, Nat.mul_zero, Nat.add_zero] at *
      simp only [symbolPulse, hlo, decide_true, Bool.true_and]
      exact decide_eq_decide.mpr Iff.rfl
    | succ k =>
      have hfirst : (decide ((symbolPulse e c).edge ≤ x) &&
          decide (x < (symbolPulse e c).edge + (symbolPulse e c).width)) = false := by
        simp only [Bool.and_eq_false_iff, decide_eq_false_iff_not]
        right
        cases c
        · exact Nat.not_lt.mpr (past_pulse (w := 3000) (by decide) hlo)
        · exact Nat.not_lt.mpr (past_pulse (w := 1000) (by decide) hlo)
      have hb' : bits[k]? = some b := by simpa using hb
      have he := later_edge bitNs e k
      have he' := later_edge bitNs e (k + 1)
      have hk := ih (e := e + bitNs) hb' ((Nat.le_of_eq he).trans hlo) (Nat.lt_of_lt_of_eq hhi he'.symm)
      simp only [dominantAt] at hk
      simp only [dominantAt, symbolsFrom, List.any_cons, hfirst, Bool.false_or, hk]
      rw [he]

end Sys2Proof.Machine
end

