-- ==== Sys2Proof/Tests/Slice0.lean ====
section
/-! SUPPORT. Tests: ill-formed commands, the spec's worked cases, and for every statement a state that meets its
hypotheses. -/

-- One theorem is checked at a time: many kernel evaluations at once ask for more threads than the memory limit leaves.
set_option Elab.async false

namespace Sys2Proof.Tests

open Sys2Proof Sys2Proof.Machine

/-! ## Small states -/

/-- The state a command leaves. -/
def after (c : Instr) (s : State) : State :=
  match exec c s with
  | .next t => t
  | .fault _ => s
  | .refused _ => s

/-- A DEMAND payload. -/
def demandOf (traction brake speed mass pAux : Nat) (flags : Byte) : List Byte :=
  be32 traction ++ be16 brake ++ be16 speed ++ be16 mass ++ be16 pAux ++ [flags]

/-- STANDBY after reset, with a stored report and PRESENT for the five control nodes: SOC 600, the limits of sections 5.5 and
7.5, pads at 180 and 260 °C, the engine OFF with 40000 N, coolant 35 °C. -/
def up : State :=
  let s := State.reset
  let s := s.takeReport .inv ([0x18] ++ be16 1000 ++ be16 2600 ++ be16 2200 ++ [100]) false
  let s := s.takeReport .bat ([0x18] ++ be16 600 ++ be16 300 ++ be16 400 ++ be16 80 ++ [71]) false
  let s := s.takeReport .bkf ([0x18] ++ be16 0 ++ be16 180 ++ be16 260) false
  let s := s.takeReport .bkr ([0x18] ++ be16 0 ++ be16 180 ++ be16 180) false
  s.takeReport .eng ([0x18, 0] ++ be16 4000 ++ [75, 0]) false

/-- The same in a mode. -/
def inMode (m : Mode) : State := up.setMode m

/-- READY, with the load complete, Δt 50 ms from the last DEMAND, and every item OK. -/
def driving : State :=
  let s := up.setMode .ready
  let w : WearItem := ⟨0, 0, .ok, 0⟩
  let s := s.setWear { s.wear with load := .good, items := #v[w, w, w, w, w, w] }
  (s.setRunTime 1000).setDemand { s.demand with lastDemand := some 950, motion := .moving }

/-- The engine machine put into a state. -/
def engineAt (m : EngineState) (s : State) : State := s.setEsc { s.esc with machine := m }

/-- A fault in the list. -/
def withFault (k : FaultKind) (level : Level) (factor : Nat) (present : Bool) (s : State) : State :=
  s.setFaults { s.faults with active := [⟨k, level, factor, 0, 1, 0, present⟩] }

/-- SERVICE in STANDBY with SVC high. -/
def service (s : State) : State := (s.setSvc true).setHli { s.hli with access := .service }

/-- A queue entry in flight to a node, its frame on the bus. -/
def flying (e : Entry) (s : State) : State :=
  s.setNlc { s.nlc with queue := [{ e with inFlight := true }], tx := .frame e.frame, bus := .busy }

/-- An ENG FORCE 0 of the ESC. -/
def forceEntry : Entry :=
  { target := .eng, kind := .force, payload := [0, 0], priority := 5, origin := .engine, attempts := 0, held := false,
    entryTime := 0, order := 0, reply := .none, last := none, inFlight := false, fate := .returns }

/-- A CONFIRMED tunnel entry to BKR. -/
def tunnelEntry : Entry := { forceEntry with target := .bkr, kind := .tunnel 0, payload := [1, 2], priority := 6,
                                             origin := .tunnel, reply := .confirmed 9 2 }

/-- Every inbox slot taken, with some BUSY replies waiting. -/
def fullInbox (n : Nat) (s : State) : State :=
  let q : Option InboxRequest := some ⟨1, 5, false⟩
  s.setHli { s.hli with slots := #v[q, q, q, q], sending := some ⟨1, 5, [0], some 0⟩,
                        waiting := List.replicate n ⟨2, 5, [2], none⟩ }

/-- The bytes of a node's frame from H1 to the CRC byte, written from the table of R24: priority 0. -/
def nodeBytes (target cls source : Nat) (retry : Bool) (payload : List Byte) : List Byte :=
  let head := byte (target * 4 + cls) :: byte (source * 32 + bit retry * 16 + payload.length) :: payload
  head ++ [crc8 head]

/-- A report of ENG: alive 2, READY, RUNNING, 40000 N, coolant 80 °C. -/
def engPayload : List Byte := [0x28, 2] ++ be16 4000 ++ [120, 0]

/-- The frame of that report to the 620. -/
def engBytes : List Byte := nodeBytes 0 0 1 false engPayload

/-- The wave of that report with the 620's own acknowledgement ACCEPTED in its window. -/
def engWave : Wave := frameWave engBytes [0, crc8 [0]]

/-- The part with the bus idle. -/
def onIdleBus (s : State) : State := s.setNlc { s.nlc with bus := .idle }

/-- What it takes for a request to be heard. -/
theorem hears_of {s : State} {i : Fin 4}
    (h : s.supply = .on ∧ s.mode ≠ .parked ∧ s.hli.freeSlot = some i ∧ s.hli.ordered) : s.Hears i :=
  ⟨h.1, h.2.1, h.2.2.1, h.2.2.2⟩

/-- What it takes for a request to be accepted. -/
theorem accepts_of {s : State} {i : Fin 4}
    (h : (s.supply = .on ∧ s.mode ≠ .parked ∧ s.hli.freeSlot = some i ∧ s.hli.ordered) ∧ s.mode.live = true) : s.Accepts i :=
  ⟨hears_of h.1, h.2⟩

/-- What it takes for a wave to carry a frame. -/
theorem carries_of {w : Wave} {source : Option NodeAddr} {cls : FrameClass} {retry : Bool} {payload : List Byte} {eod : Nat}
    {rest : Wave} (h1 h2 : Byte) (h : readFrame w = .good h1 h2 payload eod rest ∧ targetCode h1 = 0 ∧ frameClass h1 = cls ∧
      frameSource h2 = source ∧ frameRetry h2 = retry) (hb : hasBreak w = false) :
    Carries w source cls retry payload eod rest := ⟨⟨h1, h2, h⟩, hb⟩

/-- The report of ENG and its window, as the receiver reads them. -/
theorem engWave_carries : Carries engWave (some .eng) .report false engPayload
    ((frameDrive engBytes).endNs + eodNs) (symbolsFrom ((frameDrive engBytes).endNs + eodNs) (bitsOf [0, crc8 [0]])) :=
  carries_of 0x00 0x26 (by decide +kernel) (by decide +kernel)

/-- A part in STANDBY or READY on the idle bus may follow a frame. -/
theorem follows_of {s : State} (h : s.supply = .on ∧ s.nlc.link.receives = true ∧ s.nlc.tx = .idle ∧
    (s.nlc.bus = .idle ∨ s.nlc.bus = .following)) : s.Follows := ⟨h.1, h.2.1, h.2.2.1, h.2.2.2⟩

/-- A part in STANDBY or READY on the idle bus hears the fresh report of ENG. -/
theorem fresh_of {s : State} (h : (s.supply = .on ∧ s.nlc.link.receives = true ∧ s.nlc.tx = .idle ∧
    (s.nlc.bus = .idle ∨ s.nlc.bus = .following)) ∧ s.mode ≠ .parked ∧ (s.node .eng).lastAlive ≠ some (aliveOf engPayload)) :
    s.HearsFresh .eng engPayload engWave :=
  ⟨follows_of h.1, ⟨_, _, _, engWave_carries⟩, by decide +kernel, h.2.1, h.2.2⟩

/-- A report of ENG: alive 2, READY, OFF. -/
def engOff : List Byte := [0x28, 0] ++ be16 4000 ++ [120, 0]

/-- The wave of that report. -/
def offWave : Wave := frameWave (nodeBytes 0 0 1 false engOff) []

/-- The same of the report of OFF. -/
theorem freshOff_of {s : State} (h : (s.supply = .on ∧ s.nlc.link.receives = true ∧ s.nlc.tx = .idle ∧
    (s.nlc.bus = .idle ∨ s.nlc.bus = .following)) ∧ s.mode ≠ .parked ∧ (s.node .eng).lastAlive ≠ some (aliveOf engOff)) :
    s.HearsFresh .eng engOff offWave :=
  ⟨follows_of h.1, ⟨false, 308000, [], carries_of 0x00 0x26 (by decide +kernel) (by decide +kernel)⟩, by decide +kernel, h.2.1, h.2.2⟩

/-- A report of BKF: alive 2, READY, FAULT, SLIP. -/
def bkfSlip : List Byte := [0x2E] ++ be16 0 ++ be16 180 ++ be16 260

/-! ## Ill-formed commands -/

theorem test_wf_badFrame_good_crc : wellFormed (.hostFrameBadCrc [7, 5] (crc16 [2, 7, 5])) = false := by decide +kernel
theorem test_wf_badFrame_short : wellFormed (.hostFrameBadCrc [7] 0) = false := by decide +kernel
theorem test_wf_badFrame_long : wellFormed (.hostFrameBadCrc (List.replicate 251 0) 0) = false := by decide +kernel
theorem test_wf_length_byte : wellFormed (.hostFramingError (.lengthByte 2)) = false ∧
    wellFormed (.hostFramingError (.lengthByte 1)) = true ∧ wellFormed (.hostFramingError (.lengthByte 250)) = false ∧
    wellFormed (.hostFramingError (.lengthByte 251)) = true := by decide +kernel
theorem test_wf_gap : wellFormed (.interByteGapTimeout 200) = false ∧ wellFormed (.interByteGapTimeout 201) = true := by
  decide +kernel
theorem test_wf_unknown_kind : wellFormed (.requestUnknownKind 0 0x01 []) = false ∧
    wellFormed (.requestUnknownKind 0 0x12 []) = true := by decide +kernel
theorem test_wf_unknown_sub : wellFormed (.requestUnknownKind 0 0x02 [3]) = false ∧
    wellFormed (.requestUnknownKind 0 0x02 [4]) = true := by decide +kernel
theorem test_wf_whole_payload : wellFormed (.demand 0 (List.replicate 249 0)) = false ∧
    wellFormed (.demand 0 (List.replicate 248 0)) = true := by decide +kernel
theorem test_wf_rest_payload : wellFormed (.routeZoneEnter 0 (List.replicate 248 0)) = false := by decide +kernel
theorem test_wf_image : wellFormed (.saveComplete (some (List.replicate 43 0))) = false := by decide +kernel
/-- The destination of the frame decides the row, and the operands are those of the wave. -/
theorem test_wf_report : wellFormed (.reportReceived .eng false engPayload engWave) = true ∧
    wellFormed (.reportReceived .eng true engPayload engWave) = false ∧
    wellFormed (.reportReceived .inv false engPayload engWave) = false ∧
    wellFormed (.tunnelFrameReceived .eng false engPayload engWave) = false ∧
    wellFormed (.nodeFrameRefused (some .eng) .report false engPayload engWave) = false ∧
    wellFormed (.dnlFrameCrcError engWave) = false := by decide +kernel

/-- A report of the wrong length, and a command to the 620, are refused; a frame to another node is none of the three. -/
theorem test_wf_refused :
    let short := frameWave (nodeBytes 0 0 1 false [0x28]) []
    let other := frameWave (nodeBytes 2 2 1 false [1]) []
    wellFormed (.reportReceived .eng false [0x28] short) = false ∧
    wellFormed (.nodeFrameRefused (some .eng) .report false [0x28] short) = true ∧
    wellFormed (.nodeFrameRefused (some .eng) .command false [1] (frameWave (nodeBytes 0 2 1 false [1]) [])) = true ∧
    wellFormed (.nodeFrameRefused (some .eng) .command false [1] other) = false ∧
    wellFormed (.dnlFrameCrcError other) = true := by decide +kernel

theorem test_wf_tunnel :
    let w := frameWave (nodeBytes 0 3 6 false [7]) []
    wellFormed (.tunnelFrameReceived .aux1 false [7] w) = true ∧ wellFormed (.reportReceived .aux1 false [7] w) = false := by
  decide +kernel

/-- Pulses that touch other than at an SOF's end, stand out of order or last no time make no wave, nor does none. -/
theorem test_wf_wave : wellFormed (.frameCompletion []) = false ∧ wellFormed (.frameCompletion [⟨0, 12000⟩]) = true ∧
    wellFormed (.frameCompletion [⟨0, 0⟩]) = false ∧ wellFormed (.frameCompletion [⟨0, 10⟩, ⟨10, 10⟩]) = false ∧
    wellFormed (.frameCompletion [⟨50, 10⟩, ⟨0, 10⟩]) = false ∧
    wellFormed (.frameCompletion [⟨0, 12000⟩, ⟨12000, 1000⟩]) = true := by decide +kernel

theorem test_wf_noise : wellFormed (.noisePulse 160000) = false ∧ wellFormed (.noisePulse 159999) = true := by decide +kernel
theorem test_wf_busReset : wellFormed (.busReset 159999) = false ∧ wellFormed (.busReset 160000) = true := by decide +kernel

/-! ## Check values of the spec -/

/-- R206: the CRC-16 of "123456789". -/
theorem test_crc16 : crc16 [0x31, 0x32, 0x33, 0x34, 0x35, 0x36, 0x37, 0x38, 0x39] = 0x29B1 := by decide +kernel

/-- Section 9.5: the CRC-32 of "123456789". -/
theorem test_crc32 : crc32 [0x31, 0x32, 0x33, 0x34, 0x35, 0x36, 0x37, 0x38, 0x39] = 0xCBF43926 := by decide +kernel

/-! ## Symbols and frames on the node link (sections 2.1, 2.2, 2.7) -/

/-- 0xC3 and 0x05 on the line: start bit, data bits least significant first, stop bit (section 11.1). -/
theorem test_bytes_on_the_host_line :
    bytesLine [0xC3, 0x05] =
      [.low, .high, .high, .low, .low, .low, .low, .high, .high, .high,
       .low, .high, .low, .high, .low, .low, .low, .low, .low, .high] := by decide +kernel

/-- A STATUS request, C3 02 07 05 and CRC 0x6BCE, on HRX after 500 µs of idle line; with a gap of 200 µs inside it; after a frame that a
gap of 201 µs breaks off; and to a PARKED part (R205, R207, R9). -/
theorem test_status_on_hrx :
    let frame := [0xC3, 0x02, 0x07, 0x05, 0x6B, 0xCE].map byteLine
    let heard := fun (s : State) (l : List HostLine) => (s.hearHrx l.flatten).pending
    heard State.reset (List.replicate 500 .high :: frame) = [.status 7 []] ∧
    heard State.reset (frame.take 3 ++ [List.replicate 200 .high] ++ frame.drop 3) = [.status 7 []] ∧
    heard State.reset (frame.take 3 ++ [List.replicate 201 .high] ++ frame) = [.interByteGapTimeout 201, .status 7 []] ∧
    heard (State.reset.setMode .parked) frame = [.wakeOnHrx] := by decide +kernel

/-- A low stop bit in HUNT and in a frame, and a wrong length byte (R205). -/
theorem test_bad_bytes_on_hrx :
    let bad : HostLine := [.low, .high, .high, .low, .low, .low, .low, .high, .high, .low]
    (State.reset.hearHrx (bad ++ bytesLine [0xC3] ++ bad)).pending = [.hostFramingError .badByte] ∧
    (State.reset.hearHrx (bytesLine [0xC3, 0xFB])).pending = [.hostFramingError (.lengthByte 0xFB)] := by decide +kernel

/-- An OK reply to MODE with tag 7, C3 05 07 84 00 and so on, on HTX: bits 1 and 2 of the sync byte, its bit 2, its stop bit, the start
bit and bit 0 of the length byte, and the line after the frame of 9 bytes (R209, section 11.1). -/
theorem test_reply_on_htx :
    let h := (State.reset.ready ⟨7, 4, [0, 1, 0], some 0⟩).hli
    [500, 1500, 2500, 3500, 9500, 10500, 11500, 12500, 89999, 90000].map h.htx =
      [.low, .high, .high, .low, .high, .low, .high, .low, .high, .high] := by decide +kernel

/-- R20, R24: 0xA4 is 10100100, most significant bit first; a 1 is dominant for 1 µs of its 4 µs, a 0 for 3 µs. -/
theorem test_symbols_of_a_byte : symbolsFrom 12000 (bitsOf [0xA4]) =
    [⟨12000, 1000⟩, ⟨16000, 3000⟩, ⟨20000, 1000⟩, ⟨24000, 3000⟩, ⟨28000, 3000⟩, ⟨32000, 1000⟩, ⟨36000, 3000⟩, ⟨40000, 3000⟩] := by
  decide +kernel

/-- R21's table at the boundaries of a bit's length. -/
theorem test_bit_lengths : classifyPulse 1999 = .bit1 ∧ classifyPulse 2000 = .bit0 ∧ classifyPulse 3999 = .bit0 ∧
    classifyPulse 4000 = .formError ∧ classifyPulse 160000 = .brk := by decide +kernel

/-- R24: INV SETPOINT at priority 2 is 010 010 01; a retry of 10 bytes from BAT is 011 1 1010, from the 620 000 1 1010. -/
theorem test_headers : header1 2 (nodeCode .inv) 1 = 0x49 ∧ header2 true 10 = 0x1A ∧ targetCode 0x49 = 2 ∧
    frameClass 0x49 = .setpoint ∧ frameSource 0x7A = some .bat ∧ frameRetry 0x7A = true ∧ payloadLength 0x7A = 10 := by
  decide +kernel

/-- Section 2.2: 204 µs with no payload and an ack at once, 592 µs with 12 bytes and the longest wait. -/
theorem test_frame_lengths :
    frameEod [0, 0, 0] + (AckSent.drive ⟨[0, 0], 0, 64000⟩).endNs + eofNs = 204000 ∧
    frameEod (List.replicate 15 0) + bitNs + (AckSent.drive ⟨[0, 0], 0, 64000⟩).endNs + eofNs = 592000 := by decide +kernel

/-- R37, R38: a report is acknowledged by 16 symbols, and its EOF runs out. -/
theorem test_report_on_the_bus :
    let t := after (.reportReceived .eng false engPayload engWave) (onIdleBus up)
    (t.nlc.ack, t.nlc.bus, t.nodes.engReport.map EngReport.coolant, (t.node .eng).lastAlive) =
      (some ⟨[0, crc8 [0]], 308000, 64000⟩, .closing, some 80, some 2) := by decide +kernel

/-- R38: with no acknowledgement to be read back the first 0 fails at the middle of its symbol; the frame stays handed on. -/
theorem test_ack_echo_fails :
    let t := after (.reportReceived .eng false engPayload (frameWave engBytes [])) (onIdleBus up)
    (t.nlc.ack, t.nlc.bus, (t.node .eng).lastAlive) = (some ⟨[0, crc8 [0]], 308000, 2000⟩, .waiting, some 2) := by decide +kernel

/-- R26, R36: a frame whose last byte is off by one bit. -/
theorem test_bad_crc :
    let t := after (.dnlFrameCrcError (frameWave [0x0A, 0x21, 1, crc8 [0x0A, 0x21, 1] ^^^ 1] [])) (onIdleBus up)
    (t.nlc.crcErrors, t.nlc.bus, t.nlc.ack) = (1, .closing, none) := by decide +kernel

/-- R21: an edge 0.5 µs late is taken and moves the timing on; one 0.501 µs late is a form error. -/
theorem test_edge_window :
    readBits 2 12000 [⟨12500, 1000⟩, ⟨16500, 3000⟩] = .ok [true, false] 20500 [] ∧
    readBits 2 12000 [⟨12501, 1000⟩, ⟨16501, 3000⟩] = .formError := by decide +kernel

/-- R21, R27: a pulse of 2000 ns is dominant at the middle of its symbol, one of 1999 ns is not. -/
theorem test_middle_of_a_symbol :
    echoBits [⟨12000, 2000⟩] 16 12000 [false] = .agreed 16000 ∧ echoBits [⟨12000, 1999⟩] 16 12000 [false] = .bitErr 14000 ∧
    echoBits [⟨12000, 2000⟩] 16 12000 [true] = .lost 14000 ∧ echoBits [⟨12000, 2000⟩] 0 12000 [true] = .bitErr 14000 := by
  decide +kernel

/-- R27, R41: NLEN is released at the mismatch: within an SOF that is cut at 11 µs; at the middle of the first 0 of H1, its
third symbol, that reads back as 1. -/
theorem test_nlen_at_a_mismatch :
    let s := flying tunnelEntry up
    let sof := after (.frameCompletion [⟨0, 11000⟩]) s
    let bit := after (.frameCompletion [⟨0, 12000⟩]) s
    (sof.nlc.nlen 10999, sof.nlc.nlen 11000) = (true, false) ∧ bit.nlc.tx = .ended .bitErr tunnelEntry.frame 22000 ∧
      (bit.nlc.nlen 21999, bit.nlc.nlen 22000, s.nlc.nlen 22000) = (true, false, true) := by decide +kernel

/-- R21, R28: a second pulse of 0.5 µs in the bit time of the last ack symbol is a form error in the window; one of less is noise. -/
theorem test_second_pulse_in_the_window :
    let b := tunnelEntry.frame
    let at16 := fun ns => sendOutcome b (frameWave b [0, crc8 [0]] ++ [⟨frameEod b + 63500, ns⟩])
    at16 500 = .windowError (frameDrive b).endNs ∧ at16 499 = .acked 0 (crc8 [0]) (frameEod b + 64000) .closing := by decide +kernel

/-- R34: two runs of 160 µs in one wave are two bus resets. -/
theorem test_two_breaks :
    (after (.dnlFrameCrcError [⟨0, 160000⟩, ⟨170000, 170000⟩]) (onIdleBus up)).nlc.busResets = 2 := by decide +kernel

/-- R42: a noise pulse or a break in the EOF, behind a link that is left, wakes a part with wake-on-node set; nothing else does. At
the idle bus the level of a node that has begun does the same, and so does the rest of a run that ends the frame. -/
theorem test_level_after_leaving :
    let e := { forceEntry with fate := .final }
    let s := (flying e up).setMode .parked
    let s := s.setNlc { s.nlc with link := .leaving }
    let on := s.setParams (setParam s.params .attention 1024)
    let w := frameWave e.frame [0, crc8 [0]]
    let wakes := fun c s => (after c s).waking
    (wakes (.frameCompletion (w ++ [⟨frameEod e.frame + 66000, 300⟩])) on, wakes (.frameCompletion w) on,
        wakes (.frameCompletion (w ++ [⟨frameEod e.frame + 66000, 300⟩])) s) = (true, false, false) ∧
      [160000, 160001].map (fun ns => wakes (.busReset ns) on) = [false, true] ∧
      [false, true].map (fun taken => wakes (.busIdle taken) (on.setNlc { on.nlc with queue := [], tx := .brk .released })) =
        [false, true] := by decide +kernel

/-- R30, R31: the third failure of an entry in flight at PARKED entry counts its miss in the record that R45 reset; its first does not,
and either is the last code. -/
theorem test_record_of_a_frame_settled_in_parked :
    let fails := fun k =>
      let e := { forceEntry with attempts := k }
      let r := (after (.frameCompletion (frameWave e.frame [])) (after (.modePark 1 []) (flying e up))).node .eng
      (r.presence, r.misses, r.lastCode)
    (fails 1, fails 2) = ((.absent, 0, some .noAck), (.absent, 1, some .noAck)) := by decide +kernel

/-- R31, R73: NOT_READY in PARKED holds the node, but not one that was LOST while its frame was in flight. -/
theorem test_hold_of_a_frame_settled_in_parked :
    let held := fun fate =>
      ((after (.frameCompletion (frameWave forceEntry.frame [0x10, crc8 [0x10]]))
        (after (.modePark 1 []) (flying { forceEntry with fate := fate } up))).node .eng).held
    (held .returns, held .nodeLost) = (true, false) := by decide +kernel

/-- R37: a part that has entered PARKED and still has a break to send answers a COMMAND of ENG with INVALID and counts it. -/
theorem test_reject_counts_in_parked :
    let s := after (.modePark 1 []) (onIdleBus (up.setNlc { up.nlc with breakDue := true }))
    let t := after (.nodeFrameRefused (some .eng) .command false [1] (frameWave (nodeBytes 0 2 1 false [1]) [0x11, crc8 [0x11]])) s
    (s.mode, s.nlc.link, (t.node .eng).rejects, t.nlc.ack.map (fun a => a.bytes)) =
      (.parked, .leaving, 1, some [0x11, crc8 [0x11]]) := by decide +kernel

/-- R22: a wave of nothing but noise leaves an EOF as it is; a pulse of 0.5 µs ends it. -/
theorem test_noise_in_an_eof :
    let s := up.setNlc { up.nlc with bus := .closing }
    let on := fun w => after (.dnlFrameCrcError w) s
    (on [⟨0, 499⟩]).nlc = { s.nlc with noise := 1 } ∧ (on [⟨0, 499⟩, ⟨900, 500⟩]).nlc.bus = .waiting := by decide +kernel

/-- R54, R85: a record that is 100 ms old under a t_stale of 101 and of 100, and a slip-hold of 299 ms under a t_slip of 300 and of
299 (log 23). -/
theorem test_config_retimes :
    let s := service (up.setRunTime 100)
    let stale := fun v => ((after (.configSet 1 (38 :: be32 v)) s).node .eng)
    let u := (up.setRunTime 299).setBbu { up.bbu with slipHold := some 1, lastSlip := some 0 }
    ((stale 101).staleTimer, (stale 101).presence, (stale 100).staleTimer, (stale 100).presence) =
        (some 1, .present, none, .stale) ∧
      [300, 299].map (fun v => (after (.configSet 1 (14 :: be32 v)) u).bbu.slipHold) = [some 1, none] := by decide +kernel

/-- R42, R43: once the last frame is DONE the link is left, and noise and a break in its EOF are not received; noise before is. -/
theorem test_link_left_within_a_wave :
    let s := flying forceEntry up
    let b := forceEntry.frame
    let w := [⟨0, 12000⟩] ++ (frameWave b [0, crc8 [0]]).tail ++ [⟨frameEod b + 63600, 300⟩, ⟨frameEod b + 65000, 300⟩,
      ⟨frameEod b + 66000, 160000⟩]
    let on := fun l => (after (.frameCompletion w) (s.setNlc { s.nlc with link := l })).nlc
    ((on .halting).noise, (on .halting).busResets, (on .halting).link) = (1, 0, .silent) ∧
      ((on .leaving).noise, (on .leaving).busResets, (on .leaving).link) = (1, 0, .away) ∧
      ((on .up).noise, (on .up).busResets) = (2, 1) := by decide +kernel

/-- Section 2.7: BKF PRESSURE at priority 1 loses at its first target bit to BKR's report at priority 1, which is acknowledged;
at the idle bus the entry is back with its count and goes out again. The 620 drives its own frame to the middle of that bit, and
then the acknowledgement alone. -/
theorem test_lost_arbitration :
    let e : Entry := { forceEntry with target := .bkf, kind := .pressure, payload := [1, 0, 113], priority := 1 }
    let head : List Byte := [0x20, 0xA7] ++ [0x28] ++ be16 0 ++ be16 180 ++ be16 180
    let s := flying e up
    let t := after (.frameCompletion (frameWave (head ++ [crc8 head]) [0, crc8 [0]])) { s with nlc := { s.nlc with failures := 5 } }
    let u := after (.busIdle false) t
    t.nlc.tx = .ended .lost e.frame 26000 ∧ t.nlc.ack = some ⟨[0, crc8 [0]], 340000, 64000⟩ ∧
      [25999, 26000, 339999, 340000, 403999, 404000].map t.nlc.nlen = [true, false, false, true, true, false] ∧
      (t.node .bkr).lastAlive = some 2 ∧
      u.nlc.tx = .frame e.frame ∧ u.nlc.failures = 5 ∧ u.nlc.queue = [{ e with inFlight := true, last := some .lost }] := by
  decide +kernel

/-- Section 2.7: the eighth failure makes a break due; it is one bus reset, and the entry goes out after it with its count. -/
theorem test_break :
    let e : Entry := { forceEntry with target := .inv, kind := .torque, priority := 2, attempts := 1 }
    let s := flying e up
    let t := after (.frameCompletion (frameWave e.frame [])) { s with nlc := { s.nlc with failures := 7, busResets := 17 } }
    let u := (after (.busIdle false) t).tick
    let v := after (.busIdle false) u
    t.nlc.failures = 8 ∧ t.nlc.breakDue = true ∧ u.nlc.busResets = 18 ∧ u.nlc.failures = 0 ∧
      v.nlc.tx = .frame { e with attempts := 2 }.frame := by decide +kernel

/-- R51, R138: a report, or a DEMAND, that is taken first leaves nothing to a late expiry. -/
theorem test_late_expiry :
    let s := onIdleBus (up.setNode .eng { up.node .eng with staleTimer := some 0 })
    let d := driving.setDemand { driving.demand with freshness := some 0 }
    ((after (.staleTimerExpiry .eng) (after (.reportReceived .eng false engPayload engWave) s)).node .eng).presence = .present ∧
      (after .freshnessTimerExpiry (after (.demand 1 (demandOf 0 150 1000 16000 20000 0)) d)).bbu.result.trigger = .demand := by
  decide +kernel

/-- R211: a wake from PARKED leaves the inbox and the replies empty and the level DRIVE. -/
theorem test_wake_empties_the_inbox :
    let t := after .wakeEnd (((fullInbox 2 (service up)).setMode .parked).setWaking true)
    t.mode = .standby ∧ t.hli.slots = #v[none, none, none, none] ∧ t.hli.line = [] ∧ t.hli.access = .drive := by decide +kernel

/-! ## Worked blends (sections 5.5 to 5.8) -/

/-- The inputs of section 5.5. -/
def nominal : BlendInputs :=
  { mass := 16000, brake := 150, speed := 1000, pAux := 20000, reverse := false, charge := 150000, tGen := 2200, level := .none,
    factor := 256, front := .ok, rear := .ok, nodeLost := false, slip := false, held := false, prev := 14000 }

/-- Section 5.5. -/
theorem test_blend_nominal : nominal.result defaultParams .demand =
    ⟨.demand, 24000, 15559, 1149, 8441, 0, 113, 0, 0, 0, .stability⟩ := by decide +kernel

/-- Section 5.6: the slip cut at 20 ms and the ramp at 350 ms. -/
theorem test_blend_slip : ({ nominal with slip := true, prev := 15559 }).result defaultParams .cut =
      ⟨.cut, 24000, 0, 0, 10781, 13219, 144, 147, 0, 0, .abs⟩ ∧
    ({ nominal with speed := 948, prev := 0 }).result defaultParams .demand =
      ⟨.demand, 24000, 2992, 221, 10781, 10227, 144, 114, 0, 0, .ramp⟩ := by decide +kernel

/-- Section 5.7, the rows at 180 and at 80. -/
theorem test_blend_fade :
    ({ nominal with mass := 12000, brake := 120, speed := 180, prev := 9330 }).result defaultParams .demand =
      ⟨.demand, 14400, 7908, 584, 6468, 24, 87, 1, 0, 0, .fade⟩ ∧
    ({ nominal with mass := 12000, brake := 120, speed := 80, prev := 7908 }).result defaultParams .demand =
      ⟨.demand, 14400, 0, 0, 6468, 7932, 87, 89, 0, 0, .fade⟩ := by decide +kernel

/-- Section 5.8. -/
theorem test_blend_saturated :
    ({ nominal with mass := 30000, brake := 500, speed := 60 }).result (setParam defaultParams .pMax 800) .demand =
      ⟨.demand, 150000, 0, 0, 67382, 82618, 800, 800, 7382, 10618, .fade⟩ := by decide +kernel

/-- Section 5.5's energies, with the front and recovered remainders. -/
theorem test_blend_energy :
    let e := BrakeUnit.initial.energies (nominal.result defaultParams .demand) 1000 50
    (e.whole, e.reg % 100000, e.front % 100000) = (⟨7779, 4220, 0⟩, 50000, 50000) := by decide +kernel

/-! ## Worked splits (sections 7.5 to 7.7) -/

/-- The inputs of section 7.5. -/
def drive : SplitInputs :=
  { traction := 30000, speed := 800, pAux := 20000, reverse := false, tMot := 2600, discharge := 200000, tGen := 2200,
    charge := 150000, level := .none, factor := 256, machine := .run, force := 40000, soc := some 600 }

/-- Section 7.5. -/
theorem test_split_electric_first : drive.result defaultParams = ⟨30000, 20214, 20214, 9786, 0, 0, 1492, 978⟩ := by
  decide +kernel

/-- Section 7.6, with its last paragraph. -/
theorem test_split_sustaining :
    ({ drive with traction := 8000, speed := 600, soc := some 500 }).result defaultParams =
      ⟨8000, 26953, 0, 8000, 5000, 0, -369, 1300⟩ ∧
    (({ drive with traction := 45000, speed := 600, soc := some 500 }).result defaultParams).fE = 5000 := by decide +kernel

/-- Section 7.7. -/
theorem test_split_limp : ({ drive with level := .limp, factor := 128, machine := .warmup }).result defaultParams =
    ⟨15000, 10107, 10107, 4893, 0, 0, 746, 489⟩ := by decide +kernel

/-! ## Worked events and wear (sections 6.7, 6.8, 9.2, 9.8) -/

/-- Section 6.7: the tally with STABILITY 2 and ABS 2 is decided for ABS. -/
theorem test_dominant_term :
    dominantTerm (countTerm .abs (countTerm .abs (countTerm .stability (countTerm .stability noTally)))) = .abs := by
  decide +kernel

/-- Section 6.8's ring: records 26 to 57. -/
def gapLog : EventLog :=
  ⟨none, (List.range 32).map (fun n => ⟨BitVec.ofNat 32 (26 + n), 0, 0, 0, 0, 0, 0, 0, .released, .none, false, none⟩), 58, 26⟩

/-- Section 6.8: starts 20, 55 and 58. -/
theorem test_events_after_gap :
    (gapLog.select 20).2 = true ∧ (gapLog.select 20).1.map (fun r => r.seq.toNat) = [26, 27, 28, 29] ∧
    (gapLog.select 55).2 = false ∧ (gapLog.select 55).1.map (fun r => r.seq.toNat) = [55, 56, 57] ∧
    gapLog.select 58 = ([], false) := by decide +kernel

/-- Section 9.2's worked step: 4220 J on the front axle, pads at 180 and 260 °C. -/
theorem test_pad_wear :
    let s := (driving.setWearItem .padFL ⟨412000, 8500, .ok, 0⟩).setWearItem .padFR ⟨411990, 9000, .ok, 0⟩
    let t := s.padWear 4220 0
    t.wearItem .padFL = ⟨412001, 610, .ok, 0⟩ ∧ t.wearItem .padFR = ⟨411991, 3220, .ok, 0⟩ := by decide +kernel

/-- Section 9.8's battery step at 20 ms. -/
theorem test_battery_wear :
    let s := driving.setWearItem .battery ⟨101230400, 99500000, .warn, 0⟩
    (s.batteryWear ⟨⟨0, true, false, false⟩, 600, 0, 0, 40000, 31⟩ 20).wearItem .battery = ⟨101230401, 300000, .warn, 0⟩ := by
  decide +kernel

/-- Section 9.8, the row at 25 ms: a reset that expects the value before is answered MISMATCH. -/
theorem test_wear_reset_mismatch :
    let s := (service ((inMode .standby).setWear { up.wear with load := .good })).setWearItem .battery ⟨101230401, 300000, .warn, 0⟩
    (after (.wearReset 1 ([4] ++ be32 101230400 ++ be32 0)) s).hli.sending.map Reply.payload =
      some ([9, 4] ++ be32 101230401 ++ [1] ++ be16 0) := by decide +kernel

/-! ## Worked demands: the whole part -/

/-- Section 5.5 through DEMAND: the setpoints 113, 0 and -1149 in the queue. -/
theorem test_demand_blend :
    let s := driving.setBbu { driving.bbu with prev := 14000 }
    let t := after (.demand 1 (demandOf 0 150 1000 16000 20000 0)) s
    (t.bbu.prev, t.bbu.remReg, t.bbu.remFront, t.nlc.queue.map Entry.payload) =
      (15559, 50000, 50000, [[1, 0, 113], [1, 0, 0], be16 (65536 - 1149), [0, 0]]) := by decide +kernel

/-- Section 7.5 through DEMAND: INV TORQUE 1492, ENG FORCE 978, both elapsed values. -/
theorem test_demand_split :
    let s := engineAt .run (driving.setPsu { driving.psu with sufficient := 700 })
    let t := after (.demand 1 (demandOf 30000 0 800 16000 20000 0)) s
    (t.nlc.queue.map Entry.payload, t.psu.above, t.psu.sufficient) = ([be16 1492, be16 978], 50, 0) := by decide +kernel

/-- Section 8.8, the row at 0: a cold START adds 3 to STARTS. -/
theorem test_cold_start :
    let t := after (.engineStart 1 [0]) (driving.setWearItem .starts ⟨120400, 0, .ok, 1⟩)
    (t.esc.machine, t.esc.attempts, t.esc.crankTimer, (t.wearItem .starts).value) = (.cranking, 1, some 3000, 120403) := by
  decide +kernel

/-- Section 11.1: the STATUS reply has its 179 bytes, and power-on leaves the mode STANDBY. -/
theorem test_status_length : up.statusReply.length = 179 ∧ State.reset.mode = .standby := by decide +kernel

/-! ## Witnesses: for every statement with hypotheses a state that meets them, clause by clause -/

theorem witness_StepRunsFrontCommand : (State.reset.setPending [.svcHigh, .replyEnd]).pending = .svcHigh :: [.replyEnd] := rfl

/-- Every mode, a break in progress, and a timer that stands at its end after one step. -/
theorem witness_IdleStepCountsOneMillisecond :
    State.reset.pending = [] ∧ State.reset.supply = .on ∧ State.reset.mode.live = true ∧ State.reset.nlc.tx.breaking = false ∧
    (State.reset.setSupply .off).pending = [] ∧ (inMode .parked).pending = [] ∧ (inMode .halted).mode.live = false ∧
    (inMode .halted).pending = [] ∧
    (let b := fun phase link => up.setNlc { up.nlc with tx := .brk phase, link := link }
     (b .driving .up).pending = [] ∧ (b .driving .up).supply = .on ∧ (b .driving .up).nlc.tx = .brk .driving ∧
     (b .recognised .up).nlc.tx = .brk .recognised ∧ (b .driving .up).nlc.olderReset = none ∧
     (b .driving .halting).tick.nlc.link = .silent ∧ (b .driving .up).tick.nlc.quiet = some 9999 ∧
     elapsed 1000 0 ≤ 1000 ∧ 1000 < elapsed 1001 0 ∧ up.level ≠ .safeStop ∧
     (withFault .brkLost .safeStop 255 true up).level = .safeStop) ∧
    (let f := up.setDemand { up.demand with freshness := some 1 }
     f.pending = [] ∧ f.tick.demand.freshness = some 0 ∧ .freshnessTimerExpiry ∈ f.tick.pending) ∧
    (let n := up.setNode .bat { up.node .bat with staleTimer := some 1 }
     n.pending = [] ∧ .staleTimerExpiry .bat ∈ n.tick.pending ∧ .staleTimerExpiry .eng ∉ n.tick.pending) := by decide +kernel

theorem witness_EveryCommandAnswersWithinItsFrame :
    wellFormed (.demand 0 (List.replicate 13 0)) = true ∧ wellFormed (.busReset 160000) = true := by decide +kernel

theorem witness_ResetsStartEveryBlock :
    State.reset.supply = .on ∧ State.reset.wear.save = none ∧
    (State.reset.setWear (State.reset.wear.startSave .none)).wear.save =
      some ⟨.none, imageOf State.reset.wear.items 1⟩ := by decide +kernel

theorem witness_NresyncDropsTheFrameInReception :
    State.reset.supply = .on ∧ State.reset.mode ≠ .parked ∧ (inMode .parked).supply = .on ∧ 20 ≤ 20 ∧ 19 < 20 := by decide +kernel

/-- The wake of a part that has left the link, with wake-on-node set and clear. -/
theorem witness_WakeEntersStandby :
    let s := (inMode .parked).setWaking true
    let away := s.setNlc { s.nlc with link := .away }
    let node := away.setParams (setParam away.params .attention 1024)
    s.supply = .on ∧ s.mode = .parked ∧ s.waking = true ∧ ¬(State.reset.mode = .parked ∧ State.reset.waking = true) ∧
      node.supply = .on ∧ node.mode = .parked ∧ node.nlc.link = .away ∧ Nat.testBit (node.par .attention) 10 = true ∧
      Nat.testBit (away.par .attention) 10 = false ∧ s.nlc.link ≠ .away ∧ up.mode ≠ .parked := by
  decide +kernel

theorem witness_DiscardedHostFramesAreCounted :
    State.reset.supply = .on ∧ State.reset.mode ≠ .parked ∧ badFrame [1, 5] 0 = true ∧
    badLengthByte (.lengthByte 1) = true ∧
    badLengthByte (.lengthByte 251) = true ∧ 200 < 201 := by decide +kernel

/-- The line of a frame with a wrong CRC, and a part whose framer stands in LENGTH. -/
theorem witness_DiscardedHostFramesAreCounted_line :
    HostLine.Shows (bytesLine (hostFrameCarrying [2, 1, 5] 0)) (hostFrameCarrying [2, 1, 5] 0) ∧ State.reset.hli.framer = .hunt ∧
    (let s := State.reset.setHli { State.reset.hli with framer := .length }
     s.supply = .on ∧ s.mode ≠ .parked ∧ s.hli.framer = .length) :=
  ⟨HostLine.shows_bytesLine _, by decide +kernel⟩

/-- The first sub-operation, target, level and page outside each kind's table. -/
theorem witness_UnknownRequestsAreAnswered : State.reset.Accepts 0 ∧
    (0 : Byte).toNat = 0 ∧ 0x11 < (0x12 : Byte).toNat ∧ unnamed 0x02 [4] = true ∧ unnamed 0x03 [5] = true ∧
    unnamed 0x10 [2] = true ∧ 4 < (5 : Byte).toNat ∧ 1 < (2 : Byte).toNat ∧ 2 < (3 : Byte).toNat ∧
    wellFormed (.requestUnknownKind 7 0x12 []) = true ∧ State.reset.hli.framer = .hunt ∧
    HostLine.Shows (bytesLine (hostFrameBytes 7 0x12 [])) (hostFrameBytes 7 0x12 []) := by
  have h := HostLine.shows_bytesLine (hostFrameBytes 7 0x12 [])
  refine ⟨accepts_of (by decide +kernel), ?_⟩
  simp only [h, and_true]
  decide +kernel

/-- The boundary of the busy replies is 3 and 4; that of the deferred ones 1 and 2. -/
theorem witness_RequestsMeetTheChecksInOrder :
    requestForm (.status 7 [1]) = some ⟨7, 5, false⟩ ∧ requestForm (.demand 7 []) = some ⟨7, 1, false⟩ ∧
    requestForm (.notices 7 []) = some ⟨7, 6, true⟩ ∧ (inMode .parked).mode = .parked ∧ State.reset.hli.ordered ∧
    State.reset.mode ≠ .parked ∧ State.reset.hli.freeSlot = some 0 ∧
    (fullInbox 3 State.reset).hli.freeSlot = none ∧ (fullInbox 3 State.reset).hli.ordered ∧
    (fullInbox 3 State.reset).hli.busyWaiting < 4 ∧ (fullInbox 4 State.reset).hli.freeSlot = none ∧
    (fullInbox 4 State.reset).hli.ordered ∧ 4 ≤ (fullInbox 4 State.reset).hli.busyWaiting ∧
    (inMode .halted).hli.freeSlot = some 0 ∧ readInHalted 0x06 = false ∧ confirmedSend [1, 0] = true ∧
    (let q : Option InboxRequest := some ⟨1, 16, true⟩
     let s := State.reset.setHli { State.reset.hli with slots := #v[q, q, none, none] }
     2 ≤ s.hli.deferredHeld ∧ s.hli.busyWaiting < 4 ∧ s.hli.ordered) := by decide +kernel

/-- The line of a request, heard by a part in STANDBY and by one in PARKED, in a wake or not. -/
theorem witness_RequestsMeetTheChecksInOrder_line :
    requestForm (.modePark 7 []) = some ⟨7, 4, true⟩ ∧ requestFields (.modePark 7 []) = some (7, 4, [0]) ∧
    wellFormed (.modePark 7 []) = true ∧ HostLine.Shows (bytesLine (hostFrameBytes 7 4 [0])) (hostFrameBytes 7 4 [0]) ∧
    State.reset.hli.framer = .hunt ∧ (inMode .parked).hli.framer = .hunt ∧ (inMode .parked).waking = false ∧
    ((inMode .parked).setWaking true).mode = .parked :=
  ⟨rfl, rfl, by decide +kernel, HostLine.shows_bytesLine _, by decide +kernel, by decide +kernel, by decide +kernel,
   by decide +kernel⟩

/-- A reply with another behind it, one without a slot, and the last of a parked part. -/
theorem witness_ReplyEndFreesItsSlot : State.reset.supply = .on ∧
    (fullInbox 1 State.reset).hli.sending = some ⟨1, 5, [0], some 0⟩ ∧
    (⟨1, 5, [0], some 0⟩ : Reply).frame[0]? = some 0xC3 ∧ (⟨1, 5, [0], some 0⟩ : Reply).frame[6]? ≠ none ∧
    (after .replyEnd (fullInbox 1 State.reset)).hli.line ≠ [] ∧
    (State.reset.ready ⟨1, 5, [2], none⟩).hli.sending = some ⟨1, 5, [2], none⟩ ∧
    (let p := after (.modePark 1 []) up
     p.mode = .parked ∧ p.waking = false ∧ p.slowClock = false ∧ p.hli.sending = some ⟨1, 4, [0, 0, 0], some 0⟩ ∧
     (after .replyEnd p).hli.line = [] ∧ (after .replyEnd p).hli.slots = #v[none, none, none, none] ∧
     (after .replyEnd p).slowClock = true) := by decide +kernel

/-- A pre-start schedule. -/
def scheduled (p : SchedulePhase) (stops distance : Nat) (s : State) : State :=
  s.setEsc { s.esc with schedule := some ⟨p, stops, distance⟩ }

/-- A part at standstill that may count a passenger stop. -/
def atStop (s : State) : State := s.setDemand { s.demand with motion := .standstill, stopEligible := true }

/-- Motion STANDSTILL with 30 and with 29, and MOVING; a schedule that the one metre or the stop of a DEMAND takes to DUE, and ones that
it leaves counting; DEMAND_STALE in the list. -/
theorem witness_DemandOutsideReadyDrivesNothing : up.Accepts 0 ∧ up.mode ≠ .ready ∧ (demandOf 0 0 30 0 0 0).length = 13 ∧
    up.demand.motion = .standstill ∧ (demandFields (demandOf 0 0 30 0 0 0)).speed = 30 ∧
    (demandFields (demandOf 0 0 29 0 0 1)).speed = 29 ∧
    ((up.setDemand { up.demand with motion := .moving }).demand.motion = .moving) ∧
    (let metre := demandFields (demandOf 0 0 2000 0 0 0)
     let doors := demandFields (demandOf 0 0 29 0 0 1)
     driving.metresOf metre = 1 ∧ (scheduled .countDistance 0 1 driving).entersDue metre = true ∧
     (scheduled .countDistance 0 2 driving).entersDue metre = false ∧
     ((scheduled .countDistance 0 2 driving).scheduleAfter metre) = some ⟨.countDistance, 0, 1⟩ ∧
     (scheduled .countStops 1 0 (atStop up)).entersDue doors = true ∧
     (scheduled .countStops 1 5 (atStop up)).scheduleAfter doors = some ⟨.countDistance, 0, 5⟩ ∧
     (scheduled .countStops 2 0 (atStop up)).scheduleAfter doors = some ⟨.countStops, 1, 0⟩ ∧
     (scheduled .countStops 1 0 up).entersDue doors = false) ∧
    (up.raise .demandStale 0).faults.entry .demandStale ≠ none :=
  ⟨accepts_of (by decide +kernel), by decide +kernel⟩

/-- A blend without a shortfall, and ones with a shortfall that leaves the level as it is and that takes it to SAFE_STOP, without and
with recovery; an open event, none while the bus moves, and none at standstill. -/
theorem witness_BrakingDemandBlends : driving.Accepts 0 ∧ driving.mode = .ready ∧
    (let d := demandOf 0 150 1000 16000 20000 0
     let t := after (.demand 1 d) driving
     d.length = 13 ∧ 0 < (demandFields d).brake ∧ driving.log.current = none ∧ 0 < min 3000 (demandFields d).speed ∧
     ((driving.demandStages (demandFields d)).blendResult .demand).short = false ∧ t.log.current ≠ none ∧ t.mode.live = true) ∧
    min 3000 (demandFields (demandOf 0 150 0 16000 20000 0)).speed = 0 ∧
    (let d := demandOf 0 500 60 0 20000 0
     let s := driving.setParams (setParam driving.params .pMax 800)
     let safe := s.setFaults (s.faults.setResponse .frictionSaturated ⟨.safeStop, 255⟩)
     let fast := demandOf 0 500 1000 0 20000 0
     ((s.demandStages (demandFields d)).blendResult .demand).short = true ∧ (after (.demand 1 d) s).level ≠ .safeStop ∧
     (safe.demandStages (demandFields d)).level ≠ .safeStop ∧ (after (.demand 1 d) safe).level = .safeStop ∧
     ((safe.demandStages (demandFields d)).blendResult .demand).fReg = 0 ∧
     ((safe.demandStages (demandFields fast)).blendResult .demand).short = true ∧
     0 < ((safe.demandStages (demandFields fast)).blendResult .demand).fReg ∧
     (after (.demand 1 fast) safe).bbu.result.trigger = .cut) ∧
    driving.AutoStopFails driving ∧ driving.takes .eng = true ∧ driving.nodes.socSeen = some 600 ∧
    (driving.setParams (setParam driving.params .socStop 600)).par .socStop ≤ 600 ∧ 600 < driving.par .socStop :=
  ⟨accepts_of (by decide +kernel), by decide +kernel, by decide +kernel, by decide +kernel, by decide +kernel,
   .inl (by decide +kernel), by decide +kernel⟩

/-- The same with SAFE_STOP for FRICTION_SATURATED and the front pads next to WARN: the blend falls short in front and its wear moves the
share to the rear, so that the cut re-blend of the moving bus has no shortfall and the kind's cause ends again. -/
theorem witness_BrakingDemandBlends_cut :
    let d := demandOf 0 500 1000 0 20000 0
    let p := setParam (setParam driving.params .kFront 60) .kRear 110
    let pad : WearItem := ⟨499999, 9999, .ok, 0⟩
    let s := (((driving.setParams p).setWearItem .padFL pad).setWearItem .padFR pad).setFaults
      (driving.faults.setResponse .frictionSaturated ⟨.safeStop, 255⟩)
    let u := s.demandStages (demandFields d)
    let t := after (.demand 1 d) s
    (u.blendResult .demand).short = true ∧ u.level ≠ .safeStop ∧ u.faults.entry .frictionSaturated = none ∧
      (u.faults.response .frictionSaturated).level = .safeStop ∧ u.demand.motion = .moving ∧ t.bbu.result.trigger = .cut ∧
      t.bbu.result.short = false ∧ t.faults.entry .frictionSaturated = none ∧ t.level ≠ .safeStop := by decide +kernel

/-- READY with a value of SOC, AUTO, and the elapsed values. -/
def counted (soc above sufficient : Nat) (s : State) : State :=
  let s := s.setNodes { s.nodes with batReport := s.nodes.batReport.map (fun r => { r with soc := soc }) }
  (s.setPsu { s.psu with above := above, sufficient := sufficient }).setEsc { s.esc with auto := true }

/-- With the braking flag clear and set; a running engine that AUTO stops, t_elec being reached, and that it leaves a millisecond
before; an engine that is OFF with SOC_LOW, with DEMAND at t_dem, and with neither, and one that may not start. -/
theorem witness_TractionDemandSplits : driving.Accepts 0 ∧ driving.mode = .ready ∧
    (demandOf 30000 0 800 16000 20000 0).length = 13 ∧ (demandFields (demandOf 30000 0 800 16000 20000 0)).brake = 0 ∧
    driving.takes .inv = true ∧ driving.takes .eng = true ∧ driving.bbu.braking = false ∧
    (driving.setBbu { driving.bbu with braking := true }).bbu.braking = true ∧
    (let on := fun ms => after (.demand 1 (demandOf 0 0 800 16000 20000 0)) (engineAt .run (counted 650 0 ms driving))
     let tElec := driving.par .tElec * 1000
     (on (tElec - 50)).psu.sufficient = tElec ∧ (on (tElec - 50)).esc.machine = .cooldown ∧
     (on (tElec - 51)).psu.sufficient < tElec ∧ (on (tElec - 51)).esc.machine = .run) ∧
    (driving.wearItem .starts).state ≠ .limit ∧ 0 < driving.par .tCool ∧
    (let off := fun soc ms => after (.demand 1 (demandOf 120000 0 800 16000 20000 0)) (counted soc ms 0 driving)
     let tDem := driving.par .tDem * 1000
     (off 349 0).esc.crankCause = some .socLow ∧ (off 350 (tDem - 50)).psu.above = tDem ∧
     (off 350 (tDem - 50)).esc.crankCause = some .demand ∧ (off 350 (tDem - 51)).esc.machine = .off ∧
     driving.esc.schedule = none ∧ driving.startAllowed = true ∧
     (driving.setDemand { driving.demand with zone := true }).startAllowed = false) :=
  ⟨accepts_of (by decide +kernel), by decide +kernel⟩

/-- A DEMAND in READY whose metre takes the schedule to DUE: it starts an engine that is OFF, waits in a zone, is cleared in RUN, and
returns an engine from COOLDOWN with SOC_LOW; a schedule that is DUE already is taken at the hand-on. -/
theorem witness_EngineFollows :
    let go := fun (s : State) => after (.demand 1 (demandOf 0 0 2000 16000 20000 0)) s
    let near := fun (s : State) => scheduled .countDistance 0 1 s
    let zone := fun (s : State) => s.setDemand { s.demand with zone := true }
    let cool := fun (soc : Nat) => (counted soc 0 0 (engineAt .cooldown driving)).setEsc
      { driving.esc with machine := .cooldown, auto := true, stopCause := some .auto }
    ((go (near driving)).esc.crankCause, (go (near driving)).esc.schedule) = (some .scheduled, none) ∧
      ((go (near (zone driving))).esc.machine, (go (near (zone driving))).esc.schedule) = (.off, some ⟨.due, 0, 0⟩) ∧
      (go (near (engineAt .run driving))).esc.schedule = none ∧
      ((go (near (cool 349))).esc.machine, (go (near (cool 350))).esc.machine) = (.run, .cooldown) ∧
      (go (scheduled .due 0 0 driving)).esc.crankCause = some .scheduled ∧
      driving.par .tOffMin * 1000 ≤ driving.esc.offDwell := by decide +kernel

/-- A running engine, a crank of each kind, COOLDOWN and STOPPING at the entry; the SOC at soc_reserve and below it, with the mark clear,
and 20 above and below that with it set; a raise that takes the level to SAFE_STOP, over a recovery and at standstill. -/
theorem witness_ZoneRequestsMoveTheFlag : (engineAt .run driving).Accepts 0 ∧ (engineAt .run driving).demand.zone = false ∧
    (engineAt .run driving).esc.machine = .run ∧ 0 < (engineAt .run driving).par .tCool ∧
    (engineAt .cranking driving).esc.crankCause ≠ some .hostOverride ∧
    (driving.setDemand { driving.demand with zone := true }).demand.zone = true ∧ State.reset.nodes.socSeen = none ∧
    (let enter := fun s => after (.routeZoneEnter 1 []) s
     let marked := fun soc => let s := counted soc 0 0 driving; s.setFaults { s.faults with reserve := true }
     let safe := let s := counted 199 0 0 driving; s.setFaults (s.faults.setResponse .zoneReserve ⟨.safeStop, 255⟩)
     let regen := safe.setBbu { safe.bbu with prev := 1 }
     (enter (counted 199 0 0 driving)).faults.reserve = true ∧ (enter (counted 200 0 0 driving)).faults.reserve = false ∧
     (enter (marked 219)).faults.reserve = true ∧ (enter (marked 220)).faults.reserve = false ∧
     safe.level ≠ .safeStop ∧ (enter safe).level = .safeStop ∧ (enter regen).bbu.result.trigger = .cut ∧
     (enter (engineAt .run (atStop safe))).esc.stopCause = some .safe ∧
     (enter (engineAt .run safe)).esc.stopCause = some .zone) :=
  ⟨accepts_of (by decide +kernel), by decide +kernel⟩

/-- The exit with the engine OFF and SOC_LOW, with a DUE schedule, and with neither; in COOLDOWN with an auto cause. -/
theorem witness_ZoneRequestsMoveTheFlag_exit :
    let leave := fun (s : State) => after (.routeZoneExit 1 []) (s.setDemand { s.demand with zone := true })
    let cool := (counted 349 0 0 driving).setEsc { driving.esc with machine := .cooldown, auto := true, stopCause := some .auto }
    (leave (counted 349 0 0 driving)).esc.crankCause = some .socLow ∧
      (leave (scheduled .due 0 0 driving)).esc.crankCause = some .scheduled ∧ (leave driving).esc.machine = .off ∧
      (leave cool).esc.machine = .run ∧
      (leave (cool.setEsc { cool.esc with stopCause := some .zone })).esc.machine = .cooldown := by decide +kernel

/-- A schedule at once DUE with a start allowed and without, and in COOLDOWN with a standing auto cause and without; outside
READY. -/
theorem witness_ScheduleIsTakenInReady : driving.Accepts 0 ∧ up.Accepts 0 ∧ driving.mode = .ready ∧ driving.esc.machine = .off ∧
    driving.startAllowed = true ∧ (driving.setDemand { driving.demand with zone := true }).startAllowed = false ∧
    (engineAt .run driving).esc.machine ≠ .off ∧ up.mode ≠ .ready ∧
    (let c := engineAt .cooldown driving
     let low := c.setNodes { c.nodes with batReport := c.nodes.batReport.map (fun r => { r with soc := 0 }) }
     let auto := low.setEsc { low.esc with stopCause := some .auto, auto := true }
     c.esc.machine = .cooldown ∧ c.autoReturns = false ∧ auto.mode = .ready ∧ auto.esc.machine = .cooldown ∧
     auto.autoReturns = true) :=
  ⟨accepts_of (by decide +kernel), accepts_of (by decide +kernel), by decide +kernel⟩

theorem witness_HostStartCranksTheEngine : driving.Accepts 0 ∧ driving.mode = .ready ∧ driving.level ≠ .safeStop ∧
    driving.demand.zone = false ∧ driving.esc.machine = .off ∧ driving.engReady = true ∧
    (1 : Byte).getLsbD 0 = true ∧ (0 : Byte).getLsbD 0 = false ∧ State.reset.engReady = false ∧
    (withFault .brkLost .safeStop 255 true driving).level = .safeStop :=
  ⟨accepts_of (by decide +kernel), by decide +kernel⟩

theorem witness_HostStopStopsTheEngine : (engineAt .run driving).Accepts 0 ∧ 0 < driving.par .tCool ∧
    (setParam driving.params .tCool 0)[paramIdx .tCool] = 0 ∧ (engineAt .stopping driving).esc.machine = .stopping :=
  ⟨accepts_of (by decide +kernel), by decide +kernel⟩

/-- Each cause of a start at its boundary, with the start allowed, inside a zone and with the dwell not over; a return from COOLDOWN;
a machine state that an evaluation point leaves alone. -/
theorem witness_AutoSettingFollowsItsRequests : driving.Accepts 0 ∧ (engineAt .run driving).Accepts 0 ∧
    (engineAt .run driving).esc.machine ≠ .off ∧ (engineAt .run driving).esc.machine ≠ .cooldown ∧
    (let on := fun s => (after (.engineAutoOn 1 [0]) s).esc
     let due := fun s : State => s.setEsc { s.esc with schedule := some ⟨.due, 0, 0⟩ }
     let tDem := driving.par .tDem * 1000
     let cool := engineAt .cooldown (counted 349 0 0 driving)
     (on (counted 349 tDem 0 driving)).crankCause = some .socLow ∧ (on (counted 350 tDem 0 driving)).crankCause = some .demand ∧
     (on (due (counted 350 (tDem - 1) 0 driving))).crankCause = some .scheduled ∧
     (on (counted 350 (tDem - 1) 0 driving)).machine = .off ∧
     (on ((counted 349 0 0 driving).setDemand { driving.demand with zone := true })).machine = .off ∧
     (on (cool.setEsc { cool.esc with stopCause := some .auto })).machine = .run ∧
     (on (cool.setEsc { cool.esc with stopCause := some .zone })).machine = .cooldown) ∧
    driving.level ≠ .safeStop ∧ driving.engReady = true ∧ driving.par .tOffMin * 1000 * 1 ≤ driving.esc.offDwell ∧
    State.reset.engReady = false :=
  ⟨accepts_of (by decide +kernel), accepts_of (by decide +kernel), by decide +kernel⟩

theorem witness_ResetFaultLeavesFault : (engineAt .fault driving).Accepts 0 ∧ (inMode .shutdown).Accepts 0 ∧
    (engineAt .fault driving).mode ≠ .shutdown ∧ (engineAt .fault driving).esc.machine = .fault ∧
    driving.nodes.engineSeen = .off ∧ State.reset.nodes.engineSeen = .fault ∧ driving.esc.machine ≠ .fault :=
  ⟨accepts_of (by decide +kernel), accepts_of (by decide +kernel), by decide +kernel⟩

theorem witness_ModeReadyExaminesSixConditions : up.Accepts 0 ∧ up.mode = .standby ∧ (up.node .inv).presence = .present ∧
    (up.node .bat).presence = .present ∧ (up.node .bkf).presence = .present ∧ (up.node .bkr).presence = .present ∧
    up.wear.load = .inFlight ∧ driving.wear.load ≠ .inFlight ∧ up.level ≠ .safeStop ∧
    (State.reset.node .inv).presence ≠ .present ∧ (withFault .brkLost .safeStop 255 true up).level = .safeStop :=
  ⟨accepts_of (by decide +kernel), by decide +kernel⟩

theorem witness_ModeStandbyLeavesReady : (inMode .ready).Accepts 0 ∧ (inMode .shutdown).Accepts 0 ∧ (inMode .ready).demand.motion = .standstill ∧
    driving.demand.motion = .moving ∧ (inMode .shutdown).progress ≠ .saving ∧
    ((inMode .shutdown).setProgress .saving).progress = .saving ∧ 0 < up.par .tCool :=
  ⟨accepts_of (by decide +kernel), accepts_of (by decide +kernel), by decide +kernel⟩

theorem witness_ModeShutdownWaitsForTheEngine : (inMode .ready).Accepts 0 ∧ driving.Accepts 0 ∧ (inMode .shutdown).Accepts 0 ∧
    (inMode .ready).demand.motion = .standstill ∧
    (inMode .ready).esc.machine = .off ∧ driving.wear.save = none ∧ driving.wear.load ≠ .inFlight ∧ 0 < up.par .tCool ∧
    (engineAt .run up).esc.machine = .run ∧ driving.demand.motion = .moving :=
  ⟨accepts_of (by decide +kernel), accepts_of (by decide +kernel), accepts_of (by decide +kernel), by decide +kernel⟩

theorem witness_ModeParkEntersParked : up.Accepts 0 ∧ driving.Accepts 0 ∧ up.mode = .standby ∧ up.esc.machine = .off ∧ up.nlc.tx = .idle ∧
    up.nlc.breakDue = false ∧ up.nlc.queue.all (fun e => !e.inFlight) = true ∧ (engineAt .run up).esc.machine ≠ .off ∧
    (lastAttempt [{ forceEntry with inFlight := true, fate := .nodeLost }, { forceEntry with inFlight := true }]).map Entry.fate =
      [.nodeLost, .final] :=
  ⟨accepts_of (by decide +kernel), accepts_of (by decide +kernel), by decide +kernel⟩

theorem witness_ModeHaltQueuesTheHaltFrames : up.Accepts 0 ∧ State.reset.Accepts 0 ∧ State.reset.nlc.tx = .idle ∧
    State.reset.nlc.queue = [] ∧ State.reset.nlc.breakDue = false ∧
    (∀ n ∈ [NodeAddr.inv, .eng, .bkf, .bkr], State.reset.takes n = false) :=
  ⟨accepts_of (by decide +kernel), accepts_of (by decide +kernel), by decide +kernel⟩

theorem witness_ReadingRequestsChangeNothing : up.Hears 0 ∧ up.mode.live = true ∧ (inMode .halted).Hears 0 ∧
    paramOfId 0 = none ∧ paramOfId 44 = none :=
  ⟨hears_of (by decide +kernel), by decide +kernel, hears_of (by decide +kernel), by decide +kernel⟩

theorem witness_NoticesFetchClearsTheSlots : up.Hears 0 ∧ up.mode.live = true ∧ (inMode .halted).Hears 0 ∧
    (inMode .halted).mode = .halted :=
  ⟨hears_of (by decide +kernel), by decide +kernel, hears_of (by decide +kernel), by decide +kernel⟩

/-- Items 5 and 6 are the boundary of the item codes. -/
theorem witness_WearResetComparesBeforeItReplaces : (service up).Accepts 0 ∧ (service up).hli.access = .service ∧
    WearKind.starts.code = 5 ∧ 5 < (6 : Byte).toNat ∧
    up.wear.load = .inFlight ∧ up.hli.access = .drive ∧ driving.wear.load ≠ .inFlight ∧
    (driving.wearItem .padFL).value = (0 : BitVec 32).toNat ∧ (driving.wearItem .padFL).value ≠ (1 : BitVec 32).toNat ∧
    driving.wear.save = none ∧ (driving.wear.startSave .none).save ≠ none :=
  ⟨accepts_of (by decide +kernel), by decide +kernel⟩

/-- Reset meets the parameter law; the ids 1 and 43 are in the table, 0 and 44 not; a PRESENT and a STALE record, a running and a
stopped slip-hold, a wear state that is known and one that is not. -/
theorem witness_ConfigSetTakesTheClampedValue : up.Accepts 0 ∧ ParamLaw up ∧ paramOfId 1 = some .mMin ∧
    paramOfId 43 = some .mMax ∧ paramOfId 44 = none ∧ (paramRow .tStale).service = true ∧ up.hli.access = .drive ∧
    driving.mode ≠ .standby ∧ (paramRow .tWarm).live = false ∧ (paramRow .tCool).live = true :=
  ⟨accepts_of (by decide +kernel),
   ⟨fun p => by cases p <;> decide +kernel, by decide +kernel, by decide +kernel, by decide +kernel⟩, by decide +kernel⟩

/-- The same, for what a parameter acts on at once: t_stale 40 to 200 ms, t_slip, a pad threshold, and soc_reserve in a zone. -/
theorem witness_ConfigSetTakesTheClampedValue_acts :
    (service up).Accepts 0 ∧ paramOfId 38 = some .tStale ∧ paramOfId 39 = some .tLost ∧ paramOfId 14 = some .tSlip ∧
    paramOfId 30 = some .padWarn ∧ (up.node .eng).presence = .present ∧ (up.node .eng).freshTime = some 0 ∧
    (let s := after (.staleTimerExpiry .eng) (up.setNode .eng { up.node .eng with staleTimer := some 0 })
     (s.node .eng).presence = .stale ∧ (s.node .eng).staleTime = some 0) ∧
    (up.node .aux1).presence = .absent ∧ elapsed 100 0 = 100 ∧ up.bbu.slipHold = none ∧
    (let s := up.slipReport
     s.bbu.slipHold ≠ none ∧ s.bbu.lastSlip = some 0) ∧
    (let s := up.setDemand { up.demand with zone := true }
     let set := fun v => (after (.configSet 1 (19 :: be32 v)) s).faults.reserve
     paramOfId 19 = some .socReserve ∧ s.nodes.socSeen = some 600 ∧ set 600 = false ∧ set 601 = true) ∧
    (up.wearItem .padFL).state = .unknown ∧ (driving.wearItem .padFL).state = .ok :=
  ⟨accepts_of (by decide +kernel), by decide +kernel⟩

theorem witness_FaultClearRemovesEndedLatchedEntries : (withFault .crankFail .note 255 false up).Accepts 0 ∧
    FaultKind.crankFail.code = 8 ∧ FaultKind.crankFail.latched = true ∧
    (withFault .crankFail .note 255 false up).faults.entry .crankFail = some ⟨.crankFail, .note, 255, 0, 1, 0, false⟩ ∧
    (withFault .crankFail .note 255 true up).faults.entry .crankFail = some ⟨.crankFail, .note, 255, 0, 1, 0, true⟩ ∧
    up.faults.entry .storeBad = none ∧ (withFault .brkReported .limp 128 false up).level = .limp ∧ up.level = .none :=
  ⟨accepts_of (by decide +kernel), by decide +kernel⟩

theorem witness_ResponseSetHoldsTheMinimum : (service up).Accepts 0 ∧ (service up).mode = .standby ∧
    (service up).hli.access = .service ∧ FaultKind.demandStale.code = 1 ∧ FaultKind.zoneReserve.code = 16 ∧
    levelOfCode 1 = some .note ∧ levelOfCode 4 = some .safeStop ∧ levelOfCode 5 = none ∧
    (service up).faults.entry .demandStale = none ∧ (withFault .demandStale .note 255 true (service up)).faults.entry .demandStale ≠ none :=
  ⟨accepts_of (by decide +kernel), by decide +kernel⟩

theorem witness_AccessRequestsSetTheLevel : (up.setSvc true).Accepts 0 ∧ (service up).Accepts 0 ∧ (up.setSvc true).mode = .standby ∧
    (up.setSvc true).demand.motion = .standstill ∧ (up.setSvc true).svc = true ∧ up.svc = false ∧ up.hli.access = .drive ∧
    (service up).hli.access = .service ∧ driving.mode ≠ .standby ∧ driving.demand.motion = .moving :=
  ⟨accepts_of (by decide +kernel), accepts_of (by decide +kernel), by decide +kernel⟩

/-- A free slot and a full set of four; POSTED and CONFIRMED; each refusal. -/
theorem witness_TunnelSendTakesATunnelSlot : (service up).Accepts 0 ∧ (List.replicate 12 (0 : Byte)).length ≤ 12 ∧
    (service up).takes .bkr = true ∧ (service up).freeTunnel = some 0 ∧ (service up).hli.deferredHeld < 2 ∧
    (service up).takes .aux1 = false ∧ isAux .aux1 = true ∧ driving.mode = .ready ∧ isAux .bkr = false ∧
    (inMode .shutdown).mode = .shutdown ∧ up.mode = .standby ∧ up.hli.access = .drive ∧
    (let e := fun i : Fin 4 => { tunnelEntry with kind := .tunnel i }
     (up.setNlc { up.nlc with queue := [e 0, e 1, e 2, e 3] }).freeTunnel = none) ∧
    7 < (8 : Byte).toNat ∧ 1 < (2 : Byte).toNat :=
  ⟨accepts_of (by decide +kernel), by decide +kernel⟩

theorem witness_TunnelFetchReturnsTheOldestFrame : up.Accepts 0 ∧ up.nlc.inbox = [] ∧
    (up.setNlc { up.nlc with inbox := [⟨.bkr, [1]⟩, ⟨.aux1, []⟩] }).nlc.inbox = ⟨.bkr, [1]⟩ :: [⟨.aux1, []⟩] :=
  ⟨accepts_of (by decide +kernel), by decide +kernel⟩

/-- With a brake request and without; an engine that stays as it is. -/
theorem witness_FreshnessExpiryHoldsTheDemand :
    let s := driving.setDemand { driving.demand with freshness := some 0, record := { driving.demand.record with brake := 150 } }
    let t := after .freshnessTimerExpiry s
    s.supply = .on ∧ s.mode.live = true ∧ s.demand.freshness = some 0 ∧ s.mode = .ready ∧ 0 < s.demand.record.brake ∧
      driving.demand.record.brake = 0 ∧ s.esc.machine ≠ .cooldown ∧ t.esc.machine = s.esc.machine ∧ s.takes .eng = true ∧
      s.takes .inv = true ∧ s.takes .bkf = true ∧ s.takes .bkr = true ∧
      up.mode ≠ .ready ∧ driving.demand.freshness ≠ some 0 := by decide +kernel

/-- No event open and one open, the ring with room and full, the level below SAFE_STOP and at it; a timer not at its end. -/
theorem witness_LowSpeedAndSlipHoldExpire :
    let s := driving.setDemand { driving.demand with lowSpeed := some 0 }
    let braking := after (.demand 1 (demandOf 0 150 5 16000 20000 0)) driving
    let ended := braking.setDemand { braking.demand with lowSpeed := some 0 }
    let full := ended.setLog { gapLog with current := ended.log.current }
    s.supply = .on ∧ s.mode.live = true ∧ s.demand.lowSpeed = some 0 ∧ s.log.current = none ∧ s.level ≠ .safeStop ∧
      driving.demand.lowSpeed ≠ some 0 ∧ braking.demand.lowSpeed = some 500 ∧
      ended.log.current ≠ none ∧ ended.log.ring.length < 32 ∧ full.log.current ≠ none ∧ ¬full.log.ring.length < 32 ∧
      (driving.setBbu { driving.bbu with slipHold := some 0 }).bbu.slipHold = some 0 ∧ driving.bbu.slipHold ≠ some 0 ∧
      (withFault .brkLost .safeStop 255 true (engineAt .run s)).level = .safeStop ∧
      (engineAt .run s).esc.machine = .run ∧ 0 < s.par .tCool := by decide +kernel

theorem witness_PresenceTimersMakeStaleAndLost :
    let s := up.setNode .bat { up.node .bat with presence := .stale, staleTimer := none, lostTimer := some 0 }
    let st := up.setNode .bat { up.node .bat with staleTimer := some 0 }
    up.supply = .on ∧ up.mode ≠ .parked ∧ up.mode ≠ .halted ∧ (up.node .bat).staleTimer = some 60 ∧
      (st.node .bat).staleTimer = some 0 ∧ (s.node .bat).staleTimer ≠ some 0 ∧ (up.node .bat).lostTimer ≠ some 0 ∧
      (s.node .bat).lostTimer = some 0 ∧ lossFault .bat = some .batLost ∧
      (engineAt .run (up.setNode .eng { up.node .eng with staleTimer := none, lostTimer := some 0 })).esc.machine ≠ .off := by
  decide +kernel

/-- Attempts 2 and 3 are the boundary; a report of RUNNING at 80 °C, and a timer not at its end. -/
theorem witness_CrankAttemptsEndInRetryOrFault :
    let s := engineAt .cranking driving
    let s2 := s.setEsc { s.esc with crankTimer := some 0, attempts := 2 }
    let s3 := s.setEsc { s.esc with crankTimer := some 0, attempts := 3 }
    let r := engineAt .retryWait driving
    let r1 := r.setEsc { r.esc with restTimer := some 0 }
    (onIdleBus s).HearsFresh .eng engPayload engWave ∧ (onIdleBus r).HearsFresh .eng engPayload engWave ∧
      s2.supply = .on ∧ s2.mode.live = true ∧ s2.esc.machine = .cranking ∧ s2.esc.crankTimer = some 0 ∧ s2.esc.attempts < 3 ∧
      3 ≤ s3.esc.attempts ∧ r1.esc.machine = .retryWait ∧ r1.esc.restTimer = some 0 ∧ r1.takes .eng = true ∧
      s.esc.crankTimer ≠ some 0 ∧ r.esc.restTimer ≠ some 0 ∧ (onIdleBus s).mode ≠ .halted ∧
      (byteAt engPayload 0).getLsbD 2 = false ∧ (engReportOf engPayload).engine = .running :=
  ⟨fresh_of (by decide +kernel), fresh_of (by decide +kernel), by decide +kernel⟩

/-- Every state a report acts in, the latch with and without a zone, and a shutdown that waits. -/
theorem witness_StopsEndInOffOrFault :
    let s := engineAt .cooldown driving
    let s1 := s.setEsc { s.esc with cooldownTimer := some 0 }
    let u := engineAt .stopping driving
    let u0 := u.setEsc { u.esc with stopTimer := some 0, stopExpiries := 0 }
    let u1 := u.setEsc { u.esc with stopTimer := some 0, stopExpiries := 1 }
    let latched := u.setEsc { u.esc with latch := some false }
    (∀ m ∈ [EngineState.off, .warmup, .run, .cooldown, .stopping, .fault],
        (onIdleBus (engineAt m driving)).HearsFresh .eng engPayload engWave ∧ (onIdleBus (engineAt m driving)).mode ≠ .halted) ∧
      (onIdleBus latched).HearsFresh .eng engOff offWave ∧
      s1.supply = .on ∧ s1.mode.live = true ∧ s1.esc.machine = .cooldown ∧ s1.esc.cooldownTimer = some 0 ∧
      u0.esc.machine = .stopping ∧ u0.esc.stopTimer = some 0 ∧ u0.esc.stopExpiries = 0 ∧ u1.esc.stopExpiries ≠ 0 ∧
      s.esc.cooldownTimer ≠ some 0 ∧ u.esc.stopTimer ≠ some 0 ∧
      ((inMode .shutdown).setProgress .engineWait).progress = .engineWait ∧ latched.esc.latch = some false ∧ latched.demand.zone = false ∧
      latched.level ≠ .safeStop ∧ (engReportOf engOff).engine = .off ∧ (engReportOf engOff).flags.ready = true :=
  ⟨fun m h => ⟨fresh_of (by revert m; decide +kernel), by revert m; decide +kernel⟩, freshOff_of (by decide +kernel),
   by decide +kernel⟩

/-- 3600000 ms and one less are the boundary. -/
theorem witness_QuietAndPeriodicTimersExpire :
    let s := driving.setNlc { driving.nlc with quiet := some 0 }
    let at60 := fun ms => driving.setWear { driving.wear with readyMs := ms }
    s.supply = .on ∧ s.nlc.link ≠ .silent ∧ s.nlc.quiet = some 0 ∧ s.mode = .ready ∧ s.mode ≠ .halted ∧
      driving.nlc.quiet ≠ some 0 ∧ 3600000 ≤ (at60 3600000).wear.readyMs ∧ (at60 3599999).wear.readyMs < 3600000 ∧
      (inMode .halted).mode = .halted ∧ ((at60 3600000).setMode .shutdown).mode ≠ .ready ∧ driving.wear.save = none ∧ driving.wear.load ≠ .inFlight ∧
      State.reset.wear.load = .inFlight := by decide +kernel

theorem witness_StoreLoadAdoptsAGoodImage :
    let img := imageOf State.reset.wear.items 7
    let s := State.reset.setWear { State.reset.wear with store := .image img }
    s.supply = .on ∧ s.wear.load = .inFlight ∧ s.wear.store = .image img ∧ goodImage img = true ∧
      State.reset.wear.store.goodBytes = none ∧ State.reset.level ≠ .safeStop ∧ s.wear.waiting = none ∧
      (s.wear.trigger ⟨true, false, false⟩).waiting = some ⟨true, false, false⟩ ∧ driving.wear.load ≠ .inFlight := by decide +kernel

theorem witness_SaveCompletionParksAShutdown :
    let job : SaveJob := ⟨⟨false, true, false⟩, imageOf State.reset.wear.items 1⟩
    let s := ((inMode .shutdown).setWear { up.wear with save := some job }).setProgress .saving
    s.supply = .on ∧ s.wear.save = some job ∧ job.triggers.shutdown = true ∧ s.mode = .shutdown ∧ s.progress = .saving ∧
      s.waking = false ∧ s.hli.line = [] ∧ s.hli.slots = #v[none, none, none, none] ∧ s.abortedReplies = [] ∧
      up.wear.save = none ∧ (some (List.replicate 44 0) : Option (List Byte)) ≠ some job.image := by decide +kernel

/-- Four and three repeats are the boundary; fresh, repeated and retransmitted; a FAULT flag newly set, SLIP over a recovery. -/
theorem witness_ReportsAreClassifiedAndStored :
    let s := onIdleBus up
    let rep := fun k => s.setNode .eng { s.node .eng with lastAlive := some 2, repeats := k }
    s.Follows ∧ (rep 4).Follows ∧
      Carries engWave (some .eng) .report false engPayload ((frameDrive engBytes).endNs + eodNs)
        (symbolsFrom ((frameDrive engBytes).endNs + eodNs) (bitsOf [0, crc8 [0]])) ∧
      (∃ eod rest, Carries (frameWave (nodeBytes 0 0 1 true engPayload) []) (some .eng) .report true engPayload eod rest) ∧
      (∃ eod rest, Carries (frameWave (nodeBytes 0 0 4 false bkfSlip) []) (some .bkf) .report false bkfSlip eod rest) ∧
      reportLength .eng = some engPayload.length ∧ reportLength .bkf = some bkfSlip.length ∧ s.mode ≠ .parked ∧
      (s.node .eng).lastAlive ≠ some (aliveOf engPayload) ∧ ((rep 4).node .eng).lastAlive = some (aliveOf engPayload) ∧
      ((rep 4).node .eng).presence = .present ∧ 4 ≤ ((rep 4).node .eng).repeats ∧ ((rep 3).node .eng).repeats < 4 ∧
      (byteAt bkfSlip 0).getLsbD 1 = true ∧ (byteAt bkfSlip 0).getLsbD 2 = true ∧ s.nodes.faultFlag .bkf = false ∧
      s.nodes.faultFlag .bkr = false ∧ (byteAt engPayload 0).getLsbD 2 = false ∧
      (s.node .bkf).lastAlive ≠ some (aliveOf bkfSlip) ∧ reportedFault .bkf = some .brkReported :=
  ⟨follows_of (by decide +kernel), follows_of (by decide +kernel), engWave_carries,
   ⟨308000, [], carries_of 0x00 0x36 (by decide +kernel) (by decide +kernel)⟩,
   ⟨340000, [], carries_of 0x00 0x87 (by decide +kernel) (by decide +kernel)⟩, by decide +kernel⟩

/-- A report of BAT: alive 2, READY, SOC 199. -/
def batLow : List Byte := [0x28] ++ be16 199 ++ be16 300 ++ be16 400 ++ be16 80 ++ [71]

/-- The same for a BAT report below soc_reserve inside a zone, fresh and repeated. -/
theorem witness_ReportsAreClassifiedAndStored_reserve :
    let s := onIdleBus (up.setDemand { up.demand with zone := true })
    let again := s.setNode .bat { s.node .bat with lastAlive := some 2 }
    let w := frameWave (nodeBytes 0 0 3 false batLow) []
    s.Follows ∧ (∃ eod rest, Carries w (some .bat) .report false batLow eod rest) ∧
      reportLength .bat = some batLow.length ∧ (s.node .bat).lastAlive ≠ some (aliveOf batLow) ∧
      (again.node .bat).lastAlive = some (aliveOf batLow) ∧ (again.node .bat).presence = .present ∧ s.mode ≠ .halted ∧
      (batReportOf batLow).soc < s.par .socReserve ∧ s.faults.reserve = false ∧ s.demand.zone = true ∧
      (after (.reportReceived .bat false batLow w) s).faults.reserve = true :=
  ⟨follows_of (by decide +kernel), ⟨436000, [], carries_of 0x00 0x6A (by decide +kernel) (by decide +kernel)⟩, by decide +kernel⟩

/-- An AUX node and a control node; an empty inbox and a full one. -/
theorem witness_TunnelFramesFillTheInbox :
    (onIdleBus up).Follows ∧
      (∃ eod rest, Carries (frameWave (nodeBytes 0 3 6 false (List.replicate 12 7)) []) (some .aux1) .tunnel false
        (List.replicate 12 7) eod rest) ∧
      (∃ eod rest, Carries (frameWave (nodeBytes 0 3 5 true []) []) (some .bkr) .tunnel true [] eod rest) ∧
      up.nlc.inbox = [] ∧ isAux .aux1 = true ∧ up.mode ≠ .parked ∧ isAux .bkr = false ∧ (up.node .aux1).held = false ∧
      (up.setNlc { up.nlc with inbox := List.replicate 4 ⟨.bkr, [1]⟩ }).nlc.inbox.length = 4 :=
  ⟨follows_of (by decide +kernel), ⟨500000, [], carries_of 0x03 0xCC (by decide +kernel) (by decide +kernel)⟩,
   ⟨116000, [], carries_of 0x03 0xB0 (by decide +kernel) (by decide +kernel)⟩, by decide +kernel⟩

/-- A command to the 620 from a node and from address 0; a bad CRC, a form error, a frame to another node, no SOF; the pulse
lengths at their boundaries. -/
theorem witness_RefusedAndBrokenFramesAreCounted :
    let s := onIdleBus up
    let on := fun b => up.setNlc { up.nlc with bus := b }
    let other := nodeBytes 2 2 1 false [1]
    s.Follows ∧ (let p := (s.setMode .parked).setNlc { s.nlc with link := .leaving, breakDue := true }
      p.Follows ∧ p.mode = .parked) ∧ (s.supply = .on ∧ s.nlc.link.receives = true ∧ s.nlc.tx = .idle) ∧
      (∃ eod rest, Carries (frameWave (nodeBytes 0 2 1 false [1]) []) (some .eng) .command false [1] eod rest) ∧
      (∃ eod rest, Carries (frameWave (nodeBytes 0 2 0 false [1]) []) none .command false [1] eod rest) ∧
      destinationOf (some .eng) .command [1] = .nowhere ∧ destinationOf none .command [1] = .nowhere ∧
      (∃ eod rest, readFrame (frameWave [0x0A, 0x21, 1, 0] []) = .badCrc eod rest) ∧
      readFrame (frameWave [0x0A, 0x2D] []) = .formError ∧
      (∃ h1 h2 payload eod rest, readFrame (frameWave other []) = .good h1 h2 payload eod rest ∧ targetCode h1 ≠ 0) ∧
      readFrame [⟨0, 9999⟩] = .noSof ∧ hasBreak (frameWave other []) = false ∧
      (∀ p ∈ ([⟨0, 499⟩] : Wave), p.width < 500) ∧ (∃ p ∈ ([⟨0, 499⟩, ⟨900, 500⟩] : Wave), 500 ≤ p.width) ∧
      (on .closing).nlc.bus = .closing ∧ (on .waiting).nlc.bus = .waiting ∧ (on .following).nlc.bus = .following ∧
      classifyPulse 499 = .noise ∧ classifyPulse 500 = .bit1 ∧ classifyPulse 9999 = .formError ∧ classifyPulse 10000 = .sof ∧
      classifyPulse 14000 = .sof ∧ classifyPulse 14001 = .formError ∧ classifyPulse 159999 = .formError :=
  ⟨follows_of (by decide +kernel), ⟨follows_of (by decide +kernel), rfl⟩, by decide +kernel,
   ⟨148000, [], carries_of 0x02 0x21 (by decide +kernel) (by decide +kernel)⟩,
   ⟨148000, [], carries_of 0x02 0x01 (by decide +kernel) (by decide +kernel)⟩, by decide +kernel, by decide +kernel,
   ⟨148000, [], by decide +kernel⟩, by decide +kernel,
   ⟨0x0A, 0x21, [1], 148000, [], by decide +kernel, by decide +kernel⟩, by decide +kernel⟩

/-- A queue whose front is held, an empty one, a due break, a link being left with wake-on-node set, and the two transmitter
states; HALTED with a HALT frame left and with none. -/
theorem witness_BusIdleStartsTheFirstUnheldEntry :
    let q := [{ forceEntry with held := true }, { tunnelEntry with reply := .none }, forceEntry]
    let s := up.setNlc { up.nlc with queue := q }
    s.supply = .on ∧ s.nlc.link.receives = true ∧ s.nlc.tx = .idle ∧ s.nlc.breakDue = false ∧ s.nlc.link = .up ∧
      s.nlc.queue = [{ forceEntry with held := true }] ++ { tunnelEntry with reply := .none } :: [forceEntry] ∧
      tunnelEntry.payload.length ≤ 12 ∧ (flying forceEntry up).nlc.tx = .frame forceEntry.frame ∧
      (up.setNlc { up.nlc with link := .leaving, tx := .brk .released }).nlc.tx = .brk .released ∧
      (up.setNlc { up.nlc with link := .leaving }).nlc.link.receives = true ∧
      (up.setNlc { up.nlc with breakDue := true }).nlc.breakDue = true ∧ up.nlc.queue = [] ∧
      Nat.testBit ((up.setParams (setParam up.params .attention 1024)).par .attention) 10 = true ∧
      (let h := fun q => (inMode .halted).setNlc { up.nlc with link := .halting, queue := q }
       let idle := fun s => (after (.busIdle false) s).nlc.link
       (h []).nlc.link.receives = true ∧ [forceEntry] ≠ [] ∧ idle (h [forceEntry]) = .halting ∧ idle (h []) = .silent) := by
  decide +kernel

/-- The third bus reset of the watch at 1000 ms, and one at 1001 ms that is not; a frame on the bus and one not yet settled; the
620's own break before and after its recognition; the run lengths at their boundaries; a newer entry behind; a wave with two
runs; a link that is being left and one that falls silent, with the frame's entry final and with one that returns. -/
theorem witness_BusResetReturnsTheEntryInFlight :
    let s := flying forceEntry up
    let own := fun b => up.setNlc { up.nlc with tx := .brk b, bus := .busy }
    (onIdleBus up).Follows ∧ s.supply = .on ∧ s.nlc.link = .up ∧ 160000 ≤ 160000 ∧ s.nlc.tx = .frame forceEntry.frame ∧
      s.nlc.queue = [] ++ { forceEntry with inFlight := true } :: [] ∧ s.mode ≠ .parked ∧ s.mode ≠ .halted ∧
      s.nlc.olderReset = none ∧ elapsed 1000 0 ≤ 1000 ∧ 1000 < elapsed 1001 0 ∧ up.nlc.tx = .idle ∧ forceEntry.fate = .returns ∧
      (s.setNlc { s.nlc with tx := .ended .bitErr [] 0 }).nlc.tx = .ended .bitErr [] 0 ∧
      (own .recognised).nlc.tx = .brk .recognised ∧ (own .driving).nlc.tx = .brk .driving ∧ 191999 < 192000 ∧
      [forceEntry].any (Entry.waitsFor .eng .force) = true ∧ readFrame [⟨0, 160000⟩, ⟨170000, 170000⟩] = .brk ∧
      (([⟨0, 160000⟩, ⟨170000, 170000⟩, ⟨400000, 159999⟩] : Wave).filter (fun p => decide (160000 ≤ p.width))).length = 2 ∧
      up.nlc.olderReset = none ∧ up.nlc.newerReset = none ∧ up.nlc.link = .up ∧
      (let gone := flying { forceEntry with fate := .final } (inMode .parked)
       let leaving := gone.setNlc { gone.nlc with link := .leaving }
       let halting := (s.setMode .halted).setNlc { s.nlc with link := .halting }
       leaving.supply = .on ∧ leaving.nlc.link = .leaving ∧ leaving.mode = .parked ∧ leaving.nlc.breakDue = false ∧
       leaving.nlc.queue = [] ++ { forceEntry with fate := .final, inFlight := true } :: [] ∧
       (after (.busReset 160000) leaving).nlc.link = .away ∧ halting.supply = .on ∧ halting.nlc.link = .halting ∧
       halting.mode = .halted ∧ (after (.busReset 160000) halting).nlc.link = .halting ∧
       (after (.busReset 160000) (halting.setNlc { halting.nlc with queue := [], tx := .idle })).nlc.link = .silent) :=
  ⟨follows_of (by decide +kernel), by decide +kernel⟩

/-- The last entry of a link that is being left and of one that falls silent: a frame with each outcome of its window and one that
waits for the idle bus; each ground on which the entry leaves; failures 6, a link left and a part woken. -/
theorem witness_CompletionsSettleTheEntryInFlight_last :
    let e : Entry := { tunnelEntry with inFlight := true, fate := .final, attempts := 2 }
    let parked := flying e (inMode .parked)
    let s := parked.setNlc { parked.nlc with link := .leaving, failures := 6 }
    let idle := s.setNlc { s.nlc with tx := .ended .bitErr [] 0 }
    let halting := (s.setMode .halted).setNlc { s.nlc with link := .halting }
    let w := frameWave e.frame
    s.supply = .on ∧ s.nlc.link = .leaving ∧ halting.nlc.link = .halting ∧ s.nlc.queue = [e] ∧ e.inFlight = true ∧
      s.nlc.breakDue = false ∧ s.nlc.failures < 7 ∧ Completion.done.acked = true ∧
      (Completion.noAck.failed = true ∧ 2 ≤ e.attempts) ∧ Entry.isHalt { e with origin := .mode, priority := 0 } = true ∧
      e.fate ≠ .returns ∧ s.nlc.tx = .frame e.frame ∧ idle.nlc.tx = .ended .bitErr [] 0 ∧
      sendOutcome e.frame (w []) = .emptyWindow (frameEod e.frame + 4000) .closing ∧
      sendOutcome e.frame (w [0x10, crc8 [0x10]]) = .acked 0x10 (crc8 [0x10]) (frameEod e.frame + 64000) .closing ∧
      completionOfWindow 0x10 (crc8 [0x10]) = .nakNotReady ∧ e.reply = .confirmed 9 2 ∧ s.hli.ordered ∧
      (after (.frameCompletion (w [])) s).nlc.link = .away ∧ (after (.busIdle true) idle).nlc.link = .away ∧
      (after (.frameCompletion (w [])) halting).nlc.link = .silent := by decide +kernel

/-- Attempts 1 and 2, and failures 6 and 7, are the boundaries; a newer entry behind; the last entry of a link that is being left
and of one that falls silent. -/
theorem witness_CompletionsSettleTheEntryInFlight :
    let e : Entry := { tunnelEntry with inFlight := true, attempts := 2 }
    let s := flying tunnelEntry up
    s.supply = .on ∧ s.nlc.link = .up ∧ s.mode.live = true ∧ s.nlc.tx = .frame tunnelEntry.frame ∧
      s.nlc.queue = [] ++ { tunnelEntry with inFlight := true } :: [] ∧ e.inFlight = true ∧ e.fate = .returns ∧
      e.isHalt = false ∧ 2 ≤ e.attempts ∧ forceEntry.attempts < 2 ∧ e.reply = .confirmed 9 2 ∧ forceEntry.reply = .none ∧
      s.hli.ordered ∧ (s.node e.target).presence ≠ .lost ∧ s.nlc.ack = none ∧ s.nlc.breakDue = false ∧ 6 < 7 ∧
      [tunnelEntry].any (Entry.waitsFor .bkr (.tunnel 0)) = true ∧ Completion.bitErr.failed = true ∧
      Completion.lost.failed = false ∧ (s.setNlc { s.nlc with tx := .ended .lost [] 0 }).nlc.tx = .ended .lost [] 0 ∧
      (s.setNlc { s.nlc with link := .leaving }).nlc.link = .leaving ∧
      (s.setNlc { s.nlc with link := .halting }).nlc.link = .halting := by decide +kernel

/-- Every outcome of a wave. -/
theorem witness_CompletionsSettleTheEntryInFlight_waves :
    let b := tunnelEntry.frame
    let other := frameWave (nodeBytes 2 2 1 false [1]) []
    (∃ h1 h2 payload eod rest, readFrame other = .good h1 h2 payload eod rest ∧ targetCode h1 ≠ 0) ∧
      (∃ h1 h2 payload eod rest, readFrame engWave = .good h1 h2 payload eod rest ∧ targetCode h1 = 0) ∧
      hasBreak (frameWave b [0, crc8 [0]]) = false ∧
      (∀ code : Byte, code ∈ [0x00, 0x01, 0x10, 0x11] →
        sendOutcome b (frameWave b [code, crc8 [code]]) = .acked code (crc8 [code]) (frameEod b + 64000) .closing) ∧
      sendOutcome b (frameWave b []) = .emptyWindow (frameEod b + 4000) .closing ∧
      sendOutcome b (frameWave b [0, crc8 [0] ^^^ 1]) = .acked 0 (crc8 [0] ^^^ 1) (frameEod b + 64000) .closing ∧
      completionOfWindow 0 (crc8 [0] ^^^ 1) = .ackCrc ∧
      sendOutcome b (frameWave b [] ++ [⟨frameEod b, 5000⟩]) = .windowError (frameDrive b).endNs ∧
      sendOutcome b [⟨0, 11000⟩] = .bitErr 11000 ∧ sendOutcome b other = .lost 14000 ∧
      sendOutcome b engWave = .lost 14000 :=
  ⟨⟨0x0A, 0x21, [1], 148000, [], by decide +kernel, by decide +kernel⟩,
   ⟨0x00, 0x26, engPayload, 308000, symbolsFrom 308000 (bitsOf [0, crc8 [0]]), by decide +kernel, by decide +kernel⟩,
   by decide +kernel⟩

theorem witness_BlendAllocatesTheWholeDemand :
    0 < getParam defaultParams .kFront ∧ 0 < getParam defaultParams .kRear := by decide +kernel

theorem witness_RecoveryStaysWithinItsBounds :
    (nominal.result defaultParams .demand).fReg = 15559 ∧ ({ nominal with slip := true } : BlendInputs).slip = true ∧
      (({ nominal with slip := true }).result defaultParams .demand).fReg = 0 := by decide +kernel

/-- Charge-sustaining adds force in section 7.6 and none in section 7.5. -/
theorem witness_SplitAllocatesTheWholeRequest :
    0 < (({ drive with traction := 8000, speed := 600, soc := some 500 }).result defaultParams).fCs ∧
      (drive.result defaultParams).fCs = 0 ∧ ({ drive with level := .safeStop } : SplitInputs).level = .safeStop ∧
      drive.factor ≤ 256 := by
  decide +kernel

/-- A step answers a next state. -/
theorem witness_step : step (service up) = .next (service up).tick := rfl

/-- A part at SERVICE with its records PRESENT meets the host link's, the queue's and the ring's laws. -/
theorem witness_StepsKeepTheHostLinkLaws : AccessLaw (service up) ∧ ReplyLaw (service up) :=
  ⟨fun _ => by decide +kernel, by decide +kernel, by decide +kernel, by decide +kernel⟩

theorem witness_StepsKeepTheQueueLaw : QueueLaw (flying forceEntry up) :=
  ⟨by decide +kernel, by decide +kernel, by decide +kernel, by decide +kernel, List.pairwise_singleton _ _, by decide +kernel,
   by decide +kernel, fun h => absurd h (by decide +kernel), fun h => absurd h (by decide +kernel)⟩

/-- A part that has just entered HALTED, with an entry of READY still in flight. -/
theorem witness_StepsKeepTheQueueLaw_halted :
    let s := after (.modeHalt 1 []) (flying forceEntry up)
    s.mode = .halted ∧ s.nlc.queue.length = 5 ∧ (s.nlc.queue.filter (fun e => !e.isHalt)).map Entry.fate = [.final] ∧ QueueLaw s :=
  ⟨by decide +kernel, by decide +kernel, by decide +kernel, by decide +kernel, by decide +kernel, by decide +kernel,
   by decide +kernel, by unfold Entry.apart; decide +kernel, by decide +kernel, by decide +kernel, fun _ => by decide +kernel,
   fun _ => by decide +kernel⟩

theorem witness_StepsKeepTheRingLaw : RingLaw up :=
  ⟨by decide +kernel, by decide +kernel, fun n r h => by
    have : up.log.ring = [] := by decide +kernel
    simp [this] at h⟩

theorem witness_StepsKeepTheFaultLaw : FaultLaw (withFault .crankFail .note 255 false up) :=
  ⟨by decide +kernel, fun k => by cases k <;> decide +kernel, by decide +kernel, by decide +kernel⟩

theorem witness_StepsKeepTheParameterLaw : ParamLaw driving :=
  ⟨fun p => by cases p <;> decide +kernel, by decide +kernel, by decide +kernel, by decide +kernel⟩

theorem witness_StepsKeepTheEngineLaws :
    let s := after (.engineStart 1 [1]) (driving.setDemand { driving.demand with zone := true })
    EngineLaw s ∧ ZoneLaw s ∧ s.esc.machine = .cranking :=
  ⟨⟨by decide +kernel, by decide +kernel, by decide +kernel, by decide +kernel⟩, fun _ _ => by decide +kernel,
   by decide +kernel⟩

theorem witness_StepsKeepThePresenceLaw : PresenceLaw up := fun n => by cases n <;> decide +kernel

theorem witness_StepsKeepTheWearLaw : WearLaw driving := fun k => by cases k <;> decide +kernel

end Sys2Proof.Tests
end

/-! # The law of the setpoint queue is kept by every step (R70, O53)

R70's three bounds follow from a smaller invariant of the queue alone, `QueueCore`: every entry is a tunnel entry or one of the five
control pairs, any two are apart, and as many are in flight as the transmitter carries. What HALTED adds is `HaltQueue`. Both are
kept by the list operations (section 1) and by the operations of the link (section 2). Every other operation moves the link through
these alone, and none offers an entry in HALTED: `KeepsQueue` composes them (sections 3 and 4). Changes of mode, the requests and the
dispatch assemble the rest (sections 5 to 7). -/

namespace Sys2Proof.Machine

/-! ## 1. The queue as a list -/

/-- What the origin, target and kind of one entry obey, whatever else is queued (R66, R76). -/
def Entry.Proper (e : Entry) : Prop :=
  (e.origin == .tunnel) = e.kind.isTunnel ∧ (e.kind.isTunnel = true ∨ (e.target, e.kind) ∈ controlPairs)

/-- The part of the queue's law that no mode changes, for a transmitter that carries `flying` entries. -/
structure QueueCore (flying : Nat) (q : List Entry) : Prop where
  proper : ∀ e ∈ q, e.Proper
  apart : q.Pairwise Entry.apart
  inFlight : q.countP (fun e => e.inFlight) = flying

/-- The part of the queue's law that HALTED adds, with room for `room` entries. -/
structure HaltQueue (room : Nat) (q : List Entry) : Prop where
  length : q.length ≤ room
  waiting : ∀ e ∈ q, e.inFlight = true ∨ e.isHalt = true
  flight : ∀ e ∈ q, e.inFlight = true → e.isHalt = true ∨ e.fate ≠ .returns

/-! ### Two entries apart, and two lists of the same entries -/

theorem Entry.apart_symm {a b : Entry} (h : a.apart b) : b.apart a := by
  obtain ⟨hwait, hslot⟩ := h
  refine ⟨?_, fun hb hk => hslot (hk ▸ hb) hk.symm⟩
  rcases hwait with h | h | h | h
  · exact .inr (.inl h)
  · exact .inl h
  · exact .inr (.inr (.inl h.symm))
  · exact .inr (.inr (.inr h.symm))

theorem QueueCore.perm {n : Nat} {p q : List Entry} (hpq : p.Perm q) (h : QueueCore n p) : QueueCore n q :=
  ⟨fun e he => h.proper e (hpq.mem_iff.mpr he), (hpq.pairwise_iff Entry.apart_symm).mp h.apart,
    (hpq.countP_eq _).symm.trans h.inFlight⟩

theorem HaltQueue.perm {n : Nat} {p q : List Entry} (hpq : p.Perm q) (h : HaltQueue n p) : HaltQueue n q :=
  ⟨hpq.length_eq ▸ h.length, fun e he => h.waiting e (hpq.mem_iff.mpr he), fun e he => h.flight e (hpq.mem_iff.mpr he)⟩

theorem queueCore_nil : QueueCore 0 [] := ⟨by simp, .nil, rfl⟩

theorem HaltQueue.cons {n : Nat} {e : Entry} {q : List Entry} (h : HaltQueue n q) (he : e.isHalt = true) :
    HaltQueue (n + 1) (e :: q) := by
  refine ⟨Nat.succ_le_succ h.length, fun x hx => ?_, fun x hx hfly => ?_⟩ <;> rcases List.mem_cons.mp hx with rfl | hx
  · exact .inr he
  · exact h.waiting x hx
  · exact .inl he
  · exact h.flight x hx hfly

/-! ### R70's bounds -/

/-- Every tunnel slot. -/
def tunnelKinds : List EntryKind := slotNumbers.map .tunnel

theorem EntryKind.mem_tunnelKinds {k : EntryKind} (h : k.isTunnel = true) : k ∈ tunnelKinds := by
  cases k with
  | tunnel i => exact List.mem_map.mpr ⟨i, by fin_cases i <;> decide, rfl⟩
  | _ => cases h

section
variable {n : Nat} {q : List Entry}

/-- Tunnel entries hold different slots of the four (R76). -/
theorem QueueCore.tunnel_le (h : QueueCore n q) : (q.filter (fun e => e.origin == .tunnel)).length ≤ 4 := by
  have htunnel : ∀ e ∈ q.filter (fun e => e.origin == .tunnel), e.kind.isTunnel = true := fun e he =>
    (h.proper e (List.mem_filter.mp he).1).1 ▸ (List.mem_filter.mp he).2
  have hnodup : ((q.filter (fun e => e.origin == .tunnel)).map Entry.kind).Nodup :=
    List.pairwise_map.mpr ((h.apart.filter _).imp_of_mem fun ha _ hab => hab.2 (htunnel _ ha))
  have hsub : (q.filter (fun e => e.origin == .tunnel)).map Entry.kind ⊆ tunnelKinds := fun k hk => by
    obtain ⟨e, he, rfl⟩ := List.mem_map.mp hk
    exact EntryKind.mem_tunnelKinds (htunnel e he)
  simpa [tunnelKinds, slotNumbers] using (hnodup.subperm hsub).length_le

/-- The entries of the blocks that wait. -/
def waitingControl (q : List Entry) : List Entry := (q.filter (fun e => e.origin != .tunnel)).filter (fun e => !e.inFlight)

theorem mem_waitingControl {e : Entry} (h : e ∈ waitingControl q) :
    e ∈ q ∧ e.inFlight = false ∧ (e.origin == .tunnel) = false := by
  simp only [waitingControl, List.mem_filter, Bool.not_eq_true', bne] at h
  exact ⟨h.1.1, h.2, h.1.2⟩

/-- Control entries that wait are for different ones of the five pairs (R66, R70). -/
theorem QueueCore.waitingControl_le (h : QueueCore n q) : (waitingControl q).length ≤ 5 := by
  have hnodup : ((waitingControl q).map (fun e => (e.target, e.kind))).Nodup :=
    List.pairwise_map.mpr (((h.apart.filter _).filter _).imp_of_mem fun ha hb hab heq => by
      obtain ⟨ht, hk⟩ := Prod.mk.inj heq
      simpa [mem_waitingControl ha, mem_waitingControl hb, ht, hk] using hab.1)
  have hsub : (waitingControl q).map (fun e => (e.target, e.kind)) ⊆ controlPairs := fun p hp => by
    obtain ⟨e, he, rfl⟩ := List.mem_map.mp hp
    obtain ⟨hq, -, ho⟩ := mem_waitingControl he
    obtain ⟨hkind, hpair⟩ := h.proper e hq
    exact hpair.resolve_left (by rw [← hkind, ho]; simp)
  exact (List.length_map _).symm.trans_le (hnodup.subperm hsub).length_le

theorem QueueCore.control_le (h : QueueCore n q) (hn : n ≤ 1) : (q.filter (fun e => e.origin != .tunnel)).length ≤ 6 := by
  have hflying : ((q.filter (fun e => e.origin != .tunnel)).filter (fun e => e.inFlight)).length ≤ n := by
    rw [← h.inFlight, List.countP_eq_length_filter]
    exact (List.filter_sublist.filter _).length_le
  have hwaiting := h.waitingControl_le
  unfold waitingControl at hwaiting
  have hsplit := List.length_eq_length_filter_add (l := q.filter (fun e => e.origin != .tunnel)) (fun e => e.inFlight)
  omega

theorem QueueCore.length_le (h : QueueCore n q) (hn : n ≤ 1) : q.length ≤ 10 := by
  have htunnel := h.tunnel_le
  have hcontrol := h.control_le hn
  have hsplit := List.length_eq_length_filter_add (l := q) (fun e => e.origin == .tunnel)
  simp only [bne] at hcontrol
  omega

/-! ### Changes that leave every entry's place -/

/-- A change of fields that neither bound names keeps the core. -/
theorem QueueCore.map (h : QueueCore n q) {f : Entry → Entry}
    (hf : ∀ e, (f e).target = e.target ∧ (f e).kind = e.kind ∧ (f e).inFlight = e.inFlight)
    (ho : ∀ e ∈ q, ((f e).origin == .tunnel) = e.kind.isTunnel) : QueueCore n (q.map f) := by
  refine ⟨fun x hx => ?_, List.pairwise_map.mpr (h.apart.imp fun {a b} hab => ?_), ?_⟩
  · obtain ⟨e, he, rfl⟩ := List.mem_map.mp hx
    obtain ⟨htarget, hkind, -⟩ := hf e
    rw [Entry.Proper, htarget, hkind]
    exact ⟨ho e he, (h.proper e he).2⟩
  · simpa only [Entry.apart, hf] using hab
  · rw [List.countP_map, ← h.inFlight]
    exact congrArg (List.countP · q) (funext fun e => (hf e).2.2)

/-- A change of fields that HALTED does not look at keeps its part. -/
theorem HaltQueue.map (h : HaltQueue n q) {f : Entry → Entry}
    (hf : ∀ e, (f e).inFlight = e.inFlight ∧ (e.isHalt = true → (f e).isHalt = true) ∧
      (e.fate ≠ .returns → (f e).fate ≠ .returns)) : HaltQueue n (q.map f) := by
  refine ⟨by simpa using h.length, fun x hx => ?_, fun x hx => ?_⟩ <;> obtain ⟨e, he, rfl⟩ := List.mem_map.mp hx <;>
    obtain ⟨hfly, hhalt, hfate⟩ := hf e <;> rw [hfly]
  · exact (h.waiting e he).imp_right hhalt
  · exact fun hi => (h.flight e he hi).imp hhalt hfate

/-- The removal of waiting entries keeps the core. -/
theorem QueueCore.filter (h : QueueCore n q) {p : Entry → Bool} (hp : ∀ e, e.inFlight = true → p e = true) :
    QueueCore n (q.filter p) := by
  refine ⟨fun e he => h.proper e (List.mem_filter.mp he).1, h.apart.filter p, ?_⟩
  rw [List.countP_filter, ← h.inFlight]
  exact List.countP_congr fun e _ => by simpa using hp e

/-- Fewer entries keep the part of HALTED. -/
theorem HaltQueue.filter (h : HaltQueue n q) (p : Entry → Bool) : HaltQueue n (q.filter p) :=
  ⟨(List.length_filter_le p q).trans h.length, fun e he => h.waiting e (List.mem_filter.mp he).1,
    fun e he => h.flight e (List.mem_filter.mp he).1⟩

/-! ### One entry joins, starts, settles -/

theorem enqueue_perm (e : Entry) (q : List Entry) : (enqueue e q).Perm (e :: q) := by
  induction q with
  | nil => exact .refl _
  | cons x q ih =>
    simp only [enqueue]
    split
    · exact (ih.cons x).trans (.swap e x q)
    · exact .refl _

/-- An entry joins for whose target and kind none waits, and a tunnel entry into a free slot (R67, R76). -/
theorem QueueCore.enqueue (h : QueueCore n q) {e : Entry} (hp : e.Proper) (hi : e.inFlight = false)
    (hw : q.any (Entry.waitsFor e.target e.kind) = false) (hs : e.kind.isTunnel = true → ∀ x ∈ q, x.kind ≠ e.kind) :
    QueueCore n (enqueue e q) := by
  have hapart : ∀ x ∈ q, e.apart x := fun x hx => by
    have hx' := List.any_eq_false.mp hw x hx
    refine ⟨?_, fun ht => (hs ht x hx).symm⟩
    by_contra hcon
    simp only [not_or, Decidable.not_not, Bool.not_eq_true] at hcon
    obtain ⟨-, hfly, ht, hk⟩ := hcon
    exact hx' (by simp [Entry.waitsFor, ← ht, ← hk, hfly])
  refine QueueCore.perm (enqueue_perm e q).symm ⟨?_, List.pairwise_cons.mpr ⟨hapart, h.apart⟩, ?_⟩
  · exact fun x hx => (List.mem_cons.mp hx).elim (fun hx => hx ▸ hp) (h.proper x)
  · simp [hi, h.inFlight]

/-- An entry of one target and kind is put in another's place, in flight or not. -/
theorem QueueCore.replace {m : Nat} {front back : List Entry} {e x : Entry} (h : QueueCore n (front ++ e :: back))
    (hx : x.origin = e.origin ∧ x.target = e.target ∧ x.kind = e.kind)
    (ha : x.inFlight = true ∨ ∀ y ∈ front ++ back, y.waitsFor e.target e.kind = false)
    (hm : m + e.inFlight.toNat = n + x.inFlight.toNat) : QueueCore m (front ++ x :: back) := by
  obtain ⟨horigin, htarget, hkind⟩ := hx
  obtain ⟨hproper, hpair, hcount⟩ := h.perm List.perm_middle
  obtain ⟨heads, htail⟩ := List.pairwise_cons.mp hpair
  refine QueueCore.perm List.perm_middle.symm ⟨fun y hy => ?_, List.pairwise_cons.mpr ⟨fun y hy => ?_, htail⟩, ?_⟩
  · rcases List.mem_cons.mp hy with rfl | hy
    · simpa only [Entry.Proper, horigin, htarget, hkind] using hproper e (List.mem_cons_self ..)
    · exact hproper y (List.mem_cons_of_mem _ hy)
  · refine ⟨?_, by rw [hkind]; exact (heads y hy).2⟩
    rcases ha with ha | ha
    · exact .inl ha
    · have hy' := ha y hy
      rw [htarget, hkind]
      by_contra hcon
      simp only [not_or, Decidable.not_not, Bool.not_eq_true] at hcon
      obtain ⟨-, hfly, ht, hk⟩ := hcon
      simp [Entry.waitsFor, ← ht, ← hk, hfly] at hy'
  · rw [List.countP_cons] at hcount ⊢
    cases he : e.inFlight <;> cases hx : x.inFlight <;> simp [he, hx] at hcount hm ⊢ <;> omega

/-- The first sendable entry starts, in its place (R23, R64, R65). -/
theorem startFirst_eq {e : Entry} (h : q.find? Entry.sendable = some e) :
    e.inFlight = false ∧ ∃ front back, q = front ++ e :: back ∧ startFirst q = front ++ { e with inFlight := true } :: back := by
  obtain ⟨hs, front, back, rfl, hfront⟩ := List.find?_eq_some_iff_append.mp h
  refine ⟨by simp [Entry.sendable] at hs; exact hs.2, front, back, rfl, ?_⟩
  clear h
  induction front with
  | nil => simp [startFirst, hs]
  | cons x front ih =>
    have hx : x.sendable = false := by simpa using hfront x (List.mem_cons_self ..)
    simpa [startFirst, hx] using ih fun a ha => hfront a (List.mem_cons_of_mem _ ha)

theorem QueueCore.startFirst (h : QueueCore 0 q) {e : Entry} (he : q.find? Entry.sendable = some e) :
    QueueCore 1 (startFirst q) := by
  obtain ⟨hfly, front, back, rfl, hstart⟩ := startFirst_eq he
  rw [hstart]
  exact h.replace ⟨rfl, rfl, rfl⟩ (.inl rfl) (by simp [hfly])

/-- In HALTED only HALT frames start. -/
theorem HaltQueue.startFirst (h : HaltQueue n q) {e : Entry} (he : q.find? Entry.sendable = some e) :
    HaltQueue n (startFirst q) := by
  obtain ⟨hfly, front, back, rfl, hstart⟩ := startFirst_eq he
  have hhalt : e.isHalt = true := (h.waiting e (by simp)).resolve_left (by simp [hfly])
  have hother : ∀ y ∈ front ++ { e with inFlight := true } :: back, y = { e with inFlight := true } ∨ y ∈ front ++ e :: back :=
    fun y hy => by simp only [List.mem_append, List.mem_cons] at hy ⊢; tauto
  rw [hstart]
  refine ⟨by simpa using h.length, fun y hy => ?_, fun y hy => ?_⟩ <;> rcases hother y hy with rfl | hy
  · exact .inl rfl
  · exact h.waiting y hy
  · exact fun _ => .inl hhalt
  · exact h.flight y hy

/-- The entry in flight is the only one. -/
theorem QueueCore.alone (h : QueueCore 1 q) {e : Entry} (he : q.find? (fun e => e.inFlight) = some e) :
    e.inFlight = true ∧ ∃ front back, q = front ++ e :: back ∧ ∀ x ∈ front ++ back, x.inFlight = false := by
  obtain ⟨hfly, front, back, rfl, -⟩ := List.find?_eq_some_iff_append.mp he
  refine ⟨hfly, front, back, rfl, fun x hx => ?_⟩
  have hcount := (h.perm List.perm_middle).inFlight
  rw [List.countP_cons_of_pos hfly, Nat.add_eq_right, List.countP_eq_zero] at hcount
  simpa using hcount x hx

/-- The entry in flight settles: it goes, or waits again where none for its target and kind waits (R69, R72). -/
theorem QueueCore.settleQueue (h : QueueCore 1 q) {e : Entry} (he : q.find? (fun e => e.inFlight) = some e)
    {remove : Bool} (hr : remove = true ∨ q.any (Entry.waitsFor e.target e.kind) = false) (attempts : Nat) (c : Completion) :
    QueueCore 0 (settleQueue remove attempts c q) := by
  cases remove with
  | true =>
    refine ⟨fun e he => h.proper e (List.mem_filter.mp he).1, h.apart.filter _, ?_⟩
    exact List.countP_eq_zero.mpr fun e he => by simpa using (List.mem_filter.mp he).2
  | false =>
    obtain ⟨hfly, front, back, rfl, hothers⟩ := h.alone he
    have hany := hr.resolve_left (by simp)
    have hmap : settleQueue false attempts c (front ++ e :: back) =
        front ++ { e with inFlight := false, attempts := attempts, last := some c } :: back := by
      have hsame : ∀ l : List Entry, (∀ x ∈ l, x.inFlight = false) →
          l.map (fun e => if e.inFlight then { e with inFlight := false, attempts := attempts, last := some c } else e) = l :=
        fun l hl => (List.map_congr_left fun x hx => by simp [hl x hx]).trans (List.map_id l)
      simp [Machine.settleQueue, hfly, hsame front fun x hx => hothers x (by simp [hx]),
        hsame back fun x hx => hothers x (by simp [hx])]
    rw [hmap]
    refine h.replace ⟨rfl, rfl, rfl⟩ (.inr fun y hy => ?_) (by simp [hfly])
    simpa using List.any_eq_false.mp hany y (by simp only [List.mem_append, List.mem_cons] at hy ⊢; tauto)

/-- In HALTED a settled entry waits again only as a HALT frame (R10, R30). -/
theorem HaltQueue.settleQueue (h : HaltQueue n q) {remove : Bool}
    (hr : remove = true ∨ ∀ e ∈ q, e.inFlight = true → e.fate = .returns) (attempts : Nat) (c : Completion) :
    HaltQueue n (settleQueue remove attempts c q) := by
  cases remove with
  | true => exact h.filter _
  | false =>
    have hreturns := hr.resolve_left (by simp)
    have hsettled : ∀ x ∈ Machine.settleQueue false attempts c q, x.inFlight = false ∧ x.isHalt = true := fun x hx => by
      obtain ⟨e, he, rfl⟩ := List.mem_map.mp hx
      cases hfly : e.inFlight with
      | true => simpa [hfly, Entry.isHalt] using (h.flight e he hfly).resolve_right (not_not_intro (hreturns e he hfly))
      | false => simpa [hfly, Entry.isHalt] using h.waiting e he
    exact ⟨by simpa [Machine.settleQueue] using h.length, fun x hx => .inr (hsettled x hx).2,
      fun x hx => fun _ => .inl (hsettled x hx).2⟩

end

/-! ## 2. The queue on the link -/

/-- How many entries the transmitter carries: one while a frame is sent or its completion is due (R27, R29). -/
def Tx.flying : Tx → Nat
  | .frame _ => 1
  | .ended _ _ _ => 1
  | .idle => 0
  | .brk _ => 0

theorem Tx.flying_le (t : Tx) : t.flying ≤ 1 := by cases t <;> simp [Tx.flying]

/-- The core of the queue's law, of a state. -/
def State.QueueCore (s : State) : Prop := Machine.QueueCore s.nlc.tx.flying s.nlc.queue

/-- The queue's law is its core, and in HALTED what HALTED adds; R70's bounds follow. -/
theorem queueLaw_iff {s : State} : QueueLaw s ↔ s.QueueCore ∧ (s.mode = .halted → HaltQueue 5 s.nlc.queue) := by
  have hcarried : (match s.nlc.tx with
      | .frame _ => 1
      | .ended _ _ _ => 1
      | .idle => 0
      | .brk _ => 0) = s.nlc.tx.flying := by cases s.nlc.tx <;> rfl
  constructor
  · intro h
    refine ⟨⟨fun e he => ⟨h.origin e he, h.control e he⟩, h.apart, ?_⟩, fun hm => ?_⟩
    · rw [List.countP_eq_length_filter]
      exact h.inFlight.trans hcarried
    · exact ⟨(h.halted hm).1, (h.halted hm).2, h.haltedFlight hm⟩
  · rintro ⟨hc, hh⟩
    have hn := Tx.flying_le s.nlc.tx
    exact ⟨hc.length_le hn, hc.tunnel_le, hc.control_le hn, fun e he => (hc.proper e he).1, hc.apart,
      List.countP_eq_length_filter.symm.trans (hc.inFlight.trans hcarried.symm), fun e he => (hc.proper e he).2,
      fun hm => ⟨(hh hm).length, (hh hm).waiting⟩, fun hm => (hh hm).flight⟩

theorem QueueLaw.core {s : State} (h : QueueLaw s) : s.QueueCore := (queueLaw_iff.mp h).1

theorem QueueLaw.of_core {s : State} (h : s.QueueCore) (hm : s.mode ≠ .halted) : QueueLaw s :=
  queueLaw_iff.mpr ⟨h, fun hh => absurd hh hm⟩

/-- The law looks at nothing but the queue, what the transmitter carries, and the mode. -/
theorem QueueLaw.carry {s t : State} (h : QueueLaw s) (hq : t.nlc.queue = s.nlc.queue)
    (ht : t.nlc.tx.flying = s.nlc.tx.flying) (hm : t.mode = s.mode) : QueueLaw t := by
  rw [queueLaw_iff] at h ⊢
  simpa only [State.QueueCore, hq, ht, hm] using h

/-! ### Starting a frame -/

theorem State.startFrame_core {s : State} (h : Machine.QueueCore 0 s.nlc.queue) : s.startFrame.QueueCore := by
  unfold State.startFrame
  split
  · exact h
  · next e he => exact h.startFirst he

theorem State.startFrame_halt {n : Nat} {s : State} (h : HaltQueue n s.nlc.queue) : HaltQueue n s.startFrame.nlc.queue := by
  unfold State.startFrame
  split
  · exact h
  · next e he => exact h.startFirst he

theorem State.kick_core {s : State} (h : s.QueueCore) : s.kick.QueueCore := by
  unfold State.kick
  split
  · next hk =>
    refine State.startFrame_core ?_
    simpa [State.QueueCore, hk.2.1, Tx.flying] using h
  · exact h

theorem State.kick_halt {n : Nat} {s : State} (h : HaltQueue n s.nlc.queue) : HaltQueue n s.kick.nlc.queue := by
  unfold State.kick
  split
  · exact State.startFrame_halt h
  · exact h

theorem State.kick_tx {s : State} (h : s.nlc.tx.breaking = true) : s.kick.nlc.tx = s.nlc.tx := by
  unfold State.kick
  split
  · next hk => rw [hk.2.1] at h; cases h
  · rfl

/-! ### Offers -/

theorem controlPairs_isTunnel {n : NodeAddr} {k : EntryKind} (h : (n, k) ∈ controlPairs) : k.isTunnel = false := by
  cases k with
  | tunnel i => simp [controlPairs] at h
  | _ => rfl

/-- An offer of a proper entry, and of a tunnel entry for a free slot, keeps the core. -/
theorem State.offerAt_core {n : NodeAddr} {k : EntryKind} {payload : List Byte} {priority : Nat} {origin : Origin} {reply : ReplyMode}
    {s : State} (h : s.QueueCore) (ho : (origin == .tunnel) = k.isTunnel)
    (hc : k.isTunnel = true ∨ (n, k) ∈ controlPairs) (hs : k.isTunnel = true → ∀ e ∈ s.nlc.queue, e.kind ≠ k) :
    (s.offerAt n k payload priority origin reply).QueueCore := by
  unfold State.offerAt
  split
  · split
    · refine QueueCore.map h (fun e => ?_) (fun e he => ?_)
      · split <;> exact ⟨rfl, rfl, rfl⟩
      · split
        · next hw =>
          simp only [Entry.waitsFor, Bool.and_eq_true, beq_iff_eq] at hw
          rw [hw.1.2]
          exact ho
        · exact (h.proper e he).1
    · next hw => exact State.kick_core (h.enqueue ⟨ho, hc⟩ rfl (Bool.eq_false_iff.mpr hw) hs)
  · exact h

/-- A HALT frame takes one more place of those that HALTED allows. -/
theorem State.offerHalt_halt {m : Nat} {n : NodeAddr} {k : EntryKind} {payload : List Byte} {s : State}
    (h : HaltQueue m s.nlc.queue) : HaltQueue (m + 1) (s.offerHalt n k payload).nlc.queue := by
  have hmore : HaltQueue (m + 1) s.nlc.queue := ⟨Nat.le_succ_of_le h.length, h.waiting, h.flight⟩
  unfold State.offerHalt State.offerAt
  split
  · split
    · refine HaltQueue.map hmore fun e => ?_
      split
      · exact ⟨rfl, fun he => by simpa [Entry.isHalt] using (Bool.and_eq_true_iff.mp he).2, id⟩
      · exact ⟨rfl, id, id⟩
    · exact State.kick_halt (HaltQueue.perm (enqueue_perm _ _).symm (h.cons rfl))
  · exact hmore

theorem State.offerHalt_core {n : NodeAddr} {k : EntryKind} {payload : List Byte} {s : State} (h : s.QueueCore)
    (hc : (n, k) ∈ controlPairs) : (s.offerHalt n k payload).QueueCore :=
  have hk := controlPairs_isTunnel hc
  State.offerAt_core h hk.symm (.inr hc) (by simp [hk])

theorem State.offerAt_tx {n : NodeAddr} {k : EntryKind} {payload : List Byte} {priority : Nat} {origin : Origin} {reply : ReplyMode}
    {s : State} (h : s.nlc.tx.breaking = true) : (s.offerAt n k payload priority origin reply).nlc.tx = s.nlc.tx := by
  unfold State.offerAt
  split
  · split
    · rfl
    · exact State.kick_tx h
  · rfl

/-! ### Entries that go, and the link -/

/-- The waiting entries that a test picks go; nothing else of the link moves. -/
theorem State.dropWaiting_nlc (picks : Entry → Bool) (code : Entry → Option Completion) (s : State) :
    (s.dropWaiting picks code).nlc = { s.nlc with queue := s.nlc.queue.filter (fun e => !(picks e && !e.inFlight)) } :=
  OnlyChanges.foldl (bs := [.hli]) (fun u e => State.releaseReply_only stLinkFail (code e) e u) _ _ .nlc (by decide)

theorem State.dropWaiting_core {picks : Entry → Bool} {code : Entry → Option Completion} {s : State} (h : s.QueueCore) :
    (s.dropWaiting picks code).QueueCore := by
  unfold State.QueueCore
  rw [State.dropWaiting_nlc]
  exact h.filter fun e he => by simp [he]

theorem State.linkCheck_queue (s : State) : s.linkCheck.nlc.queue = s.nlc.queue := by
  unfold State.linkCheck
  split
  · split <;> rfl
  · split <;> rfl
  · rfl
  · rfl
  · rfl

/-- The transmitter is left, or is idle after an idle or a released break. -/
theorem State.linkCheck_tx (s : State) : s.linkCheck.nlc.tx = s.nlc.tx ∨ (s.nlc.tx.quiet = true ∧ s.linkCheck.nlc.tx = .idle) := by
  unfold State.linkCheck
  split
  · split <;> exact .inl rfl
  · split
    · next hk => exact .inr ⟨hk.2.1, rfl⟩
    · exact .inl rfl
  · exact .inl rfl
  · exact .inl rfl
  · exact .inl rfl

theorem Tx.flying_of_quiet {t : Tx} (h : t.quiet = true) : t.flying = 0 := by
  cases t with
  | idle => rfl
  | brk _ => rfl
  | frame _ => cases h
  | ended _ _ _ => cases h

theorem Tx.quiet_of_breaking {t : Tx} (h : t.breaking = true) : t.quiet = false := by
  cases t with
  | brk p =>
    cases p with
    | released => cases h
    | _ => rfl
  | _ => cases h

@[simp] theorem State.linkCheck_flying (s : State) : s.linkCheck.nlc.tx.flying = s.nlc.tx.flying := by
  rcases s.linkCheck_tx with h | ⟨hq, h⟩
  · rw [h]
  · rw [h, Tx.flying_of_quiet hq]; rfl

theorem State.linkCheck_core {s : State} (h : s.QueueCore) : s.linkCheck.QueueCore := by
  simpa only [State.QueueCore, State.linkCheck_queue, State.linkCheck_flying] using h

theorem lastAttempt_core {n : Nat} {q : List Entry} (h : QueueCore n q) : QueueCore n (lastAttempt q) := by
  refine h.map (fun e => ?_) (fun e he => ?_)
  · split <;> exact ⟨rfl, rfl, rfl⟩
  · split <;> exact (h.proper e he).1

/-- After the waiting entries have gone, what is in flight makes its last attempt (R10, R30). -/
theorem lastAttempt_halt {n : Nat} {q : List Entry} (h : QueueCore n q) (hn : n ≤ 1) (hq : ∀ e ∈ q, e.inFlight = true) :
    HaltQueue 1 (lastAttempt q) := by
  have hlast : ∀ x ∈ lastAttempt q, x.inFlight = true ∧ x.fate ≠ .returns := fun x hx => by
    obtain ⟨e, he, rfl⟩ := List.mem_map.mp hx
    rw [if_pos (hq e he)]
    exact ⟨hq e he, by cases hf : e.fate <;> simp [Fate.withoutRetry]⟩
  refine ⟨?_, fun x hx => .inl (hlast x hx).1, fun x hx _ => .inr (hlast x hx).2⟩
  have hcount : q.countP (fun e => e.inFlight) = q.length := List.countP_eq_length.mpr hq
  simp only [lastAttempt, List.length_map]
  exact hcount ▸ h.inFlight ▸ hn

/-! ### Completion -/

theorem QueueCore.holdEntries {n : Nat} {q : List Entry} (h : QueueCore n q) (t : NodeAddr) : QueueCore n (holdEntries t q) := by
  refine h.map (fun e => ?_) (fun e he => ?_)
  · split <;> exact ⟨rfl, rfl, rfl⟩
  · split <;> exact (h.proper e he).1

theorem HaltQueue.holdEntries {n : Nat} {q : List Entry} (h : HaltQueue n q) (t : NodeAddr) : HaltQueue n (holdEntries t q) :=
  h.map fun e => by split <;> exact ⟨rfl, id, id⟩

/-- A newer entry that waits takes the settled one out of the queue (R69). -/
theorem Entry.leaves_or_unrivalled (e : Entry) (c : Completion) (q : List Entry) :
    e.leaves c q = true ∨ q.any (Entry.waitsFor e.target e.kind) = false := by
  by_cases ha : q.any (Entry.waitsFor e.target e.kind) = true
  · exact .inl (by simp [Entry.leaves, ha])
  · exact .inr (Bool.eq_false_iff.mpr ha)

/-- Only an entry in flight that may return stays (R30, R73). -/
theorem QueueCore.leaves_or_returns {q : List Entry} (h : QueueCore 1 q) {e : Entry}
    (he : q.find? (fun x => x.inFlight) = some e) (c : Completion) :
    e.leaves c q = true ∨ ∀ x ∈ q, x.inFlight = true → x.fate = .returns := by
  by_cases hf : e.fate = .returns
  · obtain ⟨-, front, back, rfl, hothers⟩ := h.alone he
    refine .inr fun x hx hfly => ?_
    rcases List.mem_cons.mp (List.perm_middle.mem_iff.mp hx) with rfl | hx
    · exact hf
    · exact absurd hfly (by simp [hothers x hx])
  · exact .inl (Entry.leaves_of q (.inr (.inr (.inr hf))))

/-- A completion settles what is in flight: the law stands and the transmitter is idle (R30, R69, R72). -/
theorem QueueLaw.settle {s : State} (h : QueueLaw s) (ht : s.nlc.tx.flying = 1) (c : Completion) (bus : Bus) :
    QueueLaw (s.settle c bus) ∧ (s.settle c bus).nlc.tx = .idle := by
  obtain ⟨hcore, hhalt⟩ := queueLaw_iff.mp h
  rw [State.QueueCore, ht] at hcore
  obtain ⟨e, he⟩ : ∃ e, s.nlc.queue.find? (fun x => x.inFlight) = some e := by
    obtain ⟨x, hx, hfly⟩ := List.countP_pos_iff.mp (hcore.inFlight ▸ Nat.zero_lt_one)
    exact Option.isSome_iff_exists.mp (List.find?_isSome.mpr ⟨x, hx, hfly⟩)
  obtain ⟨-, -, hnlc, -, -⟩ := State.settle_spec (c := c) (bus := bus) he
  have hmode : (s.settle c bus).mode = s.mode :=
    (State.frame_settle (bs := [.hli, .nlc, .nodes, .notices]) (s := s) c bus (by simp)).mpr (.refl _ s) .mode (by decide)
  have hsettled := hcore.settleQueue he (e.leaves_or_unrivalled c _) (e.attemptsAfter c) c
  refine ⟨queueLaw_iff.mpr ⟨?_, fun hm => ?_⟩, by rw [hnlc]⟩
  · rw [State.QueueCore, hnlc]
    dsimp only
    split
    · exact hsettled.holdEntries _
    · exact hsettled
  · have hhalted := (hhalt (hmode ▸ hm)).settleQueue (hcore.leaves_or_returns he c) (e.attemptsAfter c) c
    rw [hnlc]
    dsimp only
    split
    · exact hhalted.holdEntries _
    · exact hhalted

/-! ## 3. Operations that keep the queue's law -/

/-- From `s` to `t` the mode stands, the queue's law is kept, and a break being sent is still being sent. -/
structure KeepsQueue (s t : State) : Prop where
  mode : t.mode = s.mode
  law : QueueLaw s → QueueLaw t
  breaking : s.nlc.tx.breaking = true → t.nlc.tx = s.nlc.tx

/-- Every field but the mode and the Node Link Controller. -/
def offQueue : List Block :=
  [.supply, .progress, .waking, .keep, .slowClock, .runTime, .svc, .params, .hli, .demand, .nodes, .bbu, .psu, .esc, .log, .wear,
    .faults, .notices, .pending]

theorem QueueLaw.off {s t : State} (h : QueueLaw s) (hf : OnlyChanges offQueue s t) : QueueLaw t := by
  have hnlc : t.nlc = s.nlc := hf .nlc (by decide)
  exact h.carry (by rw [hnlc]) (by rw [hnlc]) (hf .mode (by decide))

theorem KeepsQueue.refl (s : State) : KeepsQueue s s := ⟨rfl, id, fun _ => rfl⟩

theorem KeepsQueue.trans {s t u : State} (h : KeepsQueue s t) (h' : KeepsQueue t u) : KeepsQueue s u :=
  ⟨h'.mode.trans h.mode, h'.law ∘ h.law, fun hb => (h'.breaking (by rw [h.breaking hb]; exact hb)).trans (h.breaking hb)⟩

/-- A step that keeps the core, and what HALTED adds, keeps the law. -/
theorem KeepsQueue.of_parts {s t : State} (hm : t.mode = s.mode) (hc : s.QueueCore → t.QueueCore)
    (hh : s.mode = .halted → HaltQueue 5 s.nlc.queue → HaltQueue 5 t.nlc.queue)
    (hb : s.nlc.tx.breaking = true → t.nlc.tx = s.nlc.tx) : KeepsQueue s t :=
  ⟨hm, fun h => queueLaw_iff.mpr ⟨hc h.core, fun ht => hh (hm ▸ ht) ((queueLaw_iff.mp h).2 (hm ▸ ht))⟩, hb⟩

/-- A fold of operations that keep the law keeps it. -/
theorem KeepsQueue.foldl {α : Type} {s : State} {f : State → α → State} (hf : ∀ u a, KeepsQueue s u → KeepsQueue s (f u a))
    (l : List α) {t : State} (h : KeepsQueue s t) : KeepsQueue s (l.foldl f t) :=
  List.foldlRecOn l f h fun u hu a _ => hf u a hu

section
variable {s t : State}

namespace KeepsQueue

theorem ite {c : Prop} [Decidable c] {a b : State} (ha : KeepsQueue s a) (hb : KeepsQueue s b) :
    KeepsQueue s (if c then a else b) := by split <;> assumption

theorem iteTaken {c : Prop} [Decidable c] {a b : Taken} (ha : KeepsQueue s a.state) (hb : KeepsQueue s b.state) :
    KeepsQueue s (if c then a else b).state := by split <;> assumption

/-! ### What moves neither the mode nor the link -/

theorem off {u : State} (h : KeepsQueue s t) (hf : OnlyChanges offQueue t u) : KeepsQueue s u :=
  h.trans ⟨hf .mode (by decide), fun hl => hl.off hf, fun _ => congrArg _ (hf .nlc (by decide))⟩

theorem setProgress {x} (h : KeepsQueue s t) : KeepsQueue s (t.setProgress x) := h.off (by simp (disch := decide))
theorem setKeep {x} (h : KeepsQueue s t) : KeepsQueue s (t.setKeep x) := h.off (by simp (disch := decide))
theorem setParams {x} (h : KeepsQueue s t) : KeepsQueue s (t.setParams x) := h.off (by simp (disch := decide))
theorem setHli {x} (h : KeepsQueue s t) : KeepsQueue s (t.setHli x) := h.off (by simp (disch := decide))
theorem setDemand {x} (h : KeepsQueue s t) : KeepsQueue s (t.setDemand x) := h.off (by simp (disch := decide))
theorem setNodes {x} (h : KeepsQueue s t) : KeepsQueue s (t.setNodes x) := h.off (by simp (disch := decide))
theorem setNode {n r} (h : KeepsQueue s t) : KeepsQueue s (t.setNode n r) := h.off (by simp (disch := decide))
theorem setBbu {x} (h : KeepsQueue s t) : KeepsQueue s (t.setBbu x) := h.off (by simp (disch := decide))
theorem setPsu {x} (h : KeepsQueue s t) : KeepsQueue s (t.setPsu x) := h.off (by simp (disch := decide))
theorem setEsc {x} (h : KeepsQueue s t) : KeepsQueue s (t.setEsc x) := h.off (by simp (disch := decide))
theorem setFaults {x} (h : KeepsQueue s t) : KeepsQueue s (t.setFaults x) := h.off (by simp (disch := decide))
theorem notify {k d} (h : KeepsQueue s t) : KeepsQueue s (t.notify k d) := h.off (by simp (disch := decide))
theorem slowDown (h : KeepsQueue s t) : KeepsQueue s t.slowDown := h.off (by simp (disch := decide))
theorem levelAfter {d} (h : KeepsQueue s t) : KeepsQueue s (t.levelAfter d) := h.off (by simp (disch := decide))
theorem raiseCore {k d} (h : KeepsQueue s t) : KeepsQueue s (t.raiseCore k d) := h.off (by simp (disch := decide))
theorem endCause {k} (h : KeepsQueue s t) : KeepsQueue s (t.endCause k) := h.off (by simp (disch := decide))
theorem recheckWear (h : KeepsQueue s t) : KeepsQueue s t.recheckWear := h.off (by simp (disch := decide))
theorem padWear {f r} (h : KeepsQueue s t) : KeepsQueue s (t.padWear f r) := h.off (by simp (disch := decide))
theorem batteryWear {r n} (h : KeepsQueue s t) : KeepsQueue s (t.batteryWear r n) := h.off (by simp (disch := decide))
theorem startWear (h : KeepsQueue s t) : KeepsQueue s t.startWear := h.off (by simp (disch := decide))
theorem loadGood {b} (h : KeepsQueue s t) : KeepsQueue s (t.loadGood b) := h.off (by simp (disch := decide))
theorem loadBad (h : KeepsQueue s t) : KeepsQueue s t.loadBad := h.off (by simp (disch := decide))
theorem beginWaiting (h : KeepsQueue s t) : KeepsQueue s t.beginWaiting := h.off (by simp (disch := decide))
theorem endSave {j r} (h : KeepsQueue s t) : KeepsQueue s (t.endSave j r) := h.off (by simp (disch := decide))
theorem logBlend {b} (h : KeepsQueue s t) : KeepsQueue s (t.logBlend b) := h.off (by simp (disch := decide))
theorem closeEvent {r} (h : KeepsQueue s t) : KeepsQueue s (t.closeEvent r) := h.off (by simp (disch := decide))
theorem setEngine {m} (h : KeepsQueue s t) : KeepsQueue s (t.setEngine m) := h.off (by simp (disch := decide))
theorem returnToRun (h : KeepsQueue s t) : KeepsQueue s t.returnToRun := h.off (by simp (disch := decide))
theorem startSucceeds {c} (h : KeepsQueue s t) : KeepsQueue s (t.startSucceeds c) :=
  h.off (by unfold State.startSucceeds; simp (disch := decide))
theorem leaveBraking {r} (h : KeepsQueue s t) : KeepsQueue s (t.leaveBraking r) := h.off (by simp (disch := decide))
theorem retimeSlip (h : KeepsQueue s t) : KeepsQueue s t.retimeSlip := h.off (by simp (disch := decide))
theorem endReserve (h : KeepsQueue s t) : KeepsQueue s t.endReserve := h.off (by simp (disch := decide))
theorem setSplit {r} (h : KeepsQueue s t) : KeepsQueue s (t.setSplit r) := h.off (by simp (disch := decide))
theorem resetSplit (h : KeepsQueue s t) : KeepsQueue s t.resetSplit := h.off (by simp (disch := decide))
theorem becomePresent {n} (h : KeepsQueue s t) : KeepsQueue s (t.becomePresent n) := h.off (by simp (disch := decide))
theorem parkNodes (h : KeepsQueue s t) : KeepsQueue s t.parkNodes := h.off (by simp (disch := decide))
theorem countReject {n} (h : KeepsQueue s t) : KeepsQueue s (t.countReject n) := h.off (by simp (disch := decide))
theorem takeRecord {f} (h : KeepsQueue s t) : KeepsQueue s (t.takeRecord f) := h.off (by simp (disch := decide))
theorem refresh (h : KeepsQueue s t) : KeepsQueue s t.refresh := h.off (by simp (disch := decide))
theorem clearStale (h : KeepsQueue s t) : KeepsQueue s t.clearStale := h.off (by simp (disch := decide))
theorem beginEngineWait (h : KeepsQueue s t) : KeepsQueue s t.beginEngineWait := h.off (by simp (disch := decide))

/-! ### The link -/

/-- A change of the link that leaves the queue and the transmitter. -/
theorem setNlc {x : LinkController} (h : KeepsQueue s t) (hq : x.queue = t.nlc.queue := by rfl)
    (hx : x.tx = t.nlc.tx := by rfl) : KeepsQueue s (t.setNlc x) :=
  h.trans ⟨rfl, fun hl => hl.carry hq (congrArg _ hx) rfl, fun _ => hx⟩

theorem kick (h : KeepsQueue s t) : KeepsQueue s t.kick :=
  h.trans (.of_parts ((State.frame_kick (bs := [.nlc]) (by simp)).mpr (.refl _ t) .mode (by decide)) State.kick_core
    (fun _ => State.kick_halt) State.kick_tx)

/-- A proper offer outside HALTED, a tunnel entry for a free slot. -/
theorem offerAt {n k payload priority origin reply} (h : KeepsQueue s t) (hm : s.mode ≠ .halted)
    (ho : (origin == .tunnel) = k.isTunnel) (hc : k.isTunnel = true ∨ (n, k) ∈ controlPairs)
    (hs : k.isTunnel = true → ∀ e ∈ t.nlc.queue, e.kind ≠ k) :
    KeepsQueue s (t.offerAt n k payload priority origin reply) :=
  h.trans (.of_parts ((State.frame_offerAt (bs := [.nlc]) n k payload priority origin reply (by simp)).mpr (.refl _ t) .mode (by decide))
    (State.offerAt_core · ho hc hs) (fun hh => absurd (h.mode ▸ hh) hm) State.offerAt_tx)

/-- A control offer outside HALTED. -/
theorem offer {n k payload origin} (h : KeepsQueue s t) (hm : s.mode ≠ .halted) (hc : (n, k) ∈ controlPairs)
    (ho : (origin == .tunnel) = false) : KeepsQueue s (t.offer n k payload origin) :=
  have hk := controlPairs_isTunnel hc
  h.offerAt hm (ho.trans hk.symm) (.inr hc) (by simp [hk])

theorem dropWaiting {picks code} (h : KeepsQueue s t) : KeepsQueue s (t.dropWaiting picks code) := by
  refine h.trans (.of_parts ?_ State.dropWaiting_core (fun _ hq => ?_) fun _ => ?_)
  · exact (State.frame_dropWaiting (bs := [.hli, .nlc]) picks code (by simp)).mpr (.refl _ t) .mode (by decide)
  · rw [State.dropWaiting_nlc]
    exact hq.filter _
  · rw [State.dropWaiting_nlc]

theorem linkCheck (h : KeepsQueue s t) : KeepsQueue s t.linkCheck := by
  refine h.trans (.of_parts ?_ State.linkCheck_core (fun _ hq => t.linkCheck_queue.symm ▸ hq) fun hb => ?_)
  · exact (State.frame_linkCheck (bs := [.nlc]) (by simp)).mpr (.refl _ t) .mode (by decide)
  · rcases t.linkCheck_tx with ht | ⟨hq, -⟩
    · exact ht
    · rw [Tx.quiet_of_breaking hb] at hq
      cases hq

/-- A change of fields of the queued entries that neither part of the law looks at. -/
theorem mapQueue {f : Entry → Entry} (h : KeepsQueue s t)
    (hf : ∀ e, (f e).target = e.target ∧ (f e).kind = e.kind ∧ (f e).inFlight = e.inFlight ∧ (f e).origin = e.origin ∧
      (f e).priority = e.priority ∧ (e.fate ≠ .returns → (f e).fate ≠ .returns)) :
    KeepsQueue s (t.setNlc { t.nlc with queue := t.nlc.queue.map f }) := by
  refine h.trans (.of_parts rfl (fun hq => ?_) (fun _ hq => ?_) fun _ => rfl)
  · refine QueueCore.map hq (fun e => ?_) (fun e he => ?_) <;> obtain ⟨ht, hk, hi, ho, -, -⟩ := hf e
    · exact ⟨ht, hk, hi⟩
    · rw [ho]; exact (hq.proper e he).1
  · refine HaltQueue.map hq fun e => ?_
    obtain ⟨-, -, hi, ho, hp, hfate⟩ := hf e
    exact ⟨hi, by simp [Entry.isHalt, ho, hp], hfate⟩

theorem releaseHold {n} (h : KeepsQueue s t) : KeepsQueue s (t.releaseHold n) := by
  unfold State.releaseHold
  split
  · exact (h.setNode.mapQueue fun e => by split <;> exact ⟨rfl, rfl, rfl, rfl, rfl, id⟩).kick
  · exact h

theorem nodeLostQueue {n} (h : KeepsQueue s t) : KeepsQueue s (t.nodeLostQueue n) := by
  unfold State.nodeLostQueue
  refine (h.dropWaiting.setNode.mapQueue fun e => ?_).linkCheck
  split
  · exact ⟨rfl, rfl, rfl, rfl, rfl, fun _ => by simp⟩
  · exact ⟨rfl, rfl, rfl, rfl, rfl, id⟩

/-! ### The engine -/

theorem offerNoForce (h : KeepsQueue s t) (hm : s.mode ≠ .halted) : KeepsQueue s t.offerNoForce := h.offer hm (by decide) rfl

theorem offerStop (h : KeepsQueue s t) (hm : s.mode ≠ .halted) : KeepsQueue s t.offerStop := h.offer hm (by decide) rfl

theorem offerStart (h : KeepsQueue s t) (hm : s.mode ≠ .halted) : KeepsQueue s t.offerStart :=
  have ho := h.offer (payload := startPayload) (origin := .engine) hm (by decide) rfl
  ite (c := t.takes .eng) ho.startWear ho

theorem enterStopping (h : KeepsQueue s t) (hm : s.mode ≠ .halted) : KeepsQueue s t.enterStopping :=
  (((ite (h.offerNoForce hm) h).setEsc.offerStop hm).setEsc).setEngine

theorem enterCooldown {c} (h : KeepsQueue s t) (hm : s.mode ≠ .halted) : KeepsQueue s (t.enterCooldown c) :=
  have hc := (h.offerNoForce hm).setEsc.setEngine
  ite (hc.enterStopping hm) hc

theorem abandonCrank {c} (h : KeepsQueue s t) (hm : s.mode ≠ .halted) : KeepsQueue s (t.abandonCrank c) :=
  h.setEsc.enterStopping hm

theorem enterCranking {c} (h : KeepsQueue s t) (hm : s.mode ≠ .halted) : KeepsQueue s (t.enterCranking c) :=
  (h.offerStart hm).setEsc.setEngine

theorem stopRunning {c i} (h : KeepsQueue s t) (hm : s.mode ≠ .halted) : KeepsQueue s (t.stopRunning c i) :=
  ite (h.setEsc.enterStopping hm) (h.enterCooldown hm)

theorem stopCranking {c} (h : KeepsQueue s t) (hm : s.mode ≠ .halted) : KeepsQueue s (t.stopCranking c) := by
  cases c with
  | auto => exact h
  | zone => exact ite h (h.abandonCrank hm)
  | _ => exact h.abandonCrank hm

theorem stopCooling {c i} (h : KeepsQueue s t) (hm : s.mode ≠ .halted) : KeepsQueue s (t.stopCooling c i) := by
  cases c with
  | auto => exact h
  | host => exact ite (h.setEsc.enterStopping hm) h
  | _ => exact h.setEsc

theorem stopCause {c i} (h : KeepsQueue s t) (hm : s.mode ≠ .halted) : KeepsQueue s (t.stopCause c i) := by
  unfold State.stopCause
  split
  · exact h.stopRunning hm
  · exact h.stopRunning hm
  · exact h.stopCranking hm
  · exact h.stopCranking hm
  · exact h.stopCooling hm
  · exact h.setEsc
  · exact h
  · exact h

theorem safeCause (h : KeepsQueue s t) (hm : s.mode ≠ .halted) : KeepsQueue s t.safeCause := ite (h.stopCause hm) h

theorem evaluateStart (h : KeepsQueue s t) (hm : s.mode ≠ .halted) : KeepsQueue s t.evaluateStart := by
  unfold State.evaluateStart
  split
  · split
    · exact ite (h.enterCranking hm) h
    · exact h
  · exact ite h.returnToRun h
  all_goals exact h

theorem elapsedHandOn (h : KeepsQueue s t) (hm : s.mode ≠ .halted) : KeepsQueue s t.elapsedHandOn :=
  ite ((h.evaluateStart hm).stopCause hm) (h.evaluateStart hm)

theorem scheduleDue (h : KeepsQueue s t) (hm : s.mode ≠ .halted) : KeepsQueue s t.scheduleDue :=
  (ite h h.setEsc).evaluateStart hm

theorem putSchedule {sch} (h : KeepsQueue s t) (hm : s.mode ≠ .halted) : KeepsQueue s (t.putSchedule sch) :=
  ite (h.setEsc.scheduleDue hm) h.setEsc

theorem scheduleStop (h : KeepsQueue s t) (hm : s.mode ≠ .halted) : KeepsQueue s t.scheduleStop := by
  unfold State.scheduleStop
  split
  · exact h
  · exact ite (h.putSchedule hm) h

theorem scheduleMetres {n} (h : KeepsQueue s t) (hm : s.mode ≠ .halted) : KeepsQueue s (t.scheduleMetres n) := by
  unfold State.scheduleMetres
  split
  · exact h
  · exact ite (h.putSchedule hm) h

/-! ### Braking, and raises -/

theorem offerBlend {r} (h : KeepsQueue s t) (hm : s.mode ≠ .halted) : KeepsQueue s (t.offerBlend r) :=
  ((h.offer hm (by decide) rfl).offer hm (by decide) rfl).offer hm (by decide) rfl

/-- HALTED discards a raise (R200), so stop cause SAFE offers nothing there. -/
theorem raiseWith {cut : State → State} {k d} (hcut : ∀ u, KeepsQueue s u → KeepsQueue s (cut u)) (h : KeepsQueue s t) :
    KeepsQueue s (t.raiseWith cut k d) := by
  unfold State.raiseWith
  dsimp only
  split
  · next hsafe =>
    refine (hcut _ h.raiseCore).safeCause fun hm => ?_
    have hsame : t.raiseCore k d = t := if_pos (h.mode.trans hm)
    simp [hsame, becameSafeStop] at hsafe
  · exact h.raiseCore

theorem saturation {cut : State → State} {r} (hcut : ∀ u, KeepsQueue s u → KeepsQueue s (cut u)) (h : KeepsQueue s t) :
    KeepsQueue s (t.saturation cut r) :=
  ite (raiseWith hcut h.setBbu) (ite h.setBbu.endCause h)

theorem applyBlend {cut : State → State} {slipCut dt r} (hcut : ∀ u, KeepsQueue s u → KeepsQueue s (cut u)) (h : KeepsQueue s t)
    (hm : s.mode ≠ .halted) : KeepsQueue s (t.applyBlend cut slipCut dt r) :=
  have hw := (h.setBbu.offerBlend hm).padWear
  saturation hcut (ite hw hw.logBlend)

theorem cutReblend {slipCut} (h : KeepsQueue s t) : KeepsQueue s (t.cutReblend slipCut) := by
  unfold State.cutReblend
  split
  · next hr => exact applyBlend (fun _ => id) h (by rw [← h.mode, hr.1]; decide)
  · exact h

theorem heldBlend (h : KeepsQueue s t) (hm : s.mode ≠ .halted) : KeepsQueue s t.heldBlend :=
  ite (applyBlend (fun _ => cutReblend) h hm) h

theorem demandBlend {dt} (h : KeepsQueue s t) (hm : s.mode ≠ .halted) : KeepsQueue s (t.demandBlend dt) :=
  applyBlend (fun _ => cutReblend) h hm

theorem raise {k d} (h : KeepsQueue s t) : KeepsQueue s (t.raise k d) := raiseWith (fun _ => cutReblend) h

theorem slipReport (h : KeepsQueue s t) : KeepsQueue s t.slipReport := ite h h.setBbu.cutReblend

theorem reserveWatch (h : KeepsQueue s t) : KeepsQueue s t.reserveWatch := by
  unfold State.reserveWatch
  split
  · exact h
  · exact ite h (ite (ite h.setFaults.endCause h) (ite h.setFaults.raise h))

/-! ### Propulsion -/

theorem updateElapsed {dt} (h : KeepsQueue s t) (hm : s.mode ≠ .halted) : KeepsQueue s (t.updateElapsed dt) :=
  h.setPsu.elapsedHandOn hm

theorem offerTorque {n} (h : KeepsQueue s t) (hm : s.mode ≠ .halted) : KeepsQueue s (t.offerTorque n) := h.offer hm (by decide) rfl

theorem offerForce {n} (h : KeepsQueue s t) (hm : s.mode ≠ .halted) : KeepsQueue s (t.offerForce n) := h.offer hm (by decide) rfl

theorem demandSplit {dt} (h : KeepsQueue s t) (hm : s.mode ≠ .halted) : KeepsQueue s (t.demandSplit dt) :=
  ((h.setSplit.offerTorque hm).offerForce hm).updateElapsed hm

theorem brakingHandOn {dt} (h : KeepsQueue s t) (hm : s.mode ≠ .halted) : KeepsQueue s (t.brakingHandOn dt) :=
  (h.setSplit.offerForce hm).updateElapsed hm

theorem heldSplit (h : KeepsQueue s t) (hm : s.mode ≠ .halted) : KeepsQueue s t.heldSplit :=
  ((ite (h.setSplit.offerTorque hm) h.setSplit).offerForce hm).updateElapsed hm

/-! ### What reaches the engine -/

theorem attemptFails (h : KeepsQueue s t) : KeepsQueue s t.attemptFails :=
  ite h.setEsc.setEngine h.setEsc.setEngine.raise

theorem stall (h : KeepsQueue s t) (hm : s.mode ≠ .halted) : KeepsQueue s t.stall :=
  (ite (h.offerNoForce hm) h).setEsc.setEngine

theorem reportedEngineFault (h : KeepsQueue s t) (hm : s.mode ≠ .halted) : KeepsQueue s t.reportedEngineFault :=
  (ite (h.offerNoForce hm) h).setEsc.setEngine

theorem stopEnds (h : KeepsQueue s t) (hm : s.mode ≠ .halted) : KeepsQueue s t.stopEnds := by
  unfold State.stopEnds
  dsimp only
  split
  · exact ite (h.setEsc.setEngine.enterCranking hm) h.setEsc.setEngine
  · exact h.setEsc.setEngine.evaluateStart hm

theorem reportInWarmup {r} (h : KeepsQueue s t) (hm : s.mode ≠ .halted) : KeepsQueue s (t.reportInWarmup r) := by
  unfold State.reportInWarmup
  split
  · exact h.stall hm
  · exact h.reportedEngineFault hm
  · exact ite h.setEngine h
  · exact h
  · exact h

theorem reportInRun {r} (h : KeepsQueue s t) (hm : s.mode ≠ .halted) : KeepsQueue s (t.reportInRun r) := by
  unfold State.reportInRun
  split
  · exact h.stall hm
  · exact h.reportedEngineFault hm
  all_goals exact h

theorem reportInStopping {r} (h : KeepsQueue s t) (hm : s.mode ≠ .halted) : KeepsQueue s (t.reportInStopping r) := by
  unfold State.reportInStopping
  split
  · exact h.stopEnds hm
  · exact h.reportedEngineFault hm
  all_goals exact h

theorem reportInCranking {r} (h : KeepsQueue s t) : KeepsQueue s (t.reportInCranking r) := by
  unfold State.reportInCranking
  split
  · exact h.startSucceeds
  · exact h.attemptFails
  all_goals exact h

theorem engineReport {r} (h : KeepsQueue s t) : KeepsQueue s (t.engineReport r) := by
  unfold State.engineReport
  split
  · exact h
  · next hh =>
    have hm : s.mode ≠ .halted := h.mode ▸ hh
    dsimp only
    split
    · exact ite h.setEsc.setEngine h.setEsc
    · exact h.setEsc.reportInCranking
    · exact ite h.setEsc.startSucceeds h.setEsc
    · exact h.setEsc.reportInWarmup hm
    · exact h.setEsc.reportInRun hm
    · exact h.setEsc.reportInRun hm
    · exact h.setEsc.reportInStopping hm
    · exact h.setEsc

theorem engineLost (h : KeepsQueue s t) : KeepsQueue s t.engineLost := by
  unfold State.engineLost
  split
  · exact h
  · next hh =>
    have hm : s.mode ≠ .halted := h.mode ▸ fun hc => hh (.inl hc)
    exact (ite (h.offerNoForce hm) h).setEsc.setEngine

theorem restExpires (h : KeepsQueue s t) (hm : s.mode ≠ .halted) : KeepsQueue s t.restExpires :=
  (h.setEsc.offerStart hm).setEsc.setEngine

theorem cooldownExpires (h : KeepsQueue s t) (hm : s.mode ≠ .halted) : KeepsQueue s t.cooldownExpires :=
  h.setEsc.enterStopping hm

theorem stopExpires (h : KeepsQueue s t) (hm : s.mode ≠ .halted) : KeepsQueue s t.stopExpires :=
  ite (h.offerStop hm).setEsc h.setEsc.setEngine.raise

theorem hostStart {o} (h : KeepsQueue s t) (hm : s.mode ≠ .halted) : KeepsQueue s (t.hostStart o).state := by
  unfold State.hostStart
  split
  · exact iteTaken (h.enterCranking hm) h
  · exact h
  · exact h
  · exact h
  · exact h
  · exact iteTaken h.returnToRun h
  · exact h.setEsc
  · exact h

theorem takeEngineStart {d} (h : KeepsQueue s t) (hm : s.mode ≠ .halted) : KeepsQueue s (t.takeEngineStart d).state :=
  iteTaken h (iteTaken h (iteTaken h (h.hostStart hm)))

theorem takeZoneEnter (h : KeepsQueue s t) (hm : s.mode ≠ .halted) : KeepsQueue s t.takeZoneEnter.state :=
  iteTaken h (h.setDemand.stopCause hm).reserveWatch

theorem takeZoneExit (h : KeepsQueue s t) (hm : s.mode ≠ .halted) : KeepsQueue s t.takeZoneExit.state :=
  iteTaken (h.setDemand.endReserve.evaluateStart hm) h

theorem takeSchedule {d} (h : KeepsQueue s t) (hm : s.mode ≠ .halted) : KeepsQueue s (t.takeSchedule d).state :=
  iteTaken h (h.putSchedule hm)

/-! ### Reports and presence -/

theorem actReported {n b} (h : KeepsQueue s t) : KeepsQueue s (t.actReported n b) := by
  unfold State.actReported
  split
  · exact h
  · exact ite (ite h h.raise) (ite h.endCause h)

theorem becomeStale {n} (h : KeepsQueue s t) : KeepsQueue s (t.becomeStale n) := ite h.setNode.raise h.setNode

theorem handLoss {n} (h : KeepsQueue s t) : KeepsQueue s (t.handLoss n) :=
  have hcut := ite (c := n = .bat ∨ n = .inv) (h.cutReblend (slipCut := false)) h
  (ite (c := n = .eng) hcut.engineLost hcut).nodeLostQueue

theorem becomeLost {n} (h : KeepsQueue s t) : KeepsQueue s (t.becomeLost n) := by
  unfold State.becomeLost
  dsimp only
  split
  · exact h.setNode.raise.handLoss
  · exact h.setNode.handLoss

theorem retimeStale {n} (h : KeepsQueue s t) : KeepsQueue s (t.retimeStale n) := by
  unfold State.retimeStale
  split
  · exact ite h.becomeStale h.setNode
  · exact h

theorem retimeLost {n} (h : KeepsQueue s t) : KeepsQueue s (t.retimeLost n) := by
  unfold State.retimeLost
  split
  · exact ite h.becomeLost h.setNode
  · exact h

theorem handOn {n e} (h : KeepsQueue s t) : KeepsQueue s (t.handOn n e) := by
  have hr := ite (c := ((t.nodes.flagsOf n).map ReportFlags.ready).getD false = true) (h.releaseHold (n := n)) h
  unfold State.handOn
  dsimp only
  cases n with
  | eng =>
    dsimp only
    split
    · exact hr.engineReport
    · exact hr
  | bat =>
    dsimp only
    split
    · split
      · exact hr.batteryWear.reserveWatch
      · exact hr.reserveWatch
    · exact hr
  | bkf => exact ite hr.slipReport hr
  | bkr => exact ite hr.slipReport hr
  | _ => exact hr

theorem takeFresh {n p} (h : KeepsQueue s t) : KeepsQueue s (t.takeFresh n p) := by
  unfold State.takeFresh
  exact h.setNodes.setNode.becomePresent.actReported.handOn

theorem takeRepeat {n p} (h : KeepsQueue s t) : KeepsQueue s (t.takeRepeat n p) :=
  have hs := h.setNodes.setNode
  ite (ite hs.becomeStale hs).actReported.handOn h.setNode

theorem takeReport {n p r} (h : KeepsQueue s t) : KeepsQueue s (t.takeReport n p r) := by
  unfold State.takeReport
  split
  · exact h.takeFresh
  · exact h.takeRepeat
  · exact h

theorem auxPresence {n} (h : KeepsQueue s t) : KeepsQueue s (t.auxPresence n) := ite h.becomePresent.releaseHold h

/-! ### The demand stream -/

theorem addDistance {dt} (h : KeepsQueue s t) (hm : s.mode ≠ .halted) : KeepsQueue s (t.addDistance dt) :=
  h.setDemand.scheduleMetres hm

theorem passengerStop (h : KeepsQueue s t) (hm : s.mode ≠ .halted) : KeepsQueue s t.passengerStop :=
  ite (h.setDemand.scheduleStop hm) h

theorem demandStages {f} (h : KeepsQueue s t) (hm : s.mode ≠ .halted) : KeepsQueue s (t.demandStages f) :=
  ((h.takeRecord.refresh.addDistance hm).setDemand).passengerStop hm

theorem brakeDemand {st o dt} (h : KeepsQueue s t) (hm : s.mode ≠ .halted) : KeepsQueue s (t.brakeDemand st o dt).state :=
  (h.demandBlend hm).brakingHandOn hm

theorem tractionDemand {st o dt} (h : KeepsQueue s t) (hm : s.mode ≠ .halted) : KeepsQueue s (t.tractionDemand st o dt).state :=
  (ite h.leaveBraking h).demandSplit hm

theorem takeDemand {d} (h : KeepsQueue s t) (hm : s.mode ≠ .halted) : KeepsQueue s (t.takeDemand d).state :=
  have hd := h.demandStages hm
  iteTaken (iteTaken (hd.brakeDemand hm) (hd.tractionDemand hm)) hd

theorem goStale (h : KeepsQueue s t) (hm : s.mode ≠ .halted) : KeepsQueue s t.goStale :=
  ((h.setDemand.raise.closeEvent.heldSplit hm).heldBlend hm).setDemand

theorem freshnessExpires (h : KeepsQueue s t) (hm : s.mode ≠ .halted) : KeepsQueue s t.freshnessExpires :=
  ite (h.goStale hm) h.setDemand

theorem lowSpeedExpires (h : KeepsQueue s t) (hm : s.mode ≠ .halted) : KeepsQueue s t.lowSpeedExpires :=
  ite (h.setDemand.closeEvent.stopCause hm) h.setDemand.closeEvent

/-! ### Leaving READY, CONFIG_SET, the load -/

theorem offerRelease (h : KeepsQueue s t) (hm : s.mode ≠ .halted) : KeepsQueue s t.offerRelease :=
  ((h.offer hm (by decide) rfl).offer hm (by decide) rfl).offer hm (by decide) rfl

theorem leaveReady {c} (h : KeepsQueue s t) (hm : s.mode ≠ .halted) : KeepsQueue s (t.leaveReady c) :=
  ((h.leaveBraking.resetSplit.offerRelease hm).stopCause hm).setEsc.clearStale

theorem configActs {p} (h : KeepsQueue s t) : KeepsQueue s (t.configActs p) := by
  unfold State.configActs
  split
  · exact h.recheckWear
  · split
    · exact foldl (fun _ _ hu => hu.retimeStale) _ h
    · exact foldl (fun _ _ hu => hu.retimeLost) _ h
    · exact h.retimeSlip
    · exact h.reserveWatch
    · exact h

theorem takeConfigSet {d} (h : KeepsQueue s t) : KeepsQueue s (t.takeConfigSet d).state := by
  unfold State.takeConfigSet
  dsimp only
  split
  · exact h
  · exact iteTaken h (iteTaken h h.setParams.configActs)

theorem loadCompletes (h : KeepsQueue s t) : KeepsQueue s t.loadCompletes := by
  unfold State.loadCompletes
  split
  · exact h.loadGood.beginWaiting
  · exact h.loadBad.raise.beginWaiting

end KeepsQueue

end

/-! ## 4. What the node link hears -/

section
variable {s t : State}

namespace KeepsQueue

theorem appendInbox {n p} (h : KeepsQueue s t) : KeepsQueue s (t.appendInbox n p) :=
  ite h.setNlc.notify h.setNlc

theorem driveAck {c e w r} (h : KeepsQueue s t) : KeepsQueue s (t.driveAck c e w r) := by
  unfold State.driveAck
  split <;> exact h.setNlc

theorem handTunnel {n p} (h : KeepsQueue s t) : KeepsQueue s (t.handTunnel n p) := ite h.appendInbox.auxPresence h.auxPresence

theorem handReport {n r p} (h : KeepsQueue s t) : KeepsQueue s (t.handReport n r p) := ite h h.takeReport

theorem handFrame {n c r p} (h : KeepsQueue s t) : KeepsQueue s (t.handFrame n c r p) := by
  unfold State.handFrame
  split
  · exact h.handReport
  · exact h.handTunnel
  · exact h.countReject
  · exact h.countReject

theorem countCrcError {b} (h : KeepsQueue s t) : KeepsQueue s (t.countCrcError b) := h.setNlc

theorem goodFrame {h1 h2 p e w r} (h : KeepsQueue s t) : KeepsQueue s (t.goodFrame h1 h2 p e w r) :=
  ite h.driveAck.handFrame h.setNlc

theorem followFrame {w} (h : KeepsQueue s t) : KeepsQueue s (t.followFrame w) := by
  unfold State.followFrame
  split
  · exact h
  · exact h.setNlc
  · exact h.goodFrame
  · exact h.countCrcError
  · exact h.countCrcError
  · exact h

theorem countNoise {n} (h : KeepsQueue s t) : KeepsQueue s (t.countNoise n) := h.setNlc

theorem strayPulse (h : KeepsQueue s t) : KeepsQueue s t.strayPulse := by
  unfold State.strayPulse
  split
  · exact h.countCrcError
  · exact h.setNlc
  · exact h.setNlc
  · exact h
  · exact h

/-! ### Bus resets -/

theorem abortFrame (h : KeepsQueue s t) : KeepsQueue s t.abortFrame := by
  refine h.trans ⟨?_, fun hl => ?_, fun hb => ?_⟩
  · exact (State.frame_abortFrame (bs := [.hli, .nlc, .nodes, .notices]) (by simp)).mpr (.refl _ t) .mode (by decide)
  · unfold State.abortFrame
    split
    · next hx => exact (hl.settle (by rw [hx]; rfl) _ _).1
    · next hx => exact (hl.settle (by rw [hx]; rfl) _ _).1
    · exact hl
    · exact hl
  · unfold State.abortFrame
    split
    · next hx => rw [hx] at hb; cases hb
    · next hx => rw [hx] at hb; cases hb
    · rfl
    · rfl

theorem abortBus (h : KeepsQueue s t) : KeepsQueue s t.abortBus := h.abortFrame.setNlc

theorem busResets (h : KeepsQueue s t) : KeepsQueue s t.busResets :=
  have hn := h.abortBus.setNlc (x := t.abortBus.nlc.noteReset t.abortBus.runTime)
  (ite (c := t.abortBus.thirdReset) hn.raise hn).linkCheck

end KeepsQueue

namespace QueueLaw

theorem releaseBreak (h : QueueLaw s) (hf : s.nlc.tx.flying = 0) : QueueLaw s.releaseBreak :=
  (KeepsQueue.refl _).linkCheck.law (h.carry (t := s.setNlc { s.nlc with tx := .brk .released, bus := .waiting }) rfl hf.symm rfl)

theorem finishBreak (h : QueueLaw s) : QueueLaw s.finishBreak := by
  unfold State.finishBreak
  split
  · next hx =>
    have hr := (KeepsQueue.refl s).busResets
    exact (hr.law h).releaseBreak (by rw [hr.breaking (by rw [hx]; rfl), hx]; rfl)
  · next hx => exact h.releaseBreak (by rw [hx]; rfl)
  all_goals exact h

theorem breakRuns (h : QueueLaw s) (ns : Nat) : QueueLaw (s.breakRuns ns) := by
  unfold State.breakRuns
  split
  · exact h.finishBreak
  · split
    · next hx =>
      have hr := (KeepsQueue.refl s).busResets
      exact (hr.law h).carry rfl (by rw [hr.breaking (by rw [hx]; rfl), hx]; rfl) rfl
    all_goals exact h

theorem resetRun (h : QueueLaw s) (ns : Nat) : QueueLaw (s.resetRun ns) := by
  unfold State.resetRun
  split
  · exact h.breakRuns ns
  · exact (KeepsQueue.refl s).busResets.law h

theorem levelAfter (h : QueueLaw s) (dominant : Bool) : QueueLaw (s.levelAfter dominant) :=
  (KeepsQueue.refl s).levelAfter.law h

theorem dominantPulse (h : QueueLaw s) (ns : Nat) : QueueLaw (s.dominantPulse ns) := by
  have hstray := (KeepsQueue.refl s).strayPulse.law h
  unfold State.dominantPulse
  split
  · exact (KeepsQueue.refl s).countNoise.law h
  · exact (h.resetRun ns).levelAfter _
  · split
    · exact h.carry rfl rfl rfl
    · exact hstray
  all_goals exact hstray

/-! ### Frames of the 620 -/

theorem settleNow (h : QueueLaw s) (ht : s.nlc.tx.flying = 1) (c : Completion) (bus : Bus) : QueueLaw (s.settleNow c bus) :=
  (KeepsQueue.refl _).linkCheck.law (h.settle ht c bus).1

theorem endFrame (h : QueueLaw s) (ht : s.nlc.tx.flying = 1) (c : Completion) (bytes : List Byte) (ns : Nat) (bus : Bus) :
    QueueLaw (s.endFrame c bytes ns bus) := h.carry rfl ht.symm rfl

theorem ownFrame (h : QueueLaw s) (ht : s.nlc.tx.flying = 1) (bytes : List Byte) (w : Wave) : QueueLaw (s.ownFrame bytes w) := by
  unfold State.ownFrame
  split
  · exact h.settleNow ht _ _
  · exact h.settleNow ht _ _
  · exact h.endFrame ht _ _ _ _
  · exact (KeepsQueue.refl _).followFrame.law (h.endFrame ht _ _ _ _)
  · exact h.endFrame ht _ _ _ _
  · exact h

theorem frameOnBus (h : QueueLaw s) (w : Wave) : QueueLaw (s.frameOnBus w) := by
  have hfollow := (KeepsQueue.refl s).followFrame.law (t := s.followFrame w) h
  unfold State.frameOnBus
  split
  · next hx => exact h.ownFrame (by rw [hx]; rfl) _ _
  · exact h
  · exact h
  · split
    · exact hfollow
    · exact hfollow
    · split
      · exact h
      · exact (KeepsQueue.refl s).strayPulse.law h
    · exact h
    · exact h

theorem laterPulse (h : QueueLaw s) (p : Pulse) : QueueLaw (s.laterPulse p) := by
  unfold State.laterPulse
  split
  · split
    · exact (KeepsQueue.refl s).countNoise.law h
    · exact h.resetRun _
    all_goals exact h
  · exact h

theorem wave (h : QueueLaw s) (w : Wave) : QueueLaw (s.wave w) := by
  have hframe := QueueLaw.frameOnBus ((KeepsQueue.refl s).countNoise.law h)
    (s := s.countNoise (noiseCount (w.takeWhile (heardFirst (s.settledBy w))))) w
  exact (List.foldlRecOn _ State.laterPulse hframe fun _ hu p _ => hu.laterPulse p).levelAfter _

theorem ownWave (h : QueueLaw s) (w : Wave) : QueueLaw (s.ownWave w) := by
  unfold State.ownWave
  split
  · exact h.wave w
  all_goals exact h

end QueueLaw

/-! ### The idle bus -/

/-- The completion that was to be settled at the idle bus (R29). -/
def State.settleEnded (s : State) : State :=
  match s.nlc.tx with
  | .ended c _ _ => s.settle c .waiting
  | .frame _ => s
  | .idle => s
  | .brk _ => s

theorem State.atIdle_eq (s : State) :
    s.atIdle = if s.finishBreak.settleEnded.nlc.bus = .following then s.finishBreak.settleEnded.countCrcError .waiting
      else s.finishBreak.settleEnded := rfl

theorem State.finishBreak_notFrame (h : ∀ bytes, s.nlc.tx ≠ .frame bytes) (bytes : List Byte) :
    s.finishBreak.nlc.tx ≠ .frame bytes := by
  have hreleased : ∀ u : State, u.releaseBreak.nlc.tx ≠ .frame bytes := fun u hf => by
    have hflying := State.linkCheck_flying (u.setNlc { u.nlc with tx := .brk .released, bus := .waiting })
    rw [State.releaseBreak] at hf
    rw [hf] at hflying
    cases hflying
  unfold State.finishBreak
  split
  · exact hreleased _
  · exact hreleased _
  all_goals exact h bytes

theorem QueueLaw.settleEnded (h : QueueLaw s) (hf : ∀ bytes, s.nlc.tx ≠ .frame bytes) :
    QueueLaw s.settleEnded ∧ s.settleEnded.nlc.tx.flying = 0 := by
  unfold State.settleEnded
  split
  · next hx =>
    obtain ⟨hlaw, hidle⟩ := h.settle (by rw [hx]; rfl) _ .waiting
    exact ⟨hlaw, by rw [hidle]; rfl⟩
  · next hx => exact absurd hx (hf _)
  · next hx => exact ⟨h, by rw [hx]; rfl⟩
  · next hx => exact ⟨h, by rw [hx]; rfl⟩

/-- At the idle bus the transmitter comes to carry nothing. -/
theorem QueueLaw.atIdle (h : QueueLaw s) (hf : ∀ bytes, s.nlc.tx ≠ .frame bytes) :
    QueueLaw s.atIdle ∧ s.atIdle.nlc.tx.flying = 0 := by
  obtain ⟨hlaw, hflying⟩ := h.finishBreak.settleEnded (State.finishBreak_notFrame hf)
  rw [State.atIdle_eq]
  split
  · exact ⟨(KeepsQueue.refl _).countCrcError.law hlaw, hflying⟩
  · exact ⟨hlaw, hflying⟩

theorem QueueLaw.startFrame (h : QueueLaw s) (hf : s.nlc.tx.flying = 0) : QueueLaw s.startFrame := by
  obtain ⟨hcore, hhalt⟩ := queueLaw_iff.mp h
  have hmode : s.startFrame.mode = s.mode := (State.frame_startFrame (bs := [.nlc]) (by simp)).mpr (.refl _ s) .mode (by decide)
  exact queueLaw_iff.mpr ⟨State.startFrame_core (hf ▸ hcore), fun hm => State.startFrame_halt (hhalt (hmode ▸ hm))⟩

theorem QueueLaw.actAtIdle (h : QueueLaw s) (hf : s.nlc.tx.flying = 0) (taken : Bool) : QueueLaw (s.actAtIdle taken) := by
  have hidle : QueueLaw (s.setNlc { s.nlc with tx := .idle, ack := none }).linkCheck :=
    (KeepsQueue.refl _).linkCheck.law (h.carry rfl hf.symm rfl)
  unfold State.actAtIdle
  split
  · exact h.carry rfl hf.symm rfl
  · dsimp only
    split
    · split
      · exact hidle.carry rfl rfl rfl
      · exact hidle.startFrame (State.linkCheck_flying _)
    · exact hidle.levelAfter taken

theorem QueueLaw.busFellIdle (h : QueueLaw s) (taken : Bool) : QueueLaw (s.busFellIdle taken) := by
  have hact (hf : ∀ bytes, s.nlc.tx ≠ .frame bytes) : QueueLaw (s.atIdle.actAtIdle taken) :=
    (h.atIdle hf).1.actAtIdle (h.atIdle hf).2 taken
  unfold State.busFellIdle
  split
  · exact h
  all_goals next hx => exact hact (by simp [hx])

/-! ### Events on the link, and the time base -/

theorem QueueLaw.onLink {act : State → State} (h : QueueLaw s) (ha : QueueLaw (act s)) : QueueLaw (s.onLink act) := by
  unfold State.onLink
  split
  · exact ha
  · exact h.off (by simp (disch := decide))

theorem QueueLaw.idleOnLink (h : QueueLaw s) (taken : Bool) : QueueLaw (s.idleOnLink taken) := by
  unfold State.idleOnLink
  split
  · exact h.busFellIdle taken
  · exact h.levelAfter taken

theorem QueueLaw.whileLinked {act : State → State} (h : QueueLaw s) (ha : QueueLaw (act s)) : QueueLaw (s.whileLinked act) := by
  unfold State.whileLinked
  split
  · exact ha
  · exact h

/-- Time moves no entry. -/
theorem QueueLaw.advance (h : QueueLaw s) (n : Nat) : QueueLaw (s.advance n) := by
  refine h.carry ?_ ?_ rfl <;> (unfold State.advance; dsimp only; split <;> rfl)

theorem QueueLaw.tick (h : QueueLaw s) : QueueLaw s.tick := by
  unfold State.tick
  split
  · exact (h.finishBreak.advance 1).off (by simp (disch := decide))
  · exact h

/-! ### Timers, the supply -/

theorem QueueLaw.expire {timer : Timer} {act : State → State} (h : QueueLaw s) (ha : QueueLaw (act s)) :
    QueueLaw (s.expire timer act) := by
  unfold State.expire
  split
  · exact ha
  · exact h

theorem QueueLaw.expireLive {timer : State → Timer} {act : State → State} (h : QueueLaw s)
    (ha : s.mode ≠ .halted → KeepsQueue s (act s)) : QueueLaw (s.expireLive timer act) := by
  unfold State.expireLive
  split
  · next hl => exact h.expire ((ha fun hm => by rw [hm] at hl; cases hl).law h)
  · exact h

theorem QueueLaw.expireEngine {m : EngineState} {timer : State → Timer} {act : State → State} (h : QueueLaw s)
    (ha : s.mode ≠ .halted → KeepsQueue s (act s)) : QueueLaw (s.expireEngine m timer act) := by
  unfold State.expireEngine
  split
  · exact h.expireLive ha
  · exact h

theorem QueueLaw.expirePresence {timer : Timer} {act : State → State} (h : QueueLaw s) (ha : KeepsQueue s (act s)) :
    QueueLaw (s.expirePresence timer act) := by
  unfold State.expirePresence
  split
  · exact h
  · exact h.expire (ha.law h)

theorem QueueLaw.expireQuiet (h : QueueLaw s) : QueueLaw s.expireQuiet := by
  unfold State.expireQuiet
  split
  · exact h
  · exact h.expire ((KeepsQueue.refl s).setNlc.endCause.law h)

theorem QueueLaw.endLoad (h : QueueLaw s) : QueueLaw s.endLoad := by
  unfold State.endLoad
  split
  · exact (KeepsQueue.refl s).loadCompletes.law h
  · exact h

theorem QueueLaw.periodicTrigger (h : QueueLaw s) : QueueLaw s.periodicTrigger := by
  unfold State.periodicTrigger
  split
  · exact h.off (by simp (disch := decide))
  · exact h

/-- A reset empties the queue (R1). -/
theorem QueueLaw.restart (cut : WriteCut) (s : State) : QueueLaw (s.restart cut) :=
  .of_core queueCore_nil (by simp [State.restart, State.afterReset])

theorem QueueLaw.powered {act : State → State} (h : QueueLaw s) (ha : QueueLaw (act s)) (t : State)
    (ht : s.powered act = .next t) : QueueLaw t := by
  unfold State.powered at ht
  split at ht
  · exact Host.Outcome.next.inj ht ▸ ha
  · exact Host.Outcome.next.inj ht ▸ h

/-! ## 5. Modes -/

theorem State.enterMode_mode (m : Mode) (s : State) : (s.enterMode m).mode = m := (State.enterMode_spec m s).1

theorem State.enterMode_nlc (m : Mode) (s : State) : (s.enterMode m).nlc = s.nlc :=
  (State.frame_enterMode (bs := [.mode, .hli, .notices]) m (by simp)).mpr (.refl _ s) .nlc (by decide)

theorem QueueLaw.enterMode (h : QueueLaw s) {m : Mode} (hm : m ≠ .halted) : QueueLaw (s.enterMode m) :=
  .of_core (by rw [State.QueueCore, State.enterMode_nlc]; exact h.core) (by rwa [State.enterMode_mode])

/-- What keeps the law after a change to a mode other than HALTED keeps it. -/
theorem QueueLaw.after {m : Mode} (h : QueueLaw s) (hm : m ≠ .halted)
    (hk : (s.enterMode m).mode ≠ .halted → KeepsQueue (s.enterMode m) t) : QueueLaw t :=
  (hk (by rwa [State.enterMode_mode])).law (h.enterMode hm)

/-- What the entries to PARKED and to HALTED begin with: the waiting entries go, the one in flight makes its last attempt, and the
link stands as given (R8, R10). -/
def State.lastAttempts (link : Link) (s : State) : State :=
  (s.dropWaiting (fun _ => true) (fun _ => some .aborted)).setNlc
    { (s.dropWaiting (fun _ => true) (fun _ => some .aborted)).nlc with
      queue := lastAttempt (s.dropWaiting (fun _ => true) (fun _ => some .aborted)).nlc.queue, link := link }

theorem State.parkLink_eq (s : State) : s.parkLink = (s.lastAttempts .leaving).linkCheck := rfl

theorem State.haltLink_eq (s : State) : s.haltLink =
    (((((s.lastAttempts .halting).offerHalt .inv .torque (torquePayload 0)).offerHalt .eng .command stopPayload).offerHalt
      .bkf .pressure releasePayload).offerHalt .bkr .pressure releasePayload).linkCheck := rfl

/-- The link while the HALT frames are queued, with the places taken so far (R10). -/
def State.Halting (room : Nat) (s : State) : Prop := s.QueueCore ∧ HaltQueue room s.nlc.queue

theorem State.Halting.lastAttempts (h : s.QueueCore) (link : Link) : (s.lastAttempts link).Halting 1 := by
  have hdrop := State.dropWaiting_core (picks := fun _ => true) (code := fun _ => some .aborted) h
  refine ⟨lastAttempt_core hdrop, lastAttempt_halt hdrop (Tx.flying_le _) fun e he => ?_⟩
  rw [State.dropWaiting_nlc] at he
  simpa using (List.mem_filter.mp he).2

theorem State.Halting.offerHalt {room : Nat} (h : s.Halting room) {n : NodeAddr} {k : EntryKind} (hc : (n, k) ∈ controlPairs)
    (payload : List Byte) : (s.offerHalt n k payload).Halting (room + 1) :=
  ⟨State.offerHalt_core h.1 hc, State.offerHalt_halt h.2⟩

theorem KeepsQueue.parkLink (h : KeepsQueue s t) (hm : s.mode ≠ .halted) : KeepsQueue s t.parkLink := by
  have hd := (KeepsQueue.refl t).dropWaiting (picks := fun _ => true) (code := fun _ => some .aborted)
  rw [State.parkLink_eq]
  exact (h.trans (u := t.lastAttempts .leaving) (.of_parts hd.mode (fun hq => (State.Halting.lastAttempts hq .leaving).1)
    (fun hh => absurd (h.mode ▸ hh) hm) hd.breaking)).linkCheck

theorem QueueLaw.enterParked (h : QueueLaw s) : QueueLaw s.enterParked :=
  h.after (m := .parked) (by decide) fun hm =>
    ((((KeepsQueue.refl _).setProgress.parkLink hm).parkNodes.setDemand.setBbu.endCause.endReserve).setHli.setKeep).slowDown

/-- The end of a wake finds the queue empty (R9). -/
theorem QueueLaw.rejoinLink (hm : s.mode ≠ .halted) : QueueLaw s.rejoinLink := by
  have hfold : OnlyChanges [.hli] (s.setNlc { s.nlc with
      queue := [], tx := .idle, bus := .waiting, link := .up, breakDue := false, ack := none }) s.rejoinLink :=
    OnlyChanges.foldl (fun u e => State.releaseReply_only stLinkFail (some .aborted) e u) _ _
  have hnlc := hfold .nlc (by decide)
  have hmode := hfold .mode (by decide)
  exact .of_core (by rw [State.QueueCore, hnlc]; exact queueCore_nil) (by rw [hmode]; exact hm)

theorem QueueLaw.endWake (h : QueueLaw s) : QueueLaw s.endWake := by
  unfold State.endWake
  split
  · have hm : (s.enterMode .standby).mode ≠ .halted := by rw [State.enterMode_mode]; decide
    have hrejoined : QueueLaw ((((s.enterMode .standby).setKeep true).setSlowClock false).setWaking false).rejoinLink :=
      .rejoinLink hm
    exact (KeepsQueue.refl _).setHli.setEsc.law hrejoined
  · exact h

/-- HALTED entry leaves the entry in flight, on its last attempt, and at most the four HALT frames (R10). -/
theorem State.haltLink_law (h : s.QueueCore) : QueueLaw s.haltLink := by
  have hframes := ((((State.Halting.lastAttempts h .halting).offerHalt (n := .inv) (k := .torque) (by decide) (torquePayload 0)).offerHalt
    (n := .eng) (k := .command) (by decide) stopPayload).offerHalt (n := .bkf) (k := .pressure) (by decide) releasePayload).offerHalt
    (n := .bkr) (k := .pressure) (by decide) releasePayload
  rw [State.haltLink_eq]
  exact (KeepsQueue.refl _).linkCheck.law (queueLaw_iff.mpr ⟨hframes.1, fun _ => hframes.2⟩)

theorem QueueLaw.enterHalted (h : QueueLaw s) : QueueLaw s.enterHalted := by
  refine State.haltLink_law ?_
  have hnlc : (((s.enterMode .halted).closeEvent .mode).setProgress .idle).nlc = s.nlc :=
    ((State.frame_setProgress (bs := [.mode, .progress, .hli, .log, .notices]) (s := s) _ (by decide)).mpr
      (by simp (disch := decide))) .nlc (by decide)
  rw [State.QueueCore, hnlc]
  exact h.core

theorem QueueLaw.saveCompletes (h : QueueLaw s) (readBack : Option (List Byte)) : QueueLaw (s.saveCompletes readBack) := by
  unfold State.saveCompletes
  split
  · exact h
  · have hsave := fun job => (KeepsQueue.refl s).endSave.law (t := s.endSave job readBack) h
    dsimp only
    split
    · exact (hsave _).enterParked
    · exact hsave _

end

/-! ## 6. Requests -/

/-- An owner that keeps the queue's law, asked outside HALTED (R207). -/
def Lawful (owner : State → Taken) : Prop := ∀ u : State, u.mode ≠ .halted → QueueLaw u → QueueLaw (owner u).state

/-- An owner that answers from the state and leaves it. -/
def ReadsOnly (owner : State → Taken) : Prop := ∀ u : State, (owner u).state = u

theorem Lawful.of_keeps {owner : State → Taken} (hk : ∀ {u : State}, u.mode ≠ .halted → KeepsQueue u (owner u).state) :
    Lawful owner :=
  fun _ hm hu => (hk hm).law hu

theorem Lawful.off {owner : State → Taken} (hf : ∀ u : State, OnlyChanges offQueue u (owner u).state) : Lawful owner :=
  fun u _ hu => hu.off (hf u)

section
variable {s : State}

theorem QueueLaw.request {tag kind : Byte} {confirmed inHalted : Bool} {form : Form} {owner : Fin 4 → State → Taken} (h : QueueLaw s)
    (ho : ∀ i u, (u.mode = .halted → inHalted = true) → QueueLaw u → QueueLaw (owner i u).state) :
    QueueLaw (s.request tag kind confirmed inHalted form owner) := by
  have hbusy : QueueLaw ((s.setHli { s.hli with framer := .hunt }).answerBusy tag kind) := h.off (by simp (disch := decide))
  have hslot : ∀ i, QueueLaw ((s.setHli { s.hli with framer := .hunt }).takeSlot i ⟨tag, kind, false⟩) :=
    fun i => h.off (by simp (disch := decide))
  have hready : ∀ {u : State} (r : Reply), QueueLaw u → QueueLaw (u.ready r) := fun r hu => hu.off (by simp (disch := decide))
  unfold State.request
  split
  · exact h.off (by simp (disch := decide))
  · dsimp only
    split
    · exact hbusy
    · split
      · exact hbusy
      · next i _ =>
        split
        · exact hready _ (hslot i)
        · exact hready _ (hslot i)
        · exact hready _ (hslot i)
        · split
          · exact hready _ (hslot i)
          · next hm =>
            have howner := ho i ((s.setHli { s.hli with framer := .hunt }).takeSlot i ⟨tag, kind, false⟩)
              (fun hh => by
                have hh' : s.mode = .halted := hh
                simpa [hh'] using hm) (hslot i)
            split
            · exact hready _ howner
            · exact howner.off (by simp (disch := decide))

theorem QueueLaw.plain {tag kind : Byte} {ok : Bool} {owner : State → Taken} (h : QueueLaw s) (ho : Lawful owner) :
    QueueLaw (s.plain tag kind ok owner) :=
  h.request fun _ u hm hu => ho u (fun hh => by cases hm hh) hu

theorem QueueLaw.readable {tag kind : Byte} {ok : Bool} {owner : State → Taken} (h : QueueLaw s)
    (ho : ReadsOnly owner) : QueueLaw (s.readable tag kind ok owner) :=
  h.request fun _ u _ hu => by rwa [ho u]

theorem QueueLaw.answerForm {tag kind : Byte} {form : Form} (h : QueueLaw s) : QueueLaw (s.answerForm tag kind form) :=
  h.request fun _ _ _ hu => hu

/-! ### The owners -/

theorem QueueLaw.carried (h : QueueLaw s) : QueueLaw (Taken.carried s).state := h

theorem lawful_takeModeReady : Lawful State.takeModeReady := by
  intro u _ hu
  unfold State.takeModeReady
  split
  · split
    · exact hu
    · exact ((KeepsQueue.refl u).setDemand.law hu).enterMode (m := .ready) (by decide)
  all_goals exact hu

theorem lawful_takeModeStandby : Lawful State.takeModeStandby := by
  intro u _ hu
  unfold State.takeModeStandby
  split
  · exact hu
  · split
    · exact hu.after (m := .standby) (by decide) fun hm => (KeepsQueue.refl _).leaveReady hm
    · exact hu
  · split
    · exact hu
    · exact hu.after (m := .standby) (by decide) fun _ => (KeepsQueue.refl _).setProgress
  all_goals exact hu

theorem lawful_takeModeShutdown : Lawful State.takeModeShutdown := by
  intro u _ hu
  unfold State.takeModeShutdown
  split
  · split
    · exact hu.after (m := .shutdown) (by decide) fun hm => (((KeepsQueue.refl _).offerRelease hm).stopCause hm).beginEngineWait
    · exact hu
  · split
    · exact hu.after (m := .shutdown) (by decide) fun hm => ((KeepsQueue.refl _).leaveReady hm).beginEngineWait
    · exact hu
  all_goals exact hu

theorem lawful_takeModePark : Lawful State.takeModePark := by
  intro u _ hu
  unfold State.takeModePark
  split
  · split
    · exact hu.enterParked.carried
    · exact hu
  all_goals exact hu

theorem lawful_takeModeHalt : Lawful State.takeModeHalt := by
  intro u _ hu
  unfold State.takeModeHalt
  split
  · exact hu.enterHalted.carried
  · exact hu.enterHalted.carried
  · exact hu.enterHalted.carried
  all_goals exact hu

theorem lawful_modeOwner (target : Byte) : Lawful (modeOwner target) := by
  unfold modeOwner
  split
  · exact lawful_takeModePark
  · exact lawful_takeModeStandby
  · exact lawful_takeModeReady
  · exact lawful_takeModeShutdown
  · exact lawful_takeModeHalt
  · exact fun _ _ hu => hu

theorem lawful_accessOwner (level : Byte) : Lawful (accessOwner level) := by
  unfold accessOwner
  split
  · exact .off fun u => by simp (disch := decide)
  · exact .off fun u => by simp (disch := decide)
  · exact fun _ _ hu => hu

theorem readsOnly_pageOwner (page : Byte) : ReadsOnly (pageOwner page) := by
  unfold pageOwner
  split <;> exact fun _ => rfl

/-- A TUNNEL SEND takes a slot that no queued entry holds (R76). -/
theorem State.kind_ne_of_freeTunnel {i : Fin 4} (h : s.freeTunnel = some i) : ∀ e ∈ s.nlc.queue, e.kind ≠ .tunnel i := by
  have hfree : s.tunnelBusy i = false := by simpa using List.find?_some h
  intro e he
  simpa using List.any_eq_false.mp hfree e he

theorem lawful_takeTunnelSend (tag : Byte) (data : List Byte) (slot : Fin 4) : Lawful (State.takeTunnelSend tag data slot) := by
  intro u hm hu
  unfold State.takeTunnelSend
  split
  · split
    · exact hu
    · split
      · exact hu
      · next i hi =>
        unfold State.sendTunnel
        dsimp only
        split <;> exact ((KeepsQueue.refl u).offerAt hm rfl (.inl rfl) fun _ => State.kind_ne_of_freeTunnel hi).law hu
  all_goals exact hu

theorem lawful_takeTunnelFetch : Lawful State.takeTunnelFetch := by
  intro u _ hu
  unfold State.takeTunnelFetch
  split
  · exact hu
  · exact hu.carry rfl rfl rfl

/-! ### The requests, one by one -/

namespace QueueLaw
variable {tag : Byte} {data : List Byte}

theorem reqDemand (h : QueueLaw s) : QueueLaw (s.reqDemand tag data) := h.plain (.of_keeps fun hm => (KeepsQueue.refl _).takeDemand hm)
theorem reqZoneEnter (h : QueueLaw s) : QueueLaw (s.reqZoneEnter tag data) :=
  h.plain (.of_keeps fun hm => (KeepsQueue.refl _).takeZoneEnter hm)
theorem reqZoneExit (h : QueueLaw s) : QueueLaw (s.reqZoneExit tag data) :=
  h.plain (.of_keeps fun hm => (KeepsQueue.refl _).takeZoneExit hm)
theorem reqSchedule (h : QueueLaw s) : QueueLaw (s.reqSchedule tag data) :=
  h.plain (.of_keeps fun hm => (KeepsQueue.refl _).takeSchedule hm)
theorem reqCancel (h : QueueLaw s) : QueueLaw (s.reqCancel tag data) := h.plain (.off fun u => by simp (disch := decide))
theorem reqEngineStart (h : QueueLaw s) : QueueLaw (s.reqEngineStart tag data) :=
  h.plain (.of_keeps fun hm => (KeepsQueue.refl _).takeEngineStart hm)
theorem reqEngineStop (h : QueueLaw s) : QueueLaw (s.reqEngineStop tag data) :=
  h.plain (.of_keeps fun hm => (KeepsQueue.refl _).stopCause hm)
theorem reqAutoOn (h : QueueLaw s) : QueueLaw (s.reqAutoOn tag data) :=
  h.plain (.of_keeps fun hm => (KeepsQueue.refl _).setEsc.evaluateStart hm)
theorem reqAutoOff (h : QueueLaw s) : QueueLaw (s.reqAutoOff tag data) := h.plain (.off fun u => by simp (disch := decide))
theorem reqResetFault (h : QueueLaw s) : QueueLaw (s.reqResetFault tag data) := h.plain (.off fun u => by simp (disch := decide))
theorem reqMode {owner : State → Taken} (h : QueueLaw s) (ho : Lawful owner) : QueueLaw (s.reqMode tag data owner) := h.plain ho
theorem reqStatus (h : QueueLaw s) : QueueLaw (s.reqStatus tag data) := h.readable fun _ => rfl
theorem reqNotices (h : QueueLaw s) : QueueLaw (s.reqNotices tag data) := h.plain (.off fun u => by simp (disch := decide))
theorem reqEvents (h : QueueLaw s) : QueueLaw (s.reqEvents tag data) := h.plain (.off fun u => by simp)
theorem reqWearRead (h : QueueLaw s) : QueueLaw (s.reqWearRead tag data) := h.plain (.off fun u => by simp)
theorem reqWearReset (h : QueueLaw s) : QueueLaw (s.reqWearReset tag data) := h.plain (.off fun u => by simp (disch := decide))
theorem reqConfigSet (h : QueueLaw s) : QueueLaw (s.reqConfigSet tag data) :=
  h.plain (.of_keeps fun _ => (KeepsQueue.refl _).takeConfigSet)
theorem reqConfigGet (h : QueueLaw s) : QueueLaw (s.reqConfigGet tag data) := h.plain (.off fun u => by simp)
theorem reqFaults {page : Byte} (h : QueueLaw s) : QueueLaw (s.reqFaults tag page data) := h.plain (.off fun u => by simp)
theorem reqFaultClear (h : QueueLaw s) : QueueLaw (s.reqFaultClear tag data) := h.plain (.off fun u => by simp (disch := decide))
theorem reqResponseSet (h : QueueLaw s) : QueueLaw (s.reqResponseSet tag data) := h.plain (.off fun u => by simp (disch := decide))
theorem reqAccess {owner : State → Taken} (h : QueueLaw s) (ho : Lawful owner) : QueueLaw (s.reqAccess tag data owner) := h.plain ho
theorem reqTunnelSend (h : QueueLaw s) : QueueLaw (s.reqTunnelSend tag data) :=
  h.request fun i u hm hu => lawful_takeTunnelSend tag data i u (fun hh => by cases hm hh) hu
theorem reqTunnelFetch (h : QueueLaw s) : QueueLaw (s.reqTunnelFetch tag data) := h.plain lawful_takeTunnelFetch
theorem reqDescribe {owner : State → Taken} (h : QueueLaw s) (ho : ReadsOnly owner) :
    QueueLaw (s.reqDescribe tag data owner) := h.readable ho

/-! ### Frames by their kind -/

theorem frameRoute (h : QueueLaw s) : QueueLaw (s.frameRoute tag data) := by
  unfold State.frameRoute
  split
  · exact h.answerForm
  · split
    · exact h.reqZoneEnter
    · exact h.reqZoneExit
    · exact h.reqSchedule
    · exact h.reqCancel
    · exact h.answerForm

theorem frameEngine (h : QueueLaw s) : QueueLaw (s.frameEngine tag data) := by
  unfold State.frameEngine
  split
  · exact h.answerForm
  · split
    · exact h.reqEngineStart
    · exact h.reqEngineStop
    · exact h.reqAutoOn
    · exact h.reqAutoOff
    · exact h.reqResetFault
    · exact h.answerForm

theorem frameMode (h : QueueLaw s) : QueueLaw (s.frameMode tag data) := by
  cases data with
  | nil => exact h.answerForm
  | cons target rest => exact h.reqMode (lawful_modeOwner target)

theorem frameFaults (h : QueueLaw s) : QueueLaw (s.frameFaults tag data) := by
  cases data with
  | nil => exact h.answerForm
  | cons page rest => exact h.reqFaults

theorem frameAccess (h : QueueLaw s) : QueueLaw (s.frameAccess tag data) := by
  cases data with
  | nil => exact h.answerForm
  | cons level rest => exact h.reqAccess (lawful_accessOwner level)

theorem frameTunnel (h : QueueLaw s) : QueueLaw (s.frameTunnel tag data) := by
  unfold State.frameTunnel
  split
  · exact h.answerForm
  · split
    · exact h.reqTunnelSend
    · exact h.reqTunnelFetch
    · exact h.answerForm

theorem frameDescribe (h : QueueLaw s) : QueueLaw (s.frameDescribe tag data) := by
  cases data with
  | nil => exact h.answerForm
  | cons page rest => exact h.reqDescribe (readsOnly_pageOwner page)

theorem hostFrame (h : QueueLaw s) (kind : Byte) : QueueLaw (s.hostFrame tag kind data) := by
  unfold State.hostFrame
  split
  · exact h.reqDemand
  · exact h.frameRoute
  · exact h.frameEngine
  · exact h.frameMode
  · exact h.reqStatus
  · exact h.reqNotices
  · exact h.reqEvents
  · exact h.reqWearRead
  · exact h.reqWearReset
  · exact h.reqConfigSet
  · exact h.reqConfigGet
  · exact h.frameFaults
  · exact h.reqFaultClear
  · exact h.reqResponseSet
  · exact h.frameAccess
  · exact h.frameTunnel
  · exact h.frameDescribe
  · exact h.answerForm

theorem completeHostFrame (h : QueueLaw s) (body : List Byte) (crc : BitVec 16) : QueueLaw (s.completeHostFrame body crc) := by
  unfold State.completeHostFrame
  split
  · exact h.off (by simp (disch := decide))
  · split
    · split
      · exact h.hostFrame _
      · exact h
      · exact h
    · exact h.off (by simp (disch := decide))

end QueueLaw

/-! ## 7. Every command, every step -/

/-- Every command keeps the queue's law. -/
theorem exec_keeps_queueLaw (i : Instr) (h : QueueLaw s) : ∀ t, exec i s = .next t → QueueLaw t := by
  cases i with
  | powerOn cut => exact fun t ht => Host.Outcome.next.inj ht ▸ QueueLaw.restart cut s
  | nreset cut => exact h.powered (.restart cut s)
  | nresync us => exact h.powered (h.off (by simp (disch := decide)))
  | svcLow => exact fun t ht => Host.Outcome.next.inj ht ▸ h.off (by unfold State.svcFalls; simp (disch := decide))
  | svcHigh => exact fun t ht => Host.Outcome.next.inj ht ▸ h.off (by simp (disch := decide))
  | wakeOnHrx => exact h.powered (h.off (by simp (disch := decide)))
  | wakeOnNode => exact h.powered (h.off (by simp (disch := decide)))
  | wakeEnd => exact h.powered h.endWake
  | hostFrameBadCrc body crc => exact h.powered (h.completeHostFrame body crc)
  | hostFramingError cause => exact h.powered (h.off (by simp (disch := decide)))
  | interByteGapTimeout us => exact h.powered (h.off (by simp (disch := decide)))
  | requestUnknownKind tag kind data => exact h.powered (h.hostFrame kind)
  | replyEnd => exact h.powered (h.off (by simp (disch := decide)))
  | demand tag data => exact h.powered h.reqDemand
  | routeZoneEnter tag data => exact h.powered h.reqZoneEnter
  | routeZoneExit tag data => exact h.powered h.reqZoneExit
  | routeSchedule tag data => exact h.powered h.reqSchedule
  | routeCancel tag data => exact h.powered h.reqCancel
  | engineStart tag data => exact h.powered h.reqEngineStart
  | engineStop tag data => exact h.powered h.reqEngineStop
  | engineAutoOn tag data => exact h.powered h.reqAutoOn
  | engineAutoOff tag data => exact h.powered h.reqAutoOff
  | engineResetFault tag data => exact h.powered h.reqResetFault
  | modeReady tag data => exact h.powered (h.reqMode lawful_takeModeReady)
  | modeStandby tag data => exact h.powered (h.reqMode lawful_takeModeStandby)
  | modeShutdown tag data => exact h.powered (h.reqMode lawful_takeModeShutdown)
  | modePark tag data => exact h.powered (h.reqMode lawful_takeModePark)
  | modeHalt tag data => exact h.powered (h.reqMode lawful_takeModeHalt)
  | status tag data => exact h.powered h.reqStatus
  | notices tag data => exact h.powered h.reqNotices
  | events tag data => exact h.powered h.reqEvents
  | wearRead tag data => exact h.powered h.reqWearRead
  | wearReset tag data => exact h.powered h.reqWearReset
  | configSet tag data => exact h.powered h.reqConfigSet
  | configGet tag data => exact h.powered h.reqConfigGet
  | faultsList tag data => exact h.powered h.reqFaults
  | faultsTable tag data => exact h.powered h.reqFaults
  | faultClear tag data => exact h.powered h.reqFaultClear
  | responseSet tag data => exact h.powered h.reqResponseSet
  | accessDrive tag data => exact h.powered (h.reqAccess (lawful_accessOwner 0))
  | accessService tag data => exact h.powered (h.reqAccess (lawful_accessOwner 1))
  | tunnelSend tag data => exact h.powered h.reqTunnelSend
  | tunnelFetch tag data => exact h.powered h.reqTunnelFetch
  | describeIdentity tag data => exact h.powered (h.reqDescribe fun _ => rfl)
  | describeCapacities tag data => exact h.powered (h.reqDescribe fun _ => rfl)
  | describeStore tag data => exact h.powered (h.reqDescribe fun _ => rfl)
  | freshnessTimerExpiry => exact h.powered (h.expireLive fun hm => (KeepsQueue.refl s).freshnessExpires hm)
  | lowSpeedTimerExpiry => exact h.powered (h.expireLive fun hm => (KeepsQueue.refl s).lowSpeedExpires hm)
  | slipHoldTimerExpiry => exact h.powered (h.expireLive fun _ => (KeepsQueue.refl s).setBbu)
  | staleTimerExpiry node => exact h.powered (h.expirePresence (KeepsQueue.refl s).becomeStale)
  | lostTimerExpiry node => exact h.powered (h.expirePresence (KeepsQueue.refl s).becomeLost)
  | crankTimerExpiry => exact h.powered (h.expireEngine fun _ => (KeepsQueue.refl s).attemptFails)
  | restTimerExpiry => exact h.powered (h.expireEngine fun hm => (KeepsQueue.refl s).restExpires hm)
  | cooldownTimerExpiry => exact h.powered (h.expireEngine fun hm => (KeepsQueue.refl s).cooldownExpires hm)
  | stopTimerExpiry => exact h.powered (h.expireEngine fun hm => (KeepsQueue.refl s).stopExpires hm)
  | quietTimerExpiry => exact h.powered h.expireQuiet
  | periodicSaveTrigger => exact h.powered h.periodicTrigger
  | storeLoadComplete => exact h.powered h.endLoad
  | saveComplete readBack => exact h.powered (h.saveCompletes readBack)
  | reportReceived source retry payload wave => exact h.powered (h.onLink (h.wave wave))
  | tunnelFrameReceived source retry payload wave => exact h.powered (h.onLink (h.wave wave))
  | nodeFrameRefused source cls retry payload wave => exact h.powered (h.onLink (h.wave wave))
  | dnlFrameCrcError wave => exact h.powered (h.onLink (h.wave wave))
  | noisePulse ns => exact h.powered (h.onLink (h.dominantPulse ns))
  | busIdle taken => exact h.powered (h.idleOnLink taken)
  | busReset ns => exact h.powered (h.onLink (h.dominantPulse ns))
  | frameCompletion wave => exact h.powered (h.whileLinked (h.ownWave wave))
  | powerLoss cut => exact h.powered ((QueueLaw.restart cut s).off (by unfold State.losePower; simp (disch := decide)))

end

/-- Settles O53: a tick by `QueueLaw.tick`, a command by `exec_keeps_queueLaw`. -/
theorem stepsKeepTheQueueLaw : Obligations.StepsKeepTheQueueLaw := by
  intro s t h hstep
  unfold step at hstep
  split at hstep
  · exact Host.Outcome.next.inj hstep ▸ h.tick
  · next i rest _ =>
    have hrest : QueueLaw (s.setPending rest) := h.carry rfl rfl rfl
    exact exec_keeps_queueLaw i hrest t hstep

end Sys2Proof.Machine

/-! # A blend allocates the whole demand (R98, O49)

The inverter's torque is whole and rounded down, so the force it delivers is at most the candidate, and the candidate at most F_dem.
The subtractions of stage 7 are then exact. A pressure is a quotient rounded up: the least whole pressure that covers the force. -/

namespace Sys2Proof.Machine

/-! ## Recovery stays within the demand (R94) -/

/-- Rounding a force to a whole torque never gains force (R94), also where a parameter is 0. -/
theorem wheelForce_motorTorque_le (g r force : Nat) : wheelForce g r (motorTorque g r force) ≤ force :=
  calc motorTorque g r force * g * 10 / r
      = force * r / (g * 10) * (g * 10) / r := by rw [motorTorque, Nat.mul_assoc]
    _ ≤ force * r / r := Nat.div_le_div_right (Nat.div_mul_le_self _ _)
    _ ≤ force := Nat.div_le_of_le_mul (Nat.mul_comm force r).le

theorem BlendInputs.fReg_le_fCand (p : Params) (i : BlendInputs) : i.fReg p ≤ i.fCand p :=
  wheelForce_motorTorque_le _ _ _

theorem BlendInputs.fCand_le_fDem (p : Params) (i : BlendInputs) : i.fCand p ≤ i.fDem :=
  (min_le_left _ _).trans (min_le_left _ _)

theorem BlendInputs.fReg_le_fDem (p : Params) (i : BlendInputs) : i.fReg p ≤ i.fDem :=
  (i.fReg_le_fCand p).trans (i.fCand_le_fDem p)

/-! ## The axles share the friction force (R96) -/

theorem BlendInputs.fFront_le_fFriction (p : Params) (i : BlendInputs) : i.fFront p ≤ i.fFriction p := min_le_left _ _

theorem BlendInputs.fFront_add_fRear (p : Params) (i : BlendInputs) : i.fFront p + i.fRear p = i.fFriction p :=
  Nat.add_sub_of_le (i.fFront_le_fFriction p)

theorem BlendInputs.fReg_add_fFriction (p : Params) (i : BlendInputs) : i.fReg p + i.fFriction p = i.fDem :=
  Nat.add_sub_of_le (i.fReg_le_fDem p)

theorem BlendInputs.forces_sum (p : Params) (i : BlendInputs) : i.fReg p + i.fFront p + i.fRear p = i.fDem := by
  rw [Nat.add_assoc, i.fFront_add_fRear, i.fReg_add_fFriction]

/-! ## A pressure covers its axle's force (R97) -/

theorem ceilDiv_le_iff {d : Nat} (hd : 0 < d) (n q : Nat) : ceilDiv n d ≤ q ↔ n ≤ q * d :=
  calc (n + (d - 1)) / d ≤ q
      ↔ n + (d - 1) < (q + 1) * d := by rw [← Nat.lt_succ_iff, Nat.div_lt_iff_lt_mul hd]
    _ ↔ n ≤ q * d := by rw [Nat.succ_mul]; omega

theorem axlePressure_eq_min_leastCovering {k : Nat} (hk : 0 < k) (pMax force : Nat) :
    ∃ c, axlePressure pMax k force = min pMax c ∧ ∀ q, c ≤ q ↔ force ≤ q * k :=
  ⟨ceilDiv force k, rfl, ceilDiv_le_iff hk force⟩

/-- Settles O49: the forces sum by `BlendInputs.forces_sum`, each pressure is `axlePressure_eq_min_leastCovering` of its axle. -/
theorem blendAllocatesTheWholeDemand : Obligations.BlendAllocatesTheWholeDemand := by
  intro p trigger i hFront hRear
  exact ⟨i.forces_sum p, axlePressure_eq_min_leastCovering hFront _ _, axlePressure_eq_min_leastCovering hRear _ _⟩

end Sys2Proof.Machine

/-! # NOTICES hands over the pending slots and clears them (R203, O27)

A request that is answered at once has two outcomes: its owner's, and MODE in HALTED (R207). The owner of NOTICES touches the notice
set alone and puts every slot at its reset value, so no slot is left to hold nATTN low. -/

namespace Sys2Proof.Machine

/-! ## A request that is answered at once (R207) -/

theorem State.powered_on {s : State} (h : s.supply = .on) (act : State → State) : s.powered act = .next (act s) := by
  rw [State.powered, if_pos h]

theorem Mode.not_halted_of_live {m : Mode} (h : m.live = true) : m ≠ .halted := by rintro rfl; cases h

/-- In HALTED a request is taken as one whose owner answers MODE and leaves the state. -/
theorem State.request_halted {s : State} (hm : s.mode = .halted) (tag kind : Byte) (confirmed : Bool) (owner : Fin 4 → State → Taken) :
    s.request tag kind confirmed false .good owner =
      s.request tag kind confirmed true .good (fun _ u => .now u [stMode]) := by
  simp [State.request, hm, Taken.now]

section
variable {s : State} {i : Fin 4} {tag kind : Byte} {owner : State → Taken}

theorem State.onlyChanges_afterSlot : OnlyChanges [.hli] s (s.afterSlot i tag kind) := by
  unfold State.afterSlot
  simp (disch := decide)

theorem State.plain_live (h : s.Hears i) (hm : s.mode.live = true) {payload : List Byte}
    (hr : (owner (s.afterSlot i tag kind)).reply = some payload) :
    s.plain tag kind true owner = (owner (s.afterSlot i tag kind)).state.ready ⟨tag, kind, payload, some i⟩ :=
  State.request_good h tag kind _ (fun hh => absurd hh (Mode.not_halted_of_live hm)) nofun hr

theorem State.plain_halted (h : s.Hears i) (hm : s.mode = .halted) :
    s.plain tag kind true owner = (s.afterSlot i tag kind).ready ⟨tag, kind, [stMode], some i⟩ :=
  (State.request_halted hm ..).trans (State.request_good h tag kind _ (fun _ => rfl) nofun rfl)

theorem State.plain_refused (h : s.Hears i) (hm : s.mode = .halted) :
    Answered tag kind [stMode] i s (s.plain tag kind true owner) ∧ OnlyChanges [.hli] s (s.plain tag kind true owner) := by
  rw [State.plain_halted h hm]
  exact ⟨State.answered_of_owner h rfl, (State.frame_ready _ (by decide)).mpr State.onlyChanges_afterSlot⟩

end

/-! ## The cleared notice set (R201, R202) -/

section
variable {s : State}

theorem State.noticeOf_of_noNotices (h : s.notices = noNotices) (k : NoticeKind) : s.noticeOf k = .clear := by
  rw [State.noticeOf, h]
  cases k <;> rfl

theorem noNotices_pending (i : Fin 10) : noNotices[i].pending = false := by revert i; decide

theorem State.nattnLow_of_noNotices (h : s.notices = noNotices) : s.nattnLow = false := by
  have hnone : noticeCodes.any (fun i => noNotices[i].pending && Nat.testBit (s.par .attention) i.val) = false :=
    List.any_eq_false.mpr fun i _ => by rw [noNotices_pending, Bool.false_and]; exact Bool.false_ne_true
  rw [State.nattnLow, h, hnone, Bool.and_false]

/-! ## The request (R203) -/

theorem State.ready_notices (r : Reply) : (s.ready r).notices = s.notices :=
  (State.frame_ready r (by decide)).mpr (.refl [.hli] s) .notices (by decide)

/-- Taking the slot changes neither the mask P42 nor the notice set, so the reply is that of the state the request found. -/
theorem State.takeNotices_afterSlot (i : Fin 4) (tag kind : Byte) :
    (s.afterSlot i tag kind).takeNotices = .now ((s.afterSlot i tag kind).setNotices noNotices)
      ([stOk] ++ be16 (s.par .attention % 1024) ++ [byte (pendingKinds s.notices)] ++ noticeBytes s.notices) := rfl

end

/-- Settles O27: `State.takeNotices` on the state with the slot taken, and `State.plain_refused` in HALTED. -/
theorem noticesFetchClearsTheSlots : Obligations.NoticesFetchClearsTheSlots := by
  intro tag s i h
  refine ⟨s.plain tag 0x06 true State.takeNotices, State.powered_on h.powered _, fun hm => ?_, State.plain_refused h⟩
  rw [State.plain_live h hm (congrArg Taken.reply (State.takeNotices_afterSlot i tag 0x06)), State.takeNotices_afterSlot,
    Taken.now_state]
  have hcleared := State.ready_notices (s := (s.afterSlot i tag 0x06).setNotices noNotices)
  refine ⟨State.answered_of_owner h rfl, State.noticeOf_of_noNotices (hcleared _), State.nattnLow_of_noNotices (hcleared _), ?_⟩
  rw [State.frame_ready _ (by decide), State.frame_setNotices _ (by decide)]
  exact State.onlyChanges_afterSlot.mono (by decide)

end Sys2Proof.Machine

/-! # A pulse on nRESYNC discards the frame in reception (R210, O5)

The pulse has one test, its length and the mode, and one write, the framer's. -/

namespace Sys2Proof.Machine

section
variable {us : Nat} {s : State}

/-- A short pulse, and any pulse in PARKED, where no frame is received. -/
theorem State.resync_ignored (h : us < 20 ∨ s.mode = .parked) : s.resync us = s := if_pos h.symm

theorem State.resync_taken (hlong : 20 ≤ us) (hm : s.mode ≠ .parked) :
    s.resync us = s.setHli { s.hli with framer := .hunt } :=
  if_neg (not_or.mpr ⟨hm, hlong.not_gt⟩)

end

/-- Settles O5: the pulse that acts is `State.resync_taken`, the one that does nothing `State.resync_ignored`. -/
theorem nresyncDropsTheFrameInReception : Obligations.NresyncDropsTheFrameInReception := by
  intro us s hon
  refine ⟨s.resync us, State.powered_on hon _, fun hlong hm => ?_, State.resync_ignored⟩
  rw [State.resync_taken hlong hm]
  exact ⟨rfl, (State.frame_setHli _ (by decide)).mpr (.refl _ s)⟩

end Sys2Proof.Machine

/-! # The laws every step keeps

One walk over the operations for the access, reply, ring, fault, parameter, engine, zone, presence and wear laws. A law reads few
blocks, so an operation that leaves them keeps it by its frame (`KeepsLaws.off`); the leaves below are the operations that write a
block some law reads. -/

namespace Sys2Proof.Machine

-- In order: proofs elaborated side by side wait for one another in too many threads.
set_option Elab.async false

/-! ## 1. The laws by the blocks they read -/

/-- The engine timers stand as the machine state asks. -/
def EngineUnit.timersFit (e : EngineUnit) : Prop :=
  e.crankTimer.isSome = (e.machine == .cranking) ∧ e.restTimer.isSome = (e.machine == .retryWait) ∧
    e.cooldownTimer.isSome = (e.machine == .cooldown) ∧ e.stopTimer.isSome = (e.machine == .stopping)

theorem engineLaw_iff {s : State} : EngineLaw s ↔ s.esc.timersFit :=
  ⟨fun ⟨hc, hr, hd, hs⟩ => ⟨hc, hr, hd, hs⟩, fun ⟨hc, hr, hd, hs⟩ => ⟨hc, hr, hd, hs⟩⟩

/-- A crank there is has cause HOST_OVERRIDE. -/
def EngineUnit.crankFits (e : EngineUnit) : Prop :=
  e.machine = .cranking ∨ e.machine = .retryWait → e.crankCause = some .hostOverride

theorem zoneLaw_iff {s : State} : ZoneLaw s ↔ (s.demand.zone = true → s.esc.crankFits) := Iff.rfl

/-- The presence timers stand as the presence state asks. -/
def NodeRecord.timersFit (r : NodeRecord) : Prop :=
  r.staleTimer.isSome = (r.presence == .present) ∧ r.lostTimer.isSome = (r.presence == .stale)

theorem presenceLaw_iff {s : State} : PresenceLaw s ↔ ∀ n, (s.node n).timersFit := Iff.rfl

/-- The reply line and the inbox stand as R208 and R209 ask. -/
def HostLink.fits (h : HostLink) : Prop := h.ordered ∧ h.busyWaiting ≤ 4 ∧ h.deferredHeld ≤ 2

theorem replyLaw_iff {s : State} : ReplyLaw s ↔ s.hli.fits := Iff.rfl

/-- A wear item's state is as its value stands against the thresholds of `s`. -/
def State.itemFits (s : State) (k : WearKind) (w : WearItem) : Prop := w.state = .unknown ∨ w.state = s.wearStateFor k w.value

theorem wearLaw_iff {s : State} : WearLaw s ↔ ∀ k, s.itemFits k (s.wearItem k) := Iff.rfl

/-- From `s` to `t` each law is kept. -/
structure KeepsLaws (s t : State) : Prop where
  access : AccessLaw s → AccessLaw t
  reply : ReplyLaw s → ReplyLaw t
  ring : RingLaw s → RingLaw t
  fault : FaultLaw s → FaultLaw t
  param : ParamLaw s → ParamLaw t
  engine : EngineLaw s → EngineLaw t
  zone : ZoneLaw s → ZoneLaw t
  presence : PresenceLaw s → PresenceLaw t
  wear : WearLaw s → WearLaw t

/-- The fields that no law reads. -/
def unread : List Block :=
  [.supply, .progress, .waking, .keep, .slowClock, .runTime, .nlc, .bbu, .psu, .notices, .pending]

section
variable {bs : List Block} {s t : State}

theorem AccessLaw.frame (hf : OnlyChanges bs s t) (hb : ∀ b ∈ [Block.mode, .svc, .hli], b ∉ bs := by decide)
    (h : AccessLaw s) : AccessLaw t := by
  have hm : t.mode = s.mode := hf .mode (hb _ (by simp))
  have hv : t.svc = s.svc := hf .svc (hb _ (by simp))
  have hl : t.hli = s.hli := hf .hli (hb _ (by simp))
  rwa [AccessLaw, hm, hv, hl]

theorem ReplyLaw.frame (hf : OnlyChanges bs s t) (hb : Block.hli ∉ bs := by decide) (h : ReplyLaw s) : ReplyLaw t := by
  have hl : t.hli = s.hli := hf .hli hb
  rwa [replyLaw_iff, hl]

theorem RingLaw.frame (hf : OnlyChanges bs s t) (hb : Block.log ∉ bs := by decide) (h : RingLaw s) : RingLaw t := by
  have hl : t.log = s.log := hf .log hb
  exact ⟨hl ▸ h.atMost32, hl ▸ h.next, hl ▸ h.consecutive⟩

theorem FaultLaw.frame (hf : OnlyChanges bs s t) (hb : Block.faults ∉ bs := by decide) (h : FaultLaw s) : FaultLaw t := by
  have hl : t.faults = s.faults := hf .faults hb
  exact ⟨hl ▸ h.oneEach, hl ▸ h.table, hl ▸ h.entries, hl ▸ h.self⟩

theorem ParamLaw.frame (hf : OnlyChanges bs s t) (hb : Block.params ∉ bs := by decide) (h : ParamLaw s) : ParamLaw t := by
  have hp : ∀ p, t.par p = s.par p := hf.par hb
  exact ⟨fun p => hp p ▸ h.range p, by simpa only [hp] using h.mass, by simpa only [hp] using h.fade, by simpa only [hp] using h.soc⟩

theorem EngineLaw.frame (hf : OnlyChanges bs s t) (hb : Block.esc ∉ bs := by decide) (h : EngineLaw s) : EngineLaw t := by
  have he : t.esc = s.esc := hf .esc hb
  rw [engineLaw_iff] at h ⊢
  rwa [he]

theorem ZoneLaw.frame (hf : OnlyChanges bs s t) (hb : ∀ b ∈ [Block.demand, .esc], b ∉ bs := by decide) (h : ZoneLaw s) :
    ZoneLaw t := by
  have hd : t.demand = s.demand := hf .demand (hb _ (by simp))
  have he : t.esc = s.esc := hf .esc (hb _ (by simp))
  rwa [ZoneLaw, hd, he]

theorem PresenceLaw.frame (hf : OnlyChanges bs s t) (hb : Block.nodes ∉ bs := by decide) (h : PresenceLaw s) : PresenceLaw t := by
  intro n
  rw [hf.node hb]
  exact h n

theorem WearLaw.frame (hf : OnlyChanges bs s t) (hb : ∀ b ∈ [Block.params, .wear], b ∉ bs := by decide) (h : WearLaw s) :
    WearLaw t := by
  intro k
  have hp : ∀ p, t.par p = s.par p := hf.par (hb _ (by simp))
  rw [State.wearStateFor, hp, hp, hf.wearItem (hb _ (by simp))]
  exact h k

end

namespace KeepsLaws
variable {s t u : State}

theorem refl (s : State) : KeepsLaws s s := ⟨id, id, id, id, id, id, id, id, id⟩

theorem trans (h : KeepsLaws s t) (h' : KeepsLaws t u) : KeepsLaws s u :=
  ⟨h'.access ∘ h.access, h'.reply ∘ h.reply, h'.ring ∘ h.ring, h'.fault ∘ h.fault, h'.param ∘ h.param, h'.engine ∘ h.engine,
    h'.zone ∘ h.zone, h'.presence ∘ h.presence, h'.wear ∘ h.wear⟩

theorem ite {c : Prop} [Decidable c] {a b : State} (ha : KeepsLaws s a) (hb : KeepsLaws s b) : KeepsLaws s (if c then a else b) := by
  split <;> assumption

theorem iteTaken {c : Prop} [Decidable c] {a b : Taken} (ha : KeepsLaws s a.state) (hb : KeepsLaws s b.state) :
    KeepsLaws s (if c then a else b).state := by split <;> assumption

theorem foldl {α : Type} {f : State → α → State} (hf : ∀ u a, KeepsLaws s u → KeepsLaws s (f u a)) (l : List α)
    (h : KeepsLaws s t) : KeepsLaws s (l.foldl f t) := List.foldlRecOn l f h fun u hu a _ => hf u a hu

/-! ### One block at a time -/

/-- What moves no block that a law reads. -/
theorem off (h : KeepsLaws s t) (hf : OnlyChanges unread t u) : KeepsLaws s u :=
  h.trans ⟨.frame hf, .frame hf, .frame hf, .frame hf, .frame hf, .frame hf, .frame hf, .frame hf, .frame hf⟩

theorem hliStep (h : KeepsLaws s t) (hf : OnlyChanges (.hli :: unread) t u) (ha : u.hli.access = t.hli.access)
    (hr : t.hli.fits → u.hli.fits) : KeepsLaws s u := by
  refine h.trans ⟨fun hl => ?_, hr, .frame hf, .frame hf, .frame hf, .frame hf, .frame hf, .frame hf, .frame hf⟩
  rw [AccessLaw, ha, hf .mode (by decide), hf .svc (by decide)]
  exact hl

theorem logStep (h : KeepsLaws s t) (hf : OnlyChanges (.log :: unread) t u) (hr : RingLaw t → RingLaw u) : KeepsLaws s u :=
  h.trans ⟨.frame hf, .frame hf, hr, .frame hf, .frame hf, .frame hf, .frame hf, .frame hf, .frame hf⟩

theorem faultsStep (h : KeepsLaws s t) (hf : OnlyChanges (.faults :: unread) t u) (hl : FaultLaw t → FaultLaw u) : KeepsLaws s u :=
  h.trans ⟨.frame hf, .frame hf, .frame hf, hl, .frame hf, .frame hf, .frame hf, .frame hf, .frame hf⟩

theorem nodesStep (h : KeepsLaws s t) (hf : OnlyChanges (.nodes :: unread) t u) (hl : PresenceLaw t → PresenceLaw u) :
    KeepsLaws s u :=
  h.trans ⟨.frame hf, .frame hf, .frame hf, .frame hf, .frame hf, .frame hf, .frame hf, hl, .frame hf⟩

theorem wearStep (h : KeepsLaws s t) (hf : OnlyChanges (.wear :: unread) t u) (hl : WearLaw t → WearLaw u) : KeepsLaws s u :=
  h.trans ⟨.frame hf, .frame hf, .frame hf, .frame hf, .frame hf, .frame hf, .frame hf, .frame hf, hl⟩

/-- The Demand Unit and the ESC together, since the zone law reads both. -/
theorem escStep (h : KeepsLaws s t) (hf : OnlyChanges (.demand :: .esc :: unread) t u) (he : t.esc.timersFit → u.esc.timersFit)
    (hz : ZoneLaw t → ZoneLaw u) : KeepsLaws s u :=
  h.trans ⟨.frame hf, .frame hf, .frame hf, .frame hf, .frame hf, fun hl => engineLaw_iff.mpr (he (engineLaw_iff.mp hl)), hz,
    .frame hf, .frame hf⟩

/-! ### What no law reads -/

theorem setProgress {x} (h : KeepsLaws s t) : KeepsLaws s (t.setProgress x) := h.off (by simp (disch := decide))
theorem setWaking {x} (h : KeepsLaws s t) : KeepsLaws s (t.setWaking x) := h.off (by simp (disch := decide))
theorem setKeep {x} (h : KeepsLaws s t) : KeepsLaws s (t.setKeep x) := h.off (by simp (disch := decide))
theorem setSlowClock {x} (h : KeepsLaws s t) : KeepsLaws s (t.setSlowClock x) := h.off (by simp (disch := decide))
theorem setNlc {x} (h : KeepsLaws s t) : KeepsLaws s (t.setNlc x) := h.off (by simp (disch := decide))
theorem setBbu {x} (h : KeepsLaws s t) : KeepsLaws s (t.setBbu x) := h.off (by simp (disch := decide))
theorem setPsu {x} (h : KeepsLaws s t) : KeepsLaws s (t.setPsu x) := h.off (by simp (disch := decide))
theorem setPending {x} (h : KeepsLaws s t) : KeepsLaws s (t.setPending x) := h.off (by simp (disch := decide))
theorem setNotices {x} (h : KeepsLaws s t) : KeepsLaws s (t.setNotices x) := h.off (by simp (disch := decide))
theorem notify {k d} (h : KeepsLaws s t) : KeepsLaws s (t.notify k d) := h.off (by simp (disch := decide))
theorem slowDown (h : KeepsLaws s t) : KeepsLaws s t.slowDown := h.off (by simp (disch := decide))
theorem hostEdge (h : KeepsLaws s t) : KeepsLaws s t.hostEdge := h.off (by simp (disch := decide))
theorem nodeEdge (h : KeepsLaws s t) : KeepsLaws s t.nodeEdge := h.off (by simp (disch := decide))
theorem levelAfter {d} (h : KeepsLaws s t) : KeepsLaws s (t.levelAfter d) := h.off (by simp (disch := decide))
theorem offer {n k p o} (h : KeepsLaws s t) : KeepsLaws s (t.offer n k p o) := h.off (by simp (disch := decide))
theorem offerAt {n k p q o r} (h : KeepsLaws s t) : KeepsLaws s (t.offerAt n k p q o r) := h.off (by simp (disch := decide))
theorem offerHalt {n k p} (h : KeepsLaws s t) : KeepsLaws s (t.offerHalt n k p) := h.offerAt
theorem offerNoForce (h : KeepsLaws s t) : KeepsLaws s t.offerNoForce := h.offer
theorem offerStop (h : KeepsLaws s t) : KeepsLaws s t.offerStop := h.offer
theorem kick (h : KeepsLaws s t) : KeepsLaws s t.kick := h.off (by simp (disch := decide))
theorem startFrame (h : KeepsLaws s t) : KeepsLaws s t.startFrame := h.off (by simp (disch := decide))
theorem linkCheck (h : KeepsLaws s t) : KeepsLaws s t.linkCheck := h.off (by simp (disch := decide))
theorem noteRestriction {b} (h : KeepsLaws s t) : KeepsLaws s (t.noteRestriction b) := h.off (by simp (disch := decide))
theorem retimeSlip (h : KeepsLaws s t) : KeepsLaws s t.retimeSlip := h.off (by simp (disch := decide))
theorem setSplit {r} (h : KeepsLaws s t) : KeepsLaws s (t.setSplit r) := h.setPsu

end KeepsLaws

/-! ## 2. The host link: the access law and the reply law -/

/-- The test that picks the slots of `deferredHeld`. -/
def deferredAt (slots : Vector (Option InboxRequest) 4) (i : Fin 4) : Bool :=
  match slots[i] with
  | some q => q.deferred
  | none => false

theorem HostLink.deferredHeld_eq (h : HostLink) : h.deferredHeld = slotNumbers.countP (deferredAt h.slots) :=
  (List.countP_eq_length_filter ..).symm

theorem deferredAt_set {slots : Vector (Option InboxRequest) 4} {i j : Fin 4} {q : Option InboxRequest} :
    deferredAt (slots.set i q) j = if i = j then (q.map InboxRequest.deferred).getD false else deferredAt slots j := by
  unfold deferredAt
  by_cases hij : i = j
  · subst hij
    cases q <;> simp
  · have hne : i.val ≠ j.val := fun e => hij (Fin.ext e)
    simp [hij, Vector.getElem_set_ne _ _ hne]

/-- A slot that comes to hold no deferred request adds none. -/
theorem countP_deferred_set_le (slots : Vector (Option InboxRequest) 4) (i : Fin 4) {q : Option InboxRequest}
    (hq : (q.map InboxRequest.deferred).getD false = false) :
    slotNumbers.countP (deferredAt (slots.set i q)) ≤ slotNumbers.countP (deferredAt slots) := by
  refine List.countP_mono_left fun j _ hj => ?_
  rw [deferredAt_set, hq] at hj
  split at hj
  · cases hj
  · exact hj

/-- A slot adds at most one. -/
theorem countP_deferred_set_le_succ (slots : Vector (Option InboxRequest) 4) (i : Fin 4) (q : Option InboxRequest) :
    slotNumbers.countP (deferredAt (slots.set i q)) ≤ slotNumbers.countP (deferredAt slots) + 1 := by
  have hsum (p : Fin 4 → Bool) : slotNumbers.countP p = (p 0).toNat + (p 1).toNat + (p 2).toNat + (p 3).toNat := by
    simp only [slotNumbers, List.countP_cons, List.countP_nil, Bool.toNat, Bool.cond_eq_ite]
    omega
  have heach (j : Fin 4) : (deferredAt (slots.set i q) j).toNat ≤ (deferredAt slots j).toNat + if i = j then 1 else 0 := by
    rw [deferredAt_set]
    split
    · exact (Bool.toNat_le _).trans (Nat.le_add_left ..)
    · exact Nat.le_add_right ..
  have hone : (if i = 0 then 1 else 0) + (if i = 1 then 1 else 0) + (if i = 2 then 1 else 0) + (if i = 3 then 1 else 0) = 1 := by
    fin_cases i <;> rfl
  have h0 := heach 0
  have h1 := heach 1
  have h2 := heach 2
  have h3 := heach 3
  rw [hsum, hsum]
  omega


/-! ### What the operations of the host link leave -/

theorem HostLink.fits_ready {s : State} {r : Reply} (h : s.hli.fits) (hb : (s.ready r).hli.busyWaiting ≤ 4) : (s.ready r).hli.fits := by
  obtain ⟨-, hordered, hslots, -, -, -, -⟩ := State.ready_spec r s h.1
  refine ⟨hordered, hb, ?_⟩
  rw [HostLink.deferredHeld, hslots]
  exact h.2.2

/-- A reply adds at most itself to the BUSY replies that wait. -/
theorem State.ready_busyWaiting (r : Reply) (s : State) :
    (s.ready r).hli.busyWaiting ≤ s.hli.busyWaiting + if r.slot.isNone then 1 else 0 := by
  unfold State.ready
  split
  · exact Nat.le_add_right ..
  · simp only [State.setHli_hli, HostLink.busyWaiting, List.filter_append, List.length_append]
    cases hr : r.slot.isNone <;> simp [hr]

theorem HostLink.fits.ready {s : State} {r : Reply} (h : s.hli.fits) (hr : r.slot.isSome = true) : (s.ready r).hli.fits := by
  have hb := State.ready_busyWaiting r s
  rw [if_neg (by rw [Option.isNone_iff_eq_none]; exact Option.isSome_iff_ne_none.mp hr)] at hb
  exact HostLink.fits_ready h (hb.trans h.2.1)

theorem HostLink.fits.answerBusy {s : State} (h : s.hli.fits) (tag kind : Byte) : (s.answerBusy tag kind).hli.fits := by
  unfold State.answerBusy
  split
  · exact h
  · next hlt =>
    have hb : (s.ready ⟨tag, kind, [stBusy], none⟩).hli.busyWaiting ≤ s.hli.busyWaiting + 1 := State.ready_busyWaiting ..
    exact HostLink.fits_ready h (by omega)

theorem State.ready_access (r : Reply) (s : State) : (s.ready r).hli.access = s.hli.access := by
  unfold State.ready
  split <;> rfl

/-- A request takes a slot: no deferred one is added, or one where fewer than two are held. -/
theorem HostLink.fits.takeSlot {s : State} (h : s.hli.fits) (i : Fin 4) {q : InboxRequest}
    (hq : q.deferred = false ∨ s.hli.deferredHeld < 2) : (s.takeSlot i q).hli.fits := by
  refine ⟨h.1, h.2.1, ?_⟩
  have hheld := h.2.2
  rw [HostLink.deferredHeld_eq] at hheld hq ⊢
  rcases hq with hq | hq
  · exact (countP_deferred_set_le s.hli.slots i (q := some q) hq).trans hheld
  · exact (countP_deferred_set_le_succ s.hli.slots i (some q)).trans hq

theorem HostLink.fits.endReply {s : State} (h : s.hli.fits) : s.endReply.hli.fits := by
  obtain ⟨hordered, hbusy, hheld⟩ := h
  unfold State.endReply
  split
  · exact ⟨hordered, hbusy, hheld⟩
  · next r _ =>
    rw [State.slowDown_hli]
    refine ⟨fun hn => ?_, (List.Sublist.length_le ((List.tail_sublist _).filter _)).trans hbusy, ?_⟩
    · have hempty : s.hli.waiting = [] := List.head?_eq_none_iff.mp hn
      simp [hempty]
    · rw [HostLink.deferredHeld_eq] at hheld ⊢
      cases hr : r.slot with
      | none => simpa [hr, freed] using hheld
      | some i => simpa [hr, freed] using (countP_deferred_set_le s.hli.slots i (q := none) rfl).trans hheld

theorem HostLink.woken_fits (h : HostLink) : h.woken.fits := ⟨fun _ => rfl, Nat.zero_le _, Nat.zero_le 2⟩

namespace KeepsLaws
variable {s t u : State}

/-- The level and the counts of a link. -/
theorem setHli {x : HostLink} (h : KeepsLaws s t) (ha : x.access = t.hli.access := by rfl) (hr : t.hli.fits → x.fits := by exact id) :
    KeepsLaws s (t.setHli x) := h.hliStep (by simp (disch := decide)) ha hr

theorem ready {r} (h : KeepsLaws s t) (hr : r.slot.isSome = true := by rfl) : KeepsLaws s (t.ready r) :=
  h.hliStep (by simp (disch := decide)) (State.ready_access r t) (·.ready hr)

theorem answerBusy {tag kind} (h : KeepsLaws s t) : KeepsLaws s (t.answerBusy tag kind) :=
  h.hliStep (by simp (disch := decide)) (by unfold State.answerBusy; split <;> simp [State.ready_access]) (·.answerBusy tag kind)

theorem takeSlot {i tag kind} (h : KeepsLaws s t) : KeepsLaws s (t.takeSlot i ⟨tag, kind, false⟩) :=
  h.hliStep (by simp (disch := decide)) rfl (·.takeSlot i (.inl rfl))

theorem endReply (h : KeepsLaws s t) : KeepsLaws s t.endReply :=
  h.hliStep (by simp (disch := decide)) (by unfold State.endReply; split <;> simp) (·.endReply)

theorem releaseReply {st c e} (h : KeepsLaws s t) : KeepsLaws s (t.releaseReply st c e) := by
  unfold State.releaseReply
  split
  · exact h.ready
  · exact h
  · exact h

theorem dropWaiting {picks code} (h : KeepsLaws s t) : KeepsLaws s (t.dropWaiting picks code) :=
  foldl (fun _ _ hu => hu.releaseReply) _ h.setNlc

theorem rejoinLink (h : KeepsLaws s t) : KeepsLaws s t.rejoinLink := foldl (fun _ _ hu => hu.releaseReply) _ h.setNlc

/-- The access level is one that the pin and the mode allow, or DRIVE. -/
theorem setAccess {a : Access} (h : KeepsLaws s t) (ha : a = .service → t.mode = .standby ∧ t.svc = true) :
    KeepsLaws s (t.setAccess a) := by
  have hf : OnlyChanges (.hli :: unread) t (t.setAccess a) := by unfold State.setAccess; simp (disch := decide)
  exact h.trans ⟨fun _ => ha, id, .frame hf, .frame hf, .frame hf, .frame hf, .frame hf, .frame hf, .frame hf⟩

/-- A mode that is entered takes the level to DRIVE, unless it is STANDBY (R215). -/
theorem enterMode {m : Mode} (h : KeepsLaws s t) : KeepsLaws s (t.enterMode m) := by
  have hf : OnlyChanges (.mode :: .hli :: unread) t (t.enterMode m) := by simp (disch := decide)
  obtain ⟨hmode, -, hhli⟩ := State.enterMode_spec m t
  refine h.trans ⟨fun hl => ?_, fun hl => ?_, .frame hf, .frame hf, .frame hf, .frame hf, .frame hf, .frame hf, .frame hf⟩
  · intro hservice
    split at hhli
    · next hm => exact ⟨hmode.trans hm, (hf .svc (by decide)).trans (hl (hhli ▸ hservice)).2⟩
    · rw [hhli] at hservice
      cases hservice
  · rw [replyLaw_iff, hhli]
    split <;> exact hl

theorem svcFalls (h : KeepsLaws s t) : KeepsLaws s t.svcFalls := by
  have hf : OnlyChanges (.svc :: .hli :: unread) t t.svcFalls := by unfold State.svcFalls State.setAccess; simp (disch := decide)
  exact h.trans ⟨fun _ hc => (by cases hc), id, .frame hf, .frame hf, .frame hf, .frame hf, .frame hf, .frame hf, .frame hf⟩

theorem setSvc_high (h : KeepsLaws s t) : KeepsLaws s (t.setSvc true) := by
  have hf : OnlyChanges (.svc :: unread) t (t.setSvc true) := by simp (disch := decide)
  exact h.trans ⟨fun hl hc => ⟨(hl hc).1, rfl⟩, .frame hf, .frame hf, .frame hf, .frame hf, .frame hf, .frame hf, .frame hf,
    .frame hf⟩

end KeepsLaws

/-! ## 3. The event log, the fault list, the wear items: one block each -/

/-! ### The ring (R114) -/

theorem RingLaw.enter {s t : State} (h : RingLaw s) {r : EventRecord} (hr : r.seq = s.log.next) (ht : t.log = s.log.enter r) :
    RingLaw t := by
  obtain ⟨hlen, hnext, hseq⟩ := h
  refine ⟨ht ▸ EventLog.enter_length r s.log hlen, ?_, ?_⟩
  · rw [ht]
    unfold EventLog.enter ringSize
    split
    · simp [hnext, BitVec.ofNat_add, BitVec.add_assoc]
    · next hfull =>
      have hl : s.log.ring.length = 32 := by omega
      simp [hnext, hl]
      bv_omega
  · intro n x hx
    rw [ht] at hx ⊢
    unfold EventLog.enter ringSize at hx ⊢
    split at hx
    · next hroom =>
      rw [if_pos hroom]
      rcases Nat.lt_or_ge n s.log.ring.length with hn | hn
      · exact hseq n x (by simpa [List.getElem?_append_left hn] using hx)
      · obtain ⟨rfl, rfl⟩ : n = s.log.ring.length ∧ r = x := by
          rw [List.getElem?_append_right hn, List.getElem?_singleton] at hx
          split at hx
          · exact ⟨by omega, Option.some.inj hx⟩
          · cases hx
        exact hr.trans hnext
    · next hfull =>
      have hl : s.log.ring.length = 32 := by omega
      rw [if_neg hfull]
      rcases Nat.lt_or_ge n 31 with hn | hn
      · have hx' : s.log.ring[n + 1]? = some x := by
          simpa [List.getElem?_append_left (show n < s.log.ring.tail.length by simp; omega), List.getElem?_tail] using hx
        rw [hseq _ _ hx']
        simp [BitVec.ofNat_add]
        bv_omega
      · obtain ⟨rfl, rfl⟩ : n = 31 ∧ r = x := by
          rw [List.getElem?_append_right (by simp; omega), List.getElem?_singleton, List.length_tail] at hx
          split at hx
          · exact ⟨by omega, Option.some.inj hx⟩
          · cases hx
        rw [hr, hnext, hl]
        simp
        bv_omega

/-! ### The fault list (R190, R193, R195) -/

/-- An entry of the list as the law asks. -/
def ActiveFault.fits (e : ActiveFault) : Prop :=
  (e.kind.minLevel.code ≤ e.level.code ∧ 64 ≤ e.factor ∧ e.factor ≤ 255) ∧ (e.kind.latched = false → e.causePresent = true)

/-- A response table entry as the law asks. -/
def Response.fits (k : FaultKind) (r : Response) : Prop := k.minLevel.code ≤ r.level.code ∧ 64 ≤ r.factor ∧ r.factor ≤ 255

/-- The fault list and its response table as the law asks. -/
structure FaultUnit.fits (f : FaultUnit) : Prop where
  oneEach : (f.active.map ActiveFault.kind).Nodup
  table : ∀ k, (f.response k).fits k
  entries : ∀ e ∈ f.active, e.fits

theorem faultLaw_iff {s : State} : FaultLaw s ↔ s.faults.fits :=
  ⟨fun h => ⟨h.oneEach, h.table, fun e he => ⟨h.entries e he, h.self e he⟩⟩,
    fun h => ⟨h.oneEach, h.table, fun e he => (h.entries e he).1, fun e he => (h.entries e he).2⟩⟩

namespace FaultUnit.fits
variable {f : FaultUnit} {k : FaultKind}

/-- A change of entries that leaves their kinds. -/
theorem map {g : ActiveFault → ActiveFault} (h : f.fits) (hk : ∀ e, (g e).kind = e.kind) (hg : ∀ e ∈ f.active, e.fits → (g e).fits) :
    FaultUnit.fits { f with active := f.active.map g } := by
  refine ⟨?_, h.table, fun e he => ?_⟩
  · have hkinds : ActiveFault.kind ∘ g = ActiveFault.kind := funext hk
    simpa [hkinds] using h.oneEach
  · obtain ⟨x, hx, rfl⟩ := List.mem_map.mp he
    exact hg x hx (h.entries x hx)

theorem addRaise (h : f.fits) (detail : Nat) (now : Time) : (f.addRaise k detail now).fits := by
  unfold FaultUnit.addRaise
  split
  · next hn =>
    have hnew : ∀ e ∈ f.active, e.kind ≠ k := by simpa [FaultUnit.entry] using hn
    refine ⟨?_, h.table, fun e he => ?_⟩
    · simp only [List.map_append, List.map_cons, List.map_nil]
      refine List.nodup_append.mpr ⟨h.oneEach, List.nodup_singleton _, fun x hx y hy hxy => ?_⟩
      obtain ⟨e, he, rfl⟩ := List.mem_map.mp hx
      exact hnew e he (hxy.trans (List.mem_singleton.mp hy))
    · rcases List.mem_append.mp he with he | he
      · exact h.entries e he
      · rw [List.mem_singleton.mp he]
        exact ⟨h.table k, fun _ => rfl⟩
  · refine h.map (fun e => by split <;> rfl) fun e _ hfit => ?_
    split
    · exact ⟨hfit.1, fun _ => rfl⟩
    · exact hfit

theorem remove (h : f.fits) : (f.remove k).fits :=
  ⟨h.oneEach.sublist ((List.filter_sublist).map _), h.table, fun e he => h.entries e (List.mem_filter.mp he).1⟩

theorem dropCause (h : f.fits) (hk : k.latched = true) : (f.dropCause k).fits := by
  refine h.map (fun e => by split <;> rfl) fun e _ hfit => ?_
  split
  · next hkind => exact ⟨hfit.1, fun hself => by rw [hkind, hk] at hself; cases hself⟩
  · exact hfit

theorem setResponse {r : Response} (h : f.fits) (hr : r.fits k) : (f.setResponse k r).fits := by
  refine ⟨h.oneEach, fun j => ?_, h.entries⟩
  by_cases hj : j = k
  · rw [hj, FaultUnit.response_set_same]
    exact hr
  · rw [FaultUnit.response_set_other f r hj]
    exact h.table j

end FaultUnit.fits

theorem clampResponse_fits (k : FaultKind) (level : Level) (factor : Nat) : (clampResponse k level factor).fits k := by
  refine ⟨?_, Nat.le_max_left .., by simp only [clampResponse]; omega⟩
  simp only [clampResponse, Level.max]
  split
  · next hlt => exact hlt.le
  · exact le_rfl

/-- k stays between the least factor an entry may have and 256 (R195). -/
theorem effFactor_bounds {active : List ActiveFault} (h : ∀ e ∈ active, 64 ≤ e.factor) : 64 ≤ effFactor active ∧ effFactor active ≤ 256 := by
  have hfold : ∀ k, 64 ≤ k → k ≤ 256 → 64 ≤ active.foldl (fun k e => if e.scales then min k e.factor else k) k ∧
      active.foldl (fun k e => if e.scales then min k e.factor else k) k ≤ 256 := by
    induction active with
    | nil => exact fun k h₁ h₂ => ⟨h₁, h₂⟩
    | cons e es ih =>
      intro k h₁ h₂
      have he := h e (List.mem_cons_self ..)
      refine ih (fun x hx => h x (List.mem_cons_of_mem _ hx)) _ ?_ ?_ <;> dsimp only <;> split
      · exact le_min h₁ he
      · exact h₁
      · exact (min_le_left ..).trans h₂
      · exact h₂
  exact hfold 256 (by decide) le_rfl

namespace KeepsLaws
variable {s t u : State}

theorem logBlend {b} (h : KeepsLaws s t) : KeepsLaws s (t.logBlend b) := by
  refine h.logStep (by simp (disch := decide)) fun hl => ?_
  have hring : (t.log.take t.runTime b).ring = t.log.ring ∧ (t.log.take t.runTime b).next = t.log.next ∧
      (t.log.take t.runTime b).overwritten = t.log.overwritten := by
    unfold EventLog.take
    split
    · exact ⟨rfl, rfl, rfl⟩
    · split <;> exact ⟨rfl, rfl, rfl⟩
  obtain ⟨hr, hn, ho⟩ := hring
  exact ⟨by simpa [State.logBlend, hr] using hl.atMost32, by simpa [State.logBlend, hr, hn, ho] using hl.next,
    by simpa [State.logBlend, hr, ho] using hl.consecutive⟩

theorem closeEvent {r} (h : KeepsLaws s t) : KeepsLaws s (t.closeEvent r) := by
  unfold State.closeEvent
  split
  · exact h
  · exact (h.logStep (by simp (disch := decide)) (fun hl => hl.enter rfl rfl)).notify

theorem setFaults {x : FaultUnit} (h : KeepsLaws s t) (hx : t.faults.fits → x.fits) : KeepsLaws s (t.setFaults x) :=
  h.faultsStep (by simp (disch := decide)) fun hl => faultLaw_iff.mpr (hx (faultLaw_iff.mp hl))

/-- The mark of the reserve watch is no part of the list. -/
theorem setReserve {b : Bool} (h : KeepsLaws s t) : KeepsLaws s (t.setFaults { t.faults with reserve := b }) :=
  h.setFaults fun hf => ⟨hf.oneEach, hf.table, hf.entries⟩

theorem raiseCore {k d} (h : KeepsLaws s t) : KeepsLaws s (t.raiseCore k d) :=
  ite h ((h.setFaults fun hf => hf.addRaise d t.runTime).notify.noteRestriction)

theorem removeFault {k} (h : KeepsLaws s t) : KeepsLaws s (t.removeFault k) :=
  (h.setFaults fun hf => hf.remove).notify.noteRestriction

theorem endCause {k} (h : KeepsLaws s t) : KeepsLaws s (t.endCause k) := by
  unfold State.endCause
  split
  · exact h
  · split
    · exact h
    · split
      · next hk => exact h.setFaults fun hf => hf.dropCause hk
      · exact h.removeFault

theorem endCauses {ks} (h : KeepsLaws s t) : KeepsLaws s (t.endCauses ks) := foldl (fun _ _ hu => hu.endCause) _ h

theorem endReserve (h : KeepsLaws s t) : KeepsLaws s t.endReserve := h.setReserve.endCause

end KeepsLaws


/-! ## 4. Wear items and parameters -/

section
variable {s t u : State}

/-- What a state finds again for an item fits its thresholds (R166). -/
theorem State.itemFits_refound (s : State) (k : WearKind) (w : WearItem) : s.itemFits k (s.refound k w) := by
  unfold State.refound
  split
  · next hu => exact .inl hu
  · exact .inr rfl

theorem State.itemFits_of_par {k : WearKind} {w : WearItem} (hp : ∀ p, t.par p = s.par p) : t.itemFits k w ↔ s.itemFits k w := by
  rw [State.itemFits, State.itemFits, State.wearStateFor, State.wearStateFor, hp, hp]

theorem WearLaw.setWearItem {k : WearKind} {w : WearItem} (h : WearLaw s) (hw : s.itemFits k w) : WearLaw (s.setWearItem k w) := by
  refine wearLaw_iff.mpr fun j => ?_
  rw [State.itemFits_of_par (s := s) (t := s.setWearItem k w) fun _ => rfl]
  by_cases hj : j = k
  · rw [hj, State.wearItem_setWearItem_same]
    exact hw
  · rw [State.wearItem_setWearItem_other s w hj]
    exact wearLaw_iff.mp h j

/-- New contents of an item are those contents. -/
theorem State.wearItem_putWear_same (s : State) (k : WearKind) (w : WearItem) : (s.putWear k w).wearItem k = w := by
  unfold State.putWear
  split
  · exact State.wearItem_setWearItem_same s k w
  · exact State.wearItem_setWearItem_same s k w

theorem State.wearItem_putWear_other (s : State) {j k : WearKind} (w : WearItem) (h : j ≠ k) :
    (s.putWear k w).wearItem j = s.wearItem j := by
  unfold State.putWear
  split
  · exact State.wearItem_setWearItem_other s w h
  · exact State.wearItem_setWearItem_other s w h

theorem State.putWear_only (s : State) (k : WearKind) (w : WearItem) : OnlyChanges [.wear, .notices] s (s.putWear k w) := by
  simp (disch := decide)

/-- A fold over items that finds each again touches the listed items alone, and leaves them as their values stand. -/
theorem State.foldl_recheck_fits (l : List WearKind) (s : State) {k : WearKind} (hk : k ∈ l ∨ s.itemFits k (s.wearItem k)) :
    let t := l.foldl (fun s k => s.putWear k (s.refound k (s.wearItem k))) s
    t.itemFits k (t.wearItem k) := by
  induction l generalizing s with
  | nil => exact hk.resolve_left (by simp)
  | cons j l ih =>
    refine ih _ ?_
    have hpar := (s.putWear_only j (s.refound j (s.wearItem j))).par (by decide)
    by_cases hjk : k = j
    · right
      rw [State.itemFits_of_par hpar, hjk, State.wearItem_putWear_same]
      exact s.itemFits_refound j _
    · refine hk.imp (fun hm => (List.mem_cons.mp hm).resolve_left hjk) fun hfit => ?_
      rw [State.itemFits_of_par hpar, State.wearItem_putWear_other s _ hjk]
      exact hfit

/-- After a change of thresholds every item is found again, however it stood (R168). -/
theorem State.recheckWear_wearLaw (s : State) : WearLaw s.recheckWear :=
  wearLaw_iff.mpr fun k => State.foldl_recheck_fits allWear s (.inl (by cases k <;> decide))

/-- A value that is held to its range, and to its pair, is in its range (R217, R218). -/
theorem configValue_range (h : ParamLaw s) (p : Param) (v : Nat) :
    (paramRow p).lo ≤ configValue s.params p v ∧ configValue s.params p v ≤ (paramRow p).hi := by
  have hmMin := h.range .mMin
  have hmMax := h.range .mMax
  have hvLo := h.range .vLo
  have hvHi := h.range .vHi
  have hStart := h.range .socStart
  have hStop := h.range .socStop
  have hmass := h.mass
  have hfade := h.fade
  have hsoc := h.soc
  simp only [State.par, paramRow] at *
  cases p <;> simp only [configValue, crossClamp, rangeClamp, paramRow, max32] <;> omega

theorem ParamLaw.setParams (h : ParamLaw s) (p : Param) (v : Nat) :
    ParamLaw (s.setParams (setParam s.params p (configValue s.params p v))) := by
  have hself : (s.setParams (setParam s.params p (configValue s.params p v))).par p = configValue s.params p v :=
    getParam_setParam_same ..
  have hother : ∀ q, q ≠ p → (s.setParams (setParam s.params p (configValue s.params p v))).par q = s.par q :=
    fun q hq => getParam_setParam_other _ _ hq
  have hmass := h.mass
  have hfade := h.fade
  have hsoc := h.soc
  have hpair (a b : Param) (hab : a ≠ b) (d : Nat) (hle : s.par a + d ≤ s.par b)
      (ha : a = p → configValue s.params p v + d ≤ s.par b) (hb : b = p → s.par a + d ≤ configValue s.params p v) :
      (s.setParams (setParam s.params p (configValue s.params p v))).par a + d ≤
        (s.setParams (setParam s.params p (configValue s.params p v))).par b := by
    by_cases hap : a = p
    · rw [hap, hself, hother b (hap ▸ hab.symm)]
      exact ha hap
    · by_cases hbp : b = p
      · rw [hbp, hself, hother a hap]
        exact hb hbp
      · rw [hother a hap, hother b hbp]
        exact hle
  have hvHi := (h.range .vHi).1
  have hStop := h.range .socStart
  refine ⟨fun q => ?_, hpair .mMin .mMax (by decide) 0 hmass ?_ ?_, hpair .vLo .vHi (by decide) 100 hfade ?_ ?_,
    hpair .socStart .socStop (by decide) 100 hsoc ?_ ?_⟩
  · by_cases hq : q = p
    · rw [hq, hself]
      exact configValue_range h p v
    · rw [hother q hq]
      exact h.range q
  all_goals
    rintro rfl
    simp only [State.par, paramRow] at *
    simp only [configValue, crossClamp]
    omega

end

namespace KeepsLaws
variable {s t u : State}

/-- A change of the store's fields leaves the items. -/
theorem setWear {x : WearUnit} (h : KeepsLaws s t) (hx : x.items = t.wear.items := by rfl) : KeepsLaws s (t.setWear x) := by
  refine h.wearStep (by simp (disch := decide)) fun hl k => ?_
  have hitem : (t.setWear x).wearItem k = t.wearItem k := by simp [State.wearItem, hx]
  rw [hitem]
  exact hl k

theorem setWearItem {k w} (h : KeepsLaws s t) (hw : t.itemFits k w) : KeepsLaws s (t.setWearItem k w) :=
  h.wearStep (by simp (disch := decide)) (·.setWearItem hw)

theorem putWear {k w} (h : KeepsLaws s t) (hw : t.itemFits k w) : KeepsLaws s (t.putWear k w) :=
  ite (h.setWearItem hw) (h.setWearItem hw).notify

theorem accrue {k v r} (h : KeepsLaws s t) : KeepsLaws s (t.accrue k v r) := h.putWear (t.itemFits_refound k _)

theorem addEnergy {k a b} (h : KeepsLaws s t) : KeepsLaws s (t.addEnergy k a b) := h.accrue

theorem padAxle {l r ts j} (h : KeepsLaws s t) : KeepsLaws s (t.padAxle l r ts j) := by
  unfold State.padAxle
  exact h.addEnergy.addEnergy

theorem padWear {f r} (h : KeepsLaws s t) : KeepsLaws s (t.padWear f r) := by
  unfold State.padWear
  exact h.padAxle.padAxle

theorem batteryWear {r n} (h : KeepsLaws s t) : KeepsLaws s (t.batteryWear r n) := h.addEnergy

theorem startWear (h : KeepsLaws s t) : KeepsLaws s t.startWear := h.accrue

theorem WearUnit.items_trigger (w : WearUnit) (tr : Triggers) : (w.trigger tr).items = w.items := by
  unfold WearUnit.trigger
  split <;> rfl

theorem WearUnit.items_beginWaiting (w : WearUnit) : w.beginWaiting.items = w.items := by
  unfold WearUnit.beginWaiting
  split <;> rfl

theorem saveTrigger {tr} (h : KeepsLaws s t) : KeepsLaws s (t.saveTrigger tr) := h.setWear (WearUnit.items_trigger ..)

theorem beginWaiting (h : KeepsLaws s t) : KeepsLaws s t.beginWaiting := h.setWear (WearUnit.items_beginWaiting _)

theorem endSave {j r} (h : KeepsLaws s t) : KeepsLaws s (t.endSave j r) :=
  (h.setWear.notify).setWear (WearUnit.items_beginWaiting _)

theorem loadGood {bs} (h : KeepsLaws s t) : KeepsLaws s (t.loadGood bs) :=
  (foldl (fun _ _ hu => hu.setWearItem (.inr rfl)) _ h).setWear

theorem loadBad (h : KeepsLaws s t) : KeepsLaws s t.loadBad := h.setWear

theorem resetWear {k v} (h : KeepsLaws s t) : KeepsLaws s (t.resetWear k v) := by
  have hs := (h.putWear (k := k) (w := ⟨v, 0, t.wearStateFor k v, satAdd max16 (t.wearItem k).resets 1⟩) (.inr rfl)).saveTrigger
    (tr := ⟨true, false, false⟩)
  exact ite hs hs.endCause

/-- Both what the parameters hold and what the items' states follow. -/
theorem paramsStep (h : KeepsLaws s t) (hf : OnlyChanges (.params :: .wear :: unread) t u) (hp : ParamLaw t → ParamLaw u)
    (hw : WearLaw t → WearLaw u) : KeepsLaws s u :=
  h.trans ⟨.frame hf, .frame hf, .frame hf, .frame hf, hp, .frame hf, .frame hf, .frame hf, hw⟩

/-- A parameter that is no threshold moves no wear state. -/
theorem setParams {p v} (h : KeepsLaws s t) (hp : isThreshold p = false) :
    KeepsLaws s (t.setParams (setParam t.params p (configValue t.params p v))) := by
  refine h.paramsStep (by simp (disch := decide)) (·.setParams p v) fun hl k => ?_
  have hne : k.warnParam ≠ p ∧ k.limitParam ≠ p := by
    constructor <;> rintro rfl <;> cases k <;> cases hp
  have hfor : ∀ w, (t.setParams (setParam t.params p (configValue t.params p v))).wearStateFor k w = t.wearStateFor k w := fun w => by
    simp only [State.wearStateFor, State.par, State.setParams_params, getParam_setParam_other _ _ hne.1,
      getParam_setParam_other _ _ hne.2]
  rw [hfor]
  exact hl k

/-- A threshold has every state found again (R168). -/
theorem setThreshold {p v} (h : KeepsLaws s t) :
    KeepsLaws s (t.setParams (setParam t.params p (configValue t.params p v))).recheckWear :=
  h.paramsStep (by simp (disch := decide))
    (fun hl => (hl.setParams p v).frame (bs := [.wear, .notices]) (by simp (disch := decide)))
    fun _ => State.recheckWear_wearLaw _

end KeepsLaws

/-! ## 5. The node records -/

section
variable {s t u : State}

theorem PresenceLaw.setNode {n : NodeAddr} {r : NodeRecord} (h : PresenceLaw s) (hr : (s.node n).timersFit → r.timersFit) :
    PresenceLaw (s.setNode n r) := by
  refine presenceLaw_iff.mpr fun m => ?_
  by_cases hm : m = n
  · rw [hm, State.node_setNode_same]
    exact hr (presenceLaw_iff.mp h n)
  · rw [State.node_setNode_other s r hm]
    exact presenceLaw_iff.mp h m

theorem PresenceLaw.setNodes {x : NodeTable} (h : PresenceLaw s) (hx : ∀ n, (s.node n).timersFit → (x.get n).timersFit) :
    PresenceLaw (s.setNodes x) := fun n => hx n (presenceLaw_iff.mp h n)

end

theorem NodeRecord.timersFit_complete {c : Completion} {hold third : Bool} {r : NodeRecord} (h : r.timersFit) :
    (r.complete c hold third).timersFit := h

namespace KeepsLaws
variable {s t u : State}

theorem setNode {n r} (h : KeepsLaws s t) (hr : (t.node n).timersFit → r.timersFit := by exact id) : KeepsLaws s (t.setNode n r) :=
  h.nodesStep (by simp (disch := decide)) (·.setNode hr)

theorem setNodes {x} (h : KeepsLaws s t) (hx : ∀ n, (t.node n).timersFit → (x.get n).timersFit) : KeepsLaws s (t.setNodes x) :=
  h.nodesStep (by simp (disch := decide)) (·.setNodes hx)

/-- Storing a report leaves every record. -/
theorem storeReport {n p} (h : KeepsLaws s t) : KeepsLaws s (t.setNodes (t.nodes.store n p)) :=
  h.setNodes fun m hm => by rwa [NodeTable.get_store]

theorem parkNodes (h : KeepsLaws s t) : KeepsLaws s t.parkNodes :=
  (h.setNodes (x := .initial) fun n _ => by cases n <;> exact ⟨rfl, rfl⟩).endCauses

theorem settle {c b} (h : KeepsLaws s t) : KeepsLaws s (t.settle c b) := by
  unfold State.settle
  split
  · exact h
  · next e _ =>
    dsimp only
    have hn := h.setNode (n := e.target) (r := (t.node e.target).complete c (e.holds c (t.node e.target).presence) (e.thirdFailure c))
    have hr := ite (c := c = .nakInvalid) (hn.notify (k := .reject) (d := nodeCode e.target)) hn
    exact ite hr.setNlc.releaseReply hr.setNlc

theorem releaseHold {n} (h : KeepsLaws s t) : KeepsLaws s (t.releaseHold n) := ite h.setNode.setNlc.kick h

theorem nodeLostQueue {n} (h : KeepsLaws s t) : KeepsLaws s (t.nodeLostQueue n) := h.dropWaiting.setNode.setNlc.linkCheck

theorem parkLink (h : KeepsLaws s t) : KeepsLaws s t.parkLink := by
  unfold State.parkLink
  exact h.dropWaiting.setNlc.linkCheck

theorem haltLink (h : KeepsLaws s t) : KeepsLaws s t.haltLink := by
  unfold State.haltLink
  exact (h.dropWaiting.setNlc.offerHalt.offerHalt.offerHalt.offerHalt).linkCheck

theorem countReject {n} (h : KeepsLaws s t) : KeepsLaws s (t.countReject n) := by
  unfold State.countReject
  split
  · exact h
  · exact h.setNode

theorem endPresenceFaults {n} (h : KeepsLaws s t) : KeepsLaws s (t.endPresenceFaults n) := by
  cases n with
  | bat => exact h.endCauses
  | inv => exact h.endCause
  | eng => exact h.endCause
  | bkf => exact ite h h.endCause
  | bkr => exact ite h h.endCause
  | aux1 => exact h
  | aux2 => exact h

theorem becomePresent {n} (h : KeepsLaws s t) : KeepsLaws s (t.becomePresent n) :=
  have hn := h.setNode (n := n) (r := (t.node n).fresh t.runTime (t.par .tStale)) fun _ => ⟨rfl, rfl⟩
  ite (c := (t.node n).presence.overdue = true) hn.endPresenceFaults hn

end KeepsLaws


/-! ## 6. The engine machine -/

section
variable {s : State}

/-- The ESC as STOPPING is entered, but for the machine state (R152). -/
def State.stopOffered (s : State) : State :=
  let s := if s.esc.machine.inService then s.offerNoForce else s
  let s := (s.setEsc { s.esc with cooldownTimer := none, crankTimer := none, restTimer := none }).offerStop
  s.setEsc { s.esc with stopTimer := some (s.par .tStop), stopExpiries := 0 }

theorem State.enterStopping_eq (s : State) : s.enterStopping = s.stopOffered.setEngine .stopping := rfl

theorem State.stopOffered_only (s : State) : OnlyChanges [.nlc, .esc] s s.stopOffered := by
  unfold State.stopOffered State.offerNoForce State.offerStop
  simp (disch := decide)

theorem State.offer_esc (n : NodeAddr) (k : EntryKind) (p : List Byte) (o : Origin) (s : State) : (s.offer n k p o).esc = s.esc :=
  (State.frame_offer (bs := [.nlc]) n k p o (by simp)).mpr (.refl _ s) .esc (by decide)

theorem State.offer_par (n : NodeAddr) (k : EntryKind) (b : List Byte) (o : Origin) (s : State) (p : Param) :
    (s.offer n k b o).par p = s.par p :=
  ((State.frame_offer (bs := [.nlc]) n k b o (by simp)).mpr (.refl _ s)).par (by decide) p

theorem State.setEsc_par (x : EngineUnit) (s : State) (p : Param) : (s.setEsc x).par p = s.par p := rfl

theorem State.stopOffered_esc (s : State) :
    s.stopOffered.esc = { s.esc with cooldownTimer := none, crankTimer := none, restTimer := none,
                                     stopTimer := some (s.par .tStop), stopExpiries := 0 } := by
  unfold State.stopOffered State.offerNoForce State.offerStop
  dsimp only
  split <;> simp [State.offer_esc, State.offer_par, State.setEsc_par]

end

namespace KeepsLaws
variable {s t u : State}

theorem setEsc {x : EngineUnit} (h : KeepsLaws s t) (he : t.esc.timersFit → x.timersFit := by exact id)
    (hz : t.esc.crankFits → x.crankFits := by exact id) : KeepsLaws s (t.setEsc x) :=
  h.escStep (by simp (disch := decide)) he fun hl hzone => hz (hl hzone)

/-- The Demand Unit with the zone flag as it stands, or cleared. -/
theorem setDemand {x : DemandUnit} (h : KeepsLaws s t) (hz : x.zone = true → t.demand.zone = true := by exact id) :
    KeepsLaws s (t.setDemand x) := h.escStep (by simp (disch := decide)) id fun hl hzone => hl (hz hzone)

/-- A change of the machine state, with what has been made ready for it. -/
theorem thenEngine {m : EngineState} (h : KeepsLaws s t) (hf : OnlyChanges (.demand :: .esc :: unread) t u)
    (he : t.esc.timersFit → EngineUnit.timersFit { u.esc with machine := m })
    (hz : ZoneLaw t → u.demand.zone = true → EngineUnit.crankFits { u.esc with machine := m }) : KeepsLaws s (u.setEngine m) := by
  unfold State.setEngine
  dsimp only
  split
  · next hsame =>
    have heta : { u.esc with machine := m } = u.esc := by rw [← hsame]
    exact h.escStep hf (heta ▸ he) fun hl hzone => heta ▸ hz hl hzone
  · have hchanged : KeepsLaws s (u.setEsc { u.esc with machine := m, offDwell := if m = .off then 0 else u.esc.offDwell }) :=
      h.escStep (by simpa (disch := decide) using hf) he hz
    have hnoted := hchanged.notify (k := .engine) (d := m.code)
    have hended := ite (c := u.esc.machine = .fault) (hnoted.endCauses (ks := [.crankFail, .stopFail])) hnoted
    exact ite hended.setProgress.saveTrigger hended

/-- A change of the machine state with no crank behind it. -/
theorem setEngine {m : EngineState} {x : EngineUnit} (h : KeepsLaws s t)
    (he : t.esc.timersFit → EngineUnit.timersFit { x with machine := m })
    (hm : m ≠ .cranking ∧ m ≠ .retryWait := by decide) : KeepsLaws s ((t.setEsc x).setEngine m) :=
  h.thenEngine (by simp (disch := decide)) he fun _ _ hc => absurd hc (by simp [hm.1, hm.2])

theorem offerStart (h : KeepsLaws s t) : KeepsLaws s t.offerStart := ite h.offer.startWear h.offer

/-- From any machine state: STOPPING starts its own timer and stops the others. -/
theorem stopsFrom (h : KeepsLaws s t) (hf : OnlyChanges (.demand :: .esc :: unread) t u) : KeepsLaws s u.enterStopping := by
  rw [State.enterStopping_eq]
  refine h.thenEngine ?_ (fun _ => ?_) fun _ _ hc => by rcases hc with hc | hc <;> cases hc
  · exact hf.trans (u.stopOffered_only.mono (by decide))
  · rw [State.stopOffered_esc]
    exact ⟨rfl, rfl, rfl, rfl⟩

theorem enterStopping (h : KeepsLaws s t) : KeepsLaws s t.enterStopping := h.stopsFrom (.refl _ t)

theorem enterCooldown {c} (h : KeepsLaws s t) (hm : t.esc.machine.inService = true) : KeepsLaws s (t.enterCooldown c) := by
  have he : t.offerNoForce.esc = t.esc := State.offer_esc ..
  have hcool : KeepsLaws s ((t.offerNoForce.setEsc { t.offerNoForce.esc with
      stopCause := some c, cooldownTimer := some (t.offerNoForce.par .tCool * 1000) }).setEngine .cooldown) := by
    refine h.offerNoForce.setEngine fun hl => ?_
    rw [he] at hl ⊢
    obtain ⟨hcrank, hrest, -, hstop⟩ := hl
    cases hmach : t.esc.machine <;> simp [hmach, EngineState.inService] at hm
    all_goals simp_all [EngineUnit.timersFit]
  exact ite hcool.enterStopping hcool

theorem abandonCrank {c} (h : KeepsLaws s t) : KeepsLaws s (t.abandonCrank c) := h.stopsFrom (by simp (disch := decide))

theorem enterCranking {c} (h : KeepsLaws s t) (hm : t.esc.machine = .off) (hc : t.demand.zone = true → c = .hostOverride) :
    KeepsLaws s (t.enterCranking c) := by
  have hf : OnlyChanges [.nlc, .wear, .notices] t t.offerStart := by simp (disch := decide)
  have he : t.offerStart.esc = t.esc := hf .esc (by decide)
  have hd : t.offerStart.demand = t.demand := hf .demand (by decide)
  refine h.offerStart.thenEngine (by simp (disch := decide)) (fun hl => ?_) fun _ hzone _ => ?_
  · simp only [State.setEsc_esc]
    rw [he] at hl ⊢
    simp_all [EngineUnit.timersFit]
  · exact congrArg some (hc (hd ▸ hzone))

theorem stopRunning {c i} (h : KeepsLaws s t) (hm : t.esc.machine.inService = true) : KeepsLaws s (t.stopRunning c i) :=
  ite (h.stopsFrom (by simp (disch := decide))) (h.enterCooldown hm)

theorem stopCranking {c} (h : KeepsLaws s t) : KeepsLaws s (t.stopCranking c) := by
  cases c with
  | auto => exact h
  | zone => exact ite h h.abandonCrank
  | _ => exact h.abandonCrank

theorem stopCooling {c i} (h : KeepsLaws s t) : KeepsLaws s (t.stopCooling c i) := by
  cases c with
  | auto => exact h
  | host => exact ite (h.stopsFrom (by simp (disch := decide))) h
  | _ => exact h.setEsc

theorem stopCause {c i} (h : KeepsLaws s t) : KeepsLaws s (t.stopCause c i) := by
  unfold State.stopCause
  split
  · next hm => exact h.stopRunning (by rw [hm]; rfl)
  · next hm => exact h.stopRunning (by rw [hm]; rfl)
  · exact h.stopCranking
  · exact h.stopCranking
  · exact h.stopCooling
  · exact h.setEsc
  · exact h
  · exact h

theorem safeCause (h : KeepsLaws s t) : KeepsLaws s t.safeCause := ite h.stopCause h

theorem returnToRun (h : KeepsLaws s t) (hm : t.esc.machine = .cooldown) : KeepsLaws s t.returnToRun :=
  h.setEngine fun hl => by simp_all [EngineUnit.timersFit]

theorem evaluateStart (h : KeepsLaws s t) : KeepsLaws s t.evaluateStart := by
  unfold State.evaluateStart
  split
  · next hm =>
    split
    · split
      · next ha =>
        refine h.enterCranking hm fun hzone => ?_
        simp [State.startAllowed, hzone] at ha
      · exact h
    · exact h
  · next hm => exact ite (h.returnToRun hm) h
  all_goals exact h

theorem elapsedHandOn (h : KeepsLaws s t) : KeepsLaws s t.elapsedHandOn := ite h.evaluateStart.stopCause h.evaluateStart

theorem scheduleDue (h : KeepsLaws s t) : KeepsLaws s t.scheduleDue := (ite h h.setEsc).evaluateStart

theorem putSchedule {sch} (h : KeepsLaws s t) : KeepsLaws s (t.putSchedule sch) := ite h.setEsc.scheduleDue h.setEsc

theorem scheduleStop (h : KeepsLaws s t) : KeepsLaws s t.scheduleStop := by
  unfold State.scheduleStop
  split
  · exact h
  · exact ite h.putSchedule h

theorem scheduleMetres {n} (h : KeepsLaws s t) : KeepsLaws s (t.scheduleMetres n) := by
  unfold State.scheduleMetres
  split
  · exact h
  · exact ite h.putSchedule h

/-! ### Braking, and raises -/

theorem offerBlend {r} (h : KeepsLaws s t) : KeepsLaws s (t.offerBlend r) := h.offer.offer.offer

theorem raiseWith {cut : State → State} {k d} (hcut : ∀ u, KeepsLaws s u → KeepsLaws s (cut u)) (h : KeepsLaws s t) :
    KeepsLaws s (t.raiseWith cut k d) := ite (hcut _ h.raiseCore).safeCause h.raiseCore

theorem saturation {cut : State → State} {r} (hcut : ∀ u, KeepsLaws s u → KeepsLaws s (cut u)) (h : KeepsLaws s t) :
    KeepsLaws s (t.saturation cut r) := ite (raiseWith hcut h.setBbu) (ite h.setBbu.endCause h)

theorem applyBlend {cut : State → State} {slipCut dt r} (hcut : ∀ u, KeepsLaws s u → KeepsLaws s (cut u)) (h : KeepsLaws s t) :
    KeepsLaws s (t.applyBlend cut slipCut dt r) :=
  have hw := h.setBbu.offerBlend.padWear
  saturation hcut (ite hw hw.logBlend)

theorem cutReblend {slipCut} (h : KeepsLaws s t) : KeepsLaws s (t.cutReblend slipCut) := ite (applyBlend (fun _ => id) h) h

theorem heldBlend (h : KeepsLaws s t) : KeepsLaws s t.heldBlend := ite (applyBlend (fun _ => cutReblend) h) h

theorem demandBlend {dt} (h : KeepsLaws s t) : KeepsLaws s (t.demandBlend dt) := applyBlend (fun _ => cutReblend) h

theorem raise {k d} (h : KeepsLaws s t) : KeepsLaws s (t.raise k d) := raiseWith (fun _ => cutReblend) h

theorem leaveBraking {r} (h : KeepsLaws s t) : KeepsLaws s (t.leaveBraking r) :=
  have hc := h.setBbu.closeEvent
  (ite hc.setBbu.endCause hc).setBbu

theorem slipReport (h : KeepsLaws s t) : KeepsLaws s t.slipReport := ite h h.setBbu.cutReblend

theorem reserveWatch (h : KeepsLaws s t) : KeepsLaws s t.reserveWatch := by
  unfold State.reserveWatch
  split
  · exact h
  · exact ite h (ite (ite h.setReserve.endCause h) (ite h.setReserve.raise h))

/-! ### Propulsion -/

theorem updateElapsed {dt} (h : KeepsLaws s t) : KeepsLaws s (t.updateElapsed dt) := h.setPsu.elapsedHandOn

theorem demandSplit {dt} (h : KeepsLaws s t) : KeepsLaws s (t.demandSplit dt) := h.setSplit.offer.offer.updateElapsed

theorem brakingHandOn {dt} (h : KeepsLaws s t) : KeepsLaws s (t.brakingHandOn dt) := h.setSplit.offer.updateElapsed

theorem heldSplit (h : KeepsLaws s t) : KeepsLaws s t.heldSplit := (ite h.setSplit.offer h.setSplit).offer.updateElapsed

/-! ### What reaches the engine -/

theorem startSucceeds {c} (h : KeepsLaws s t) (hm : t.esc.machine = .cranking ∨ t.esc.machine = .retryWait) :
    KeepsLaws s (t.startSucceeds c) := by
  unfold State.startSucceeds State.runningState
  split <;> exact h.setEngine fun hl => by rcases hm with hm | hm <;> simp_all [EngineUnit.timersFit]

theorem attemptFails (h : KeepsLaws s t) (hm : t.esc.machine = .cranking) : KeepsLaws s t.attemptFails := by
  unfold State.attemptFails
  split
  · refine h.thenEngine (by simp (disch := decide)) (fun hl => ?_) fun hl hzone _ => hl hzone (.inl hm)
    simp_all [EngineUnit.timersFit]
  · refine (h.setEngine fun hl => ?_).raise
    simp_all [EngineUnit.timersFit]

theorem stall (h : KeepsLaws s t) (hm : t.esc.machine.inService = true ∨ t.esc.machine = .cooldown) : KeepsLaws s t.stall := by
  have hforce : ∀ u, KeepsLaws s u → u.esc = t.esc →
      KeepsLaws s ((u.setEsc { u.esc with cooldownTimer := none, stopCause := none, latch := none }).setEngine .off) := by
    intro u hu he
    refine hu.setEngine fun hl => ?_
    rw [he] at hl ⊢
    cases hmach : t.esc.machine <;> simp [hmach, EngineState.inService] at hm
    all_goals simp_all [EngineUnit.timersFit]
  unfold State.stall
  dsimp only
  split
  · exact hforce _ h.offerNoForce (State.offer_esc ..)
  · exact hforce _ h rfl

theorem reportedEngineFault (h : KeepsLaws s t)
    (hm : t.esc.machine.inService = true ∨ t.esc.machine = .cooldown ∨ t.esc.machine = .stopping) :
    KeepsLaws s t.reportedEngineFault := by
  have hforce : ∀ u, KeepsLaws s u → u.esc = t.esc → KeepsLaws s ((u.setEsc { u.esc with
      cooldownTimer := none, stopTimer := none, stopCause := none, latch := none }).setEngine .fault) := by
    intro u hu he
    refine hu.setEngine fun hl => ?_
    rw [he] at hl ⊢
    cases hmach : t.esc.machine <;> simp [hmach, EngineState.inService] at hm
    all_goals simp_all [EngineUnit.timersFit]
  unfold State.reportedEngineFault
  dsimp only
  split
  · exact hforce _ h.offerNoForce (State.offer_esc ..)
  · exact hforce _ h rfl

end KeepsLaws

section
variable {s : State}

/-- The ESC after a change of the machine state: that state, and the off-dwell from 0 where OFF is entered (R140). -/
theorem State.setEngine_esc (m : EngineState) (s : State) :
    (s.setEngine m).esc =
      { s.esc with machine := m, offDwell := if s.esc.machine ≠ m ∧ m = .off then 0 else s.esc.offDwell } := by
  unfold State.setEngine
  dsimp only
  split
  · next hsame => simp [← hsame]
  · next hne =>
    have hrest : ∀ u : State, OnlyChanges [.progress, .wear, .faults, .notices]
        u (if (if s.esc.machine = .fault then u.endCauses [.crankFail, .stopFail] else u).waitsForEngine m
          then (if s.esc.machine = .fault then u.endCauses [.crankFail, .stopFail] else u).endEngineWait
          else if s.esc.machine = .fault then u.endCauses [.crankFail, .stopFail] else u) := fun u => by
      unfold State.endEngineWait
      simp (disch := decide)
    refine (hrest _ .esc (by decide)).trans ?_
    simp [State.notify, hne]

/-- A change of the ESC moves past an offer, which does not read it. -/
theorem State.setEsc_offer (x : EngineUnit) (n : NodeAddr) (k : EntryKind) (b : List Byte) (o : Origin) (s : State) :
    (s.setEsc x).offer n k b o = (s.offer n k b o).setEsc x := by
  have hstart : ∀ u : State, (u.setEsc x).startFrame = u.startFrame.setEsc x := fun u => by
    unfold State.startFrame
    rw [State.setEsc_nlc]
    cases u.nlc.queue.find? Entry.sendable <;> rfl
  have hkick : ∀ u : State, (u.setEsc x).kick = u.kick.setEsc x := fun u => by
    unfold State.kick
    rw [apply_ite (fun u : State => u.setEsc x), ← hstart]
    rfl
  unfold State.offer State.offerAt
  rw [apply_ite (fun u : State => u.setEsc x), apply_ite (fun u : State => u.setEsc x), ← hkick]
  rfl

/-- A change of the ESC moves past the offer and the count of a start. -/
theorem State.setEsc_offerStart (x : EngineUnit) (s : State) : (s.setEsc x).offerStart = s.offerStart.setEsc x := by
  have htakes : (s.setEsc x).takes .eng = s.takes .eng := rfl
  have hwear : ∀ u : State, (u.setEsc x).startWear = u.startWear.setEsc x := fun u => by
    unfold State.startWear State.accrue State.putWear
    rw [apply_ite (fun u : State => u.setEsc x)]
    rfl
  unfold State.offerStart
  rw [apply_ite (fun u : State => u.setEsc x), ← hwear, ← State.setEsc_offer, htakes]

theorem State.setEngine_demand (m : EngineState) (s : State) : (s.setEngine m).demand = s.demand :=
  (State.frame_setEngine (bs := [.progress, .esc, .wear, .faults, .notices]) m (by simp)).mpr (.refl _ s) .demand (by decide)

end

namespace KeepsLaws
variable {s t u : State}

theorem stopEnds (h : KeepsLaws s t) (hm : t.esc.machine = .stopping) : KeepsLaws s t.stopEnds := by
  have hoff : KeepsLaws s ((t.setEsc { t.esc with stopTimer := none, stopCause := none, latch := none }).setEngine .off) :=
    h.setEngine fun hl => by simp_all [EngineUnit.timersFit]
  unfold State.stopEnds
  dsimp only
  split
  · next override _ =>
    split
    · next hallowed =>
      refine hoff.enterCranking (by rw [State.setEngine_esc]) fun hzone => ?_
      cases override with
      | true => rfl
      | false => simp [State.latchAllowed, hzone] at hallowed
    · exact hoff
  · exact hoff.evaluateStart

theorem reportInWarmup {r} (h : KeepsLaws s t) (hm : t.esc.machine = .warmup) : KeepsLaws s (t.reportInWarmup r) := by
  have hin : t.esc.machine.inService = true := by rw [hm]; rfl
  unfold State.reportInWarmup
  split
  · exact h.stall (.inl hin)
  · exact h.reportedEngineFault (.inl hin)
  · refine ite (h.thenEngine (.refl _ t) (fun hl => ?_) fun _ _ hc => by rcases hc with hc | hc <;> cases hc) h
    simp_all [EngineUnit.timersFit]
  · exact h
  · exact h

theorem reportInRun {r} (h : KeepsLaws s t) (hm : t.esc.machine.inService = true ∨ t.esc.machine = .cooldown) :
    KeepsLaws s (t.reportInRun r) := by
  unfold State.reportInRun
  split
  · exact h.stall hm
  · exact h.reportedEngineFault (hm.imp_right .inl)
  all_goals exact h

theorem reportInStopping {r} (h : KeepsLaws s t) (hm : t.esc.machine = .stopping) : KeepsLaws s (t.reportInStopping r) := by
  unfold State.reportInStopping
  split
  · exact h.stopEnds hm
  · exact h.reportedEngineFault (.inr (.inr hm))
  all_goals exact h

theorem reportInCranking {r} (h : KeepsLaws s t) (hm : t.esc.machine = .cranking) : KeepsLaws s (t.reportInCranking r) := by
  unfold State.reportInCranking
  split
  · exact h.startSucceeds (.inl hm)
  · exact h.attemptFails hm
  all_goals exact h

theorem engineReport {r} (h : KeepsLaws s t) : KeepsLaws s (t.engineReport r) := by
  have hw : KeepsLaws s (t.setEsc { t.esc with window := false }) := h.setEsc
  unfold State.engineReport
  split
  · exact h
  · dsimp only
    split
    · next hm =>
      refine ite (hw.thenEngine (.refl _ _) (fun hl => ?_) fun _ _ hc => ?_) hw
      · unfold State.runningState
        split <;> simp_all [EngineUnit.timersFit]
      · unfold EngineUnit.crankFits State.runningState at *
        split at hc <;> rcases hc with hc | hc <;> cases hc
    · next hm => exact hw.reportInCranking hm
    · next hm => exact ite (hw.startSucceeds (.inr hm)) hw
    · next hm => exact hw.reportInWarmup hm
    · next hm => exact hw.reportInRun (.inl (by rw [hm]; rfl))
    · next hm => exact hw.reportInRun (.inr hm)
    · next hm => exact hw.reportInStopping hm
    · exact hw

theorem engineLost (h : KeepsLaws s t) : KeepsLaws s t.engineLost := by
  have hfault : ∀ u, KeepsLaws s u → KeepsLaws s ((u.setEsc { u.esc with
      crankTimer := none, restTimer := none, cooldownTimer := none, stopTimer := none, latch := none, crankCause := none,
      stopCause := none }).setEngine .fault) := fun u hu => hu.setEngine fun _ => ⟨rfl, rfl, rfl, rfl⟩
  unfold State.engineLost
  split
  · exact h
  · exact hfault _ (ite h.offerNoForce h)

theorem restExpires (h : KeepsLaws s t) (hm : t.esc.machine = .retryWait) : KeepsLaws s t.restExpires := by
  have hf : OnlyChanges [.nlc, .wear, .notices] t t.offerStart := by simp (disch := decide)
  have he : t.offerStart.esc = t.esc := hf .esc (by decide)
  unfold State.restExpires
  rw [State.setEsc_offerStart]
  refine h.offerStart.thenEngine (by simp (disch := decide)) (fun hl => ?_) fun hl hzone _ => ?_
  · simp only [State.setEsc_esc]
    rw [he] at hl
    simp_all [EngineUnit.timersFit]
  · exact he ▸ hl hzone (.inr (he ▸ hm))

theorem cooldownExpires (h : KeepsLaws s t) : KeepsLaws s t.cooldownExpires := h.stopsFrom (by simp (disch := decide))

theorem stopExpires (h : KeepsLaws s t) (hm : t.esc.machine = .stopping) : KeepsLaws s t.stopExpires := by
  have he : t.offerStop.esc = t.esc := State.offer_esc ..
  refine ite ?_ ?_
  · refine h.offerStop.setEsc (fun hl => ?_)
    rw [he] at hl ⊢
    simp_all [EngineUnit.timersFit]
  · exact (h.setEngine fun hl => by simp_all [EngineUnit.timersFit]).raise

end KeepsLaws


/-! ## 7. Reports, the demand stream, the modes, the node link -/

namespace KeepsLaws
variable {s t u : State}

/-- Stop cause ZONE as the flag is set: a crank that would break the zone law is abandoned (R19, R151, R156). -/
theorem zoneEntered (h : KeepsLaws s t) : KeepsLaws s ((t.setDemand { t.demand with zone := true }).stopCause .zone false) := by
  have hother (hc : t.esc.crankFits) : KeepsLaws s (t.setDemand { t.demand with zone := true }) :=
    h.escStep (by simp (disch := decide)) id fun _ _ => hc
  by_cases hcrank : t.esc.machine = .cranking ∨ t.esc.machine = .retryWait
  · by_cases hover : t.esc.crankCause = some .hostOverride
    · exact (hother fun _ => hover).stopCause
    · have habandon : (t.setDemand { t.demand with zone := true }).stopCause .zone false =
          (t.setDemand { t.demand with zone := true }).abandonCrank .zone := by
        unfold State.stopCause State.stopCranking
        rcases hcrank with hm | hm <;> simp [hm, hover]
      rw [habandon]
      exact h.stopsFrom (by simp (disch := decide))
  · exact (hother fun hc => absurd hc hcrank).stopCause

theorem hostStart {o} (h : KeepsLaws s t) (ho : t.demand.zone = true → o = true) : KeepsLaws s (t.hostStart o).state := by
  unfold State.hostStart
  split
  · next hm => exact iteTaken (h.enterCranking hm fun hz => by rw [ho hz]; rfl) h
  · exact h
  · exact h
  · exact h
  · exact h
  · next hm => exact iteTaken (h.returnToRun hm) h
  · exact h.setEsc
  · exact h

theorem takeEngineStart {d} (h : KeepsLaws s t) : KeepsLaws s (t.takeEngineStart d).state := by
  unfold State.takeEngineStart
  refine iteTaken h (iteTaken h ?_)
  split
  · exact h
  · next hzone => exact h.hostStart fun hz => by simpa [hz] using hzone

theorem leaveFault {m} (h : KeepsLaws s t) (hm : t.esc.machine = .fault) (hto : m = .off ∨ m = .run) :
    KeepsLaws s (t.leaveFault m) :=
  h.setEngine (fun hl => by rcases hto with rfl | rfl <;> simp_all [EngineUnit.timersFit])
    (by rcases hto with rfl | rfl <;> decide)

theorem takeResetFault (h : KeepsLaws s t) : KeepsLaws s t.takeResetFault.state := by
  unfold State.takeResetFault
  refine iteTaken h ?_
  split
  · next hm =>
    split
    · exact h.leaveFault hm (.inl rfl)
    · exact h.leaveFault hm (.inr rfl)
    all_goals exact h
  · exact h

theorem takeZoneEnter (h : KeepsLaws s t) : KeepsLaws s t.takeZoneEnter.state := iteTaken h h.zoneEntered.reserveWatch

theorem takeZoneExit (h : KeepsLaws s t) : KeepsLaws s t.takeZoneExit.state :=
  iteTaken (h.setDemand (x := { t.demand with zone := false }) (fun hz => by cases hz)).endReserve.evaluateStart h

theorem takeSchedule {d} (h : KeepsLaws s t) : KeepsLaws s (t.takeSchedule d).state := iteTaken h h.putSchedule

/-! ### Reports and presence -/

theorem actReported {n b} (h : KeepsLaws s t) : KeepsLaws s (t.actReported n b) := by
  unfold State.actReported
  split
  · exact h
  · exact ite (ite h h.raise) (ite h.endCause h)

theorem becomeStale {n} (h : KeepsLaws s t) : KeepsLaws s (t.becomeStale n) :=
  have hn := h.setNode (n := n) (r := { t.node n with
    presence := .stale, staleTime := some t.runTime, staleTimer := none, lostTimer := some (t.par .tLost) }) fun _ => ⟨rfl, rfl⟩
  ite hn.raise hn

theorem handLoss {n} (h : KeepsLaws s t) : KeepsLaws s (t.handLoss n) :=
  have hcut := ite (c := n = .bat ∨ n = .inv) (h.cutReblend (slipCut := false)) h
  (ite (c := n = .eng) hcut.engineLost hcut).nodeLostQueue

theorem becomeLost {n} (h : KeepsLaws s t) : KeepsLaws s (t.becomeLost n) := by
  have hn := h.setNode (n := n) (r := { t.node n with presence := .lost, staleTimer := none, lostTimer := none }) fun _ => ⟨rfl, rfl⟩
  unfold State.becomeLost
  dsimp only
  split
  · exact hn.raise.handLoss
  · exact hn.handLoss

theorem retimeStale {n} (h : KeepsLaws s t) : KeepsLaws s (t.retimeStale n) := by
  unfold State.retimeStale
  split
  · next hp _ => exact ite h.becomeStale (h.setNode fun hl => ⟨by simp [hp], hl.2⟩)
  · exact h

theorem retimeLost {n} (h : KeepsLaws s t) : KeepsLaws s (t.retimeLost n) := by
  unfold State.retimeLost
  split
  · next hp _ => exact ite h.becomeLost (h.setNode fun hl => ⟨hl.1, by simp [hp]⟩)
  · exact h

theorem handOn {n e} (h : KeepsLaws s t) : KeepsLaws s (t.handOn n e) := by
  have hr := ite (c := ((t.nodes.flagsOf n).map ReportFlags.ready).getD false = true) (h.releaseHold (n := n)) h
  unfold State.handOn
  dsimp only
  cases n with
  | eng =>
    dsimp only
    split
    · exact hr.engineReport
    · exact hr
  | bat =>
    dsimp only
    split
    · split
      · exact hr.batteryWear.reserveWatch
      · exact hr.reserveWatch
    · exact hr
  | bkf => exact ite hr.slipReport hr
  | bkr => exact ite hr.slipReport hr
  | _ => exact hr

theorem takeFresh {n p} (h : KeepsLaws s t) : KeepsLaws s (t.takeFresh n p) := by
  unfold State.takeFresh
  exact (h.storeReport.setNode).becomePresent.actReported.handOn

theorem takeRepeat {n p} (h : KeepsLaws s t) : KeepsLaws s (t.takeRepeat n p) :=
  have hs := h.storeReport.setNode (n := n) (r := { (t.setNodes (t.nodes.store n p)).node n with
    repeats := satAdd 255 (t.node n).repeats 1 })
  ite (ite hs.becomeStale hs).actReported.handOn h.setNode

theorem takeReport {n p r} (h : KeepsLaws s t) : KeepsLaws s (t.takeReport n p r) := by
  unfold State.takeReport
  split
  · exact h.takeFresh
  · exact h.takeRepeat
  · exact h

theorem auxPresence {n} (h : KeepsLaws s t) : KeepsLaws s (t.auxPresence n) := ite h.becomePresent.releaseHold h

/-! ### The demand stream -/

theorem refresh (h : KeepsLaws s t) : KeepsLaws s t.refresh := ite h.setDemand.endCause h.setDemand

theorem addDistance {dt} (h : KeepsLaws s t) : KeepsLaws s (t.addDistance dt) := h.setDemand.scheduleMetres

theorem passengerStop (h : KeepsLaws s t) : KeepsLaws s t.passengerStop := ite h.setDemand.scheduleStop h

theorem DemandUnit.move_zone (d : DemandUnit) : d.move.zone = d.zone := by
  unfold DemandUnit.move
  split
  · split
    · rfl
    · split <;> rfl
  · split <;> rfl

theorem demandStages {f} (h : KeepsLaws s t) : KeepsLaws s (t.demandStages f) := by
  have ht : KeepsLaws s (t.takeRecord f) := h.setDemand
  have hd := ht.refresh.addDistance (dt := t.demandStep)
  exact (hd.setDemand (fun hz => by rwa [DemandUnit.move_zone] at hz)).passengerStop

theorem brakeDemand {st o dt} (h : KeepsLaws s t) : KeepsLaws s (t.brakeDemand st o dt).state := h.demandBlend.brakingHandOn

theorem tractionDemand {st o dt} (h : KeepsLaws s t) : KeepsLaws s (t.tractionDemand st o dt).state :=
  (ite h.leaveBraking h).demandSplit

theorem takeDemand {d} (h : KeepsLaws s t) : KeepsLaws s (t.takeDemand d).state :=
  have hd := h.demandStages
  iteTaken (iteTaken hd.brakeDemand hd.tractionDemand) hd

theorem goStale (h : KeepsLaws s t) : KeepsLaws s t.goStale := (h.setDemand.raise.closeEvent.heldSplit.heldBlend).setDemand

theorem freshnessExpires (h : KeepsLaws s t) : KeepsLaws s t.freshnessExpires := ite h.goStale h.setDemand

theorem lowSpeedExpires (h : KeepsLaws s t) : KeepsLaws s t.lowSpeedExpires :=
  ite h.setDemand.closeEvent.stopCause h.setDemand.closeEvent

/-! ### The modes -/

theorem clearStale (h : KeepsLaws s t) : KeepsLaws s t.clearStale := ite h.setDemand.endCause h.setDemand

theorem offerRelease (h : KeepsLaws s t) : KeepsLaws s t.offerRelease := h.offer.offer.offer

theorem leaveReady {c} (h : KeepsLaws s t) : KeepsLaws s (t.leaveReady c) := by
  unfold State.leaveReady
  exact (h.leaveBraking.setPsu.offerRelease.stopCause.setEsc).clearStale

theorem beginEngineWait (h : KeepsLaws s t) : KeepsLaws s t.beginEngineWait := ite h.setProgress.saveTrigger h.setProgress

theorem parkDemand (h : KeepsLaws s t) : KeepsLaws s (t.setDemand t.demand.park) := h.setDemand

theorem hunt (h : KeepsLaws s t) : KeepsLaws s (t.setHli { t.hli with framer := .hunt }) := h.setHli

theorem enterParked (h : KeepsLaws s t) : KeepsLaws s t.enterParked := by
  unfold State.enterParked
  exact ((h.enterMode.setProgress.parkLink.parkNodes.parkDemand.setBbu.endCause.endReserve.hunt).setKeep).slowDown

theorem wakeEnds (h : KeepsLaws s t) : KeepsLaws s t.wakeEnds := by
  have hrejoined : KeepsLaws s ((((t.enterMode .standby).setKeep true).setSlowClock false).setWaking false).rejoinLink :=
    (h.enterMode.setKeep.setSlowClock.setWaking).rejoinLink
  have hf : OnlyChanges (.hli :: unread) (((((t.enterMode .standby).setKeep true).setSlowClock false).setWaking false).rejoinLink)
      ((((((t.enterMode .standby).setKeep true).setSlowClock false).setWaking false).rejoinLink).setHli
        (((((t.enterMode .standby).setKeep true).setSlowClock false).setWaking false).rejoinLink).hli.woken) := by
    simp (disch := decide)
  have hwoken := hrejoined.trans (u := (((((t.enterMode .standby).setKeep true).setSlowClock false).setWaking false).rejoinLink).setHli
    (((((t.enterMode .standby).setKeep true).setSlowClock false).setWaking false).rejoinLink).hli.woken)
    ⟨fun _ hc => (by cases hc), fun _ => HostLink.woken_fits _, .frame hf, .frame hf, .frame hf, .frame hf, .frame hf, .frame hf, .frame hf⟩
  exact hwoken.setEsc

theorem enterHalted (h : KeepsLaws s t) : KeepsLaws s t.enterHalted := by
  unfold State.enterHalted
  exact (h.enterMode.closeEvent.setProgress).haltLink

theorem enterReady (h : KeepsLaws s t) : KeepsLaws s t.enterReady := by
  unfold State.enterReady
  exact enterMode (h.setDemand (x := { t.demand with freshness := some (t.par .tFresh), firstInReady := true }))

theorem shutdownFromStandby (h : KeepsLaws s t) : KeepsLaws s t.shutdownFromStandby := by
  unfold State.shutdownFromStandby
  exact h.enterMode.offerRelease.stopCause.beginEngineWait

theorem shutdownFromReady (h : KeepsLaws s t) : KeepsLaws s t.shutdownFromReady := by
  unfold State.shutdownFromReady
  exact h.enterMode.leaveReady.beginEngineWait

theorem carried (h : KeepsLaws s t) : KeepsLaws s (Taken.carried t).state := h

theorem takeModeReady (h : KeepsLaws s t) : KeepsLaws s t.takeModeReady.state := by
  unfold State.takeModeReady
  split
  · split
    · exact h
    · exact h.enterReady.carried
  all_goals exact h

theorem takeModeStandby (h : KeepsLaws s t) : KeepsLaws s t.takeModeStandby.state := by
  unfold State.takeModeStandby
  split
  · exact h
  · exact iteTaken h.enterMode.leaveReady.carried h
  · exact iteTaken h h.enterMode.setProgress.carried
  all_goals exact h

theorem takeModeShutdown (h : KeepsLaws s t) : KeepsLaws s t.takeModeShutdown.state := by
  unfold State.takeModeShutdown
  split
  · exact iteTaken h.shutdownFromStandby.carried h
  · exact iteTaken h.shutdownFromReady.carried h
  all_goals exact h

theorem takeModePark (h : KeepsLaws s t) : KeepsLaws s t.takeModePark.state := by
  unfold State.takeModePark
  split
  · exact iteTaken h.enterParked.carried h
  all_goals exact h

theorem takeModeHalt (h : KeepsLaws s t) : KeepsLaws s t.takeModeHalt.state := by
  unfold State.takeModeHalt
  split
  · exact h.enterHalted.carried
  · exact h.enterHalted.carried
  · exact h.enterHalted.carried
  all_goals exact h

/-! ### CONFIG_SET, the requests of the Fault Monitor and the WAU, the store -/

theorem configSet {p v} (h : KeepsLaws s t) :
    KeepsLaws s ((t.setParams (setParam t.params p (configValue t.params p v))).configActs p) := by
  unfold State.configActs
  split
  · exact h.setThreshold
  · next hp =>
    have hset := h.setParams (v := v) (by simpa using hp)
    split
    · exact foldl (fun _ _ hu => hu.retimeStale) _ hset
    · exact foldl (fun _ _ hu => hu.retimeLost) _ hset
    · exact hset.retimeSlip
    · exact hset.reserveWatch
    · exact hset

theorem takeConfigSet {d} (h : KeepsLaws s t) : KeepsLaws s (t.takeConfigSet d).state := by
  unfold State.takeConfigSet
  dsimp only
  split
  · exact h
  · exact iteTaken h (iteTaken h h.configSet)

theorem takeFaultClear {d} (h : KeepsLaws s t) : KeepsLaws s (t.takeFaultClear d).state := by
  unfold State.takeFaultClear
  dsimp only
  split
  · exact h
  · split
    · exact h
    · exact iteTaken h.removeFault h

theorem takeResponseSet {d} (h : KeepsLaws s t) : KeepsLaws s (t.takeResponseSet d).state := by
  unfold State.takeResponseSet
  dsimp only
  refine iteTaken h (iteTaken h ?_)
  split
  · exact iteTaken h (h.setFaults fun hf => hf.setResponse (clampResponse_fits ..))
  · exact h
  · exact h

theorem takeWearReset {d} (h : KeepsLaws s t) : KeepsLaws s (t.takeWearReset d).state := by
  unfold State.takeWearReset
  dsimp only
  refine iteTaken h (iteTaken h ?_)
  split
  · exact h
  · exact iteTaken h (iteTaken h h.resetWear)

theorem takeAccessService (h : KeepsLaws s t) : KeepsLaws s t.takeAccessService.state := by
  unfold State.takeAccessService
  split
  · exact h
  · split
    · exact h
    · next hm =>
      split
      · exact h
      · split
        · exact h
        · next hv => exact h.setAccess fun _ => ⟨not_not.mp hm, by simpa using hv⟩

theorem takeAccessDrive (h : KeepsLaws s t) : KeepsLaws s t.takeAccessDrive.state := h.setAccess fun hc => by cases hc

theorem loadCompletes (h : KeepsLaws s t) : KeepsLaws s t.loadCompletes := by
  unfold State.loadCompletes
  split
  · exact h.loadGood.beginWaiting
  · exact h.loadBad.raise.beginWaiting

theorem saveCompletes {r} (h : KeepsLaws s t) : KeepsLaws s (t.saveCompletes r) := by
  unfold State.saveCompletes
  split
  · exact h
  · exact ite h.endSave.enterParked h.endSave

/-! ### What the node link hears -/

theorem appendInbox {n p} (h : KeepsLaws s t) : KeepsLaws s (t.appendInbox n p) := ite h.setNlc.notify h.setNlc

theorem driveAck {c e w r} (h : KeepsLaws s t) : KeepsLaws s (t.driveAck c e w r) := by
  unfold State.driveAck
  split <;> exact h.setNlc

theorem handTunnel {n p} (h : KeepsLaws s t) : KeepsLaws s (t.handTunnel n p) := ite h.appendInbox.auxPresence h.auxPresence

theorem handReport {n r p} (h : KeepsLaws s t) : KeepsLaws s (t.handReport n r p) := ite h h.takeReport

theorem handFrame {n c r p} (h : KeepsLaws s t) : KeepsLaws s (t.handFrame n c r p) := by
  unfold State.handFrame
  split
  · exact h.handReport
  · exact h.handTunnel
  · exact h.countReject
  · exact h.countReject

theorem goodFrame {h1 h2 p e w r} (h : KeepsLaws s t) : KeepsLaws s (t.goodFrame h1 h2 p e w r) :=
  ite h.driveAck.handFrame h.setNlc

theorem countCrcError {b} (h : KeepsLaws s t) : KeepsLaws s (t.countCrcError b) := h.setNlc

theorem countNoise {n} (h : KeepsLaws s t) : KeepsLaws s (t.countNoise n) := h.setNlc

theorem followFrame {w} (h : KeepsLaws s t) : KeepsLaws s (t.followFrame w) := by
  unfold State.followFrame
  split
  · exact h
  · exact h.setNlc
  · exact h.goodFrame
  · exact h.countCrcError
  · exact h.countCrcError
  · exact h

theorem strayPulse (h : KeepsLaws s t) : KeepsLaws s t.strayPulse := by
  unfold State.strayPulse
  split
  · exact h.countCrcError
  · exact h.setNlc
  · exact h.setNlc
  · exact h
  · exact h

theorem abortFrame (h : KeepsLaws s t) : KeepsLaws s t.abortFrame := by
  unfold State.abortFrame
  split
  · exact h.settle
  · exact h.settle
  · exact h
  · exact h

theorem abortBus (h : KeepsLaws s t) : KeepsLaws s t.abortBus := h.abortFrame.setNlc

theorem busResets (h : KeepsLaws s t) : KeepsLaws s t.busResets :=
  have hn := h.abortBus.setNlc (x := t.abortBus.nlc.noteReset t.abortBus.runTime)
  (ite (c := t.abortBus.thirdReset) hn.raise hn).linkCheck

theorem releaseBreak (h : KeepsLaws s t) : KeepsLaws s t.releaseBreak := h.setNlc.linkCheck

theorem finishBreak (h : KeepsLaws s t) : KeepsLaws s t.finishBreak := by
  unfold State.finishBreak
  split
  · exact h.busResets.releaseBreak
  · exact h.releaseBreak
  all_goals exact h

theorem breakRuns {n} (h : KeepsLaws s t) : KeepsLaws s (t.breakRuns n) := by
  unfold State.breakRuns
  split
  · exact h.finishBreak
  · split
    · exact h.busResets.setNlc
    all_goals exact h

theorem resetRun {n} (h : KeepsLaws s t) : KeepsLaws s (t.resetRun n) := ite h.breakRuns h.busResets

theorem dominantPulse {n} (h : KeepsLaws s t) : KeepsLaws s (t.dominantPulse n) := by
  unfold State.dominantPulse
  split
  · exact h.countNoise
  · exact h.resetRun.levelAfter
  · exact ite h.setNlc h.strayPulse
  all_goals exact h.strayPulse

theorem settleNow {c b} (h : KeepsLaws s t) : KeepsLaws s (t.settleNow c b) := h.settle.linkCheck

theorem ownFrame {b w} (h : KeepsLaws s t) : KeepsLaws s (t.ownFrame b w) := by
  unfold State.ownFrame
  split
  · exact h.settleNow
  · exact h.settleNow
  · exact h.setNlc
  · exact h.setNlc.followFrame
  · exact h.setNlc
  · exact h

theorem frameOnBus {w} (h : KeepsLaws s t) : KeepsLaws s (t.frameOnBus w) := by
  unfold State.frameOnBus
  split
  · exact h.ownFrame
  · exact h
  · exact h
  · split
    · exact h.followFrame
    · exact h.followFrame
    · exact ite h h.strayPulse
    · exact h
    · exact h

theorem laterPulse {p} (h : KeepsLaws s t) : KeepsLaws s (t.laterPulse p) := by
  unfold State.laterPulse
  split
  · split
    · exact h.countNoise
    · exact h.resetRun
    all_goals exact h
  · exact h

theorem wave {w} (h : KeepsLaws s t) : KeepsLaws s (t.wave w) :=
  (foldl (fun _ _ hu => hu.laterPulse) _ h.countNoise.frameOnBus).levelAfter

theorem ownWave {w} (h : KeepsLaws s t) : KeepsLaws s (t.ownWave w) := by
  unfold State.ownWave
  split
  · exact h.wave
  all_goals exact h

theorem atIdle (h : KeepsLaws s t) : KeepsLaws s t.atIdle := by
  have hsettled : KeepsLaws s t.finishBreak.settleEnded := by
    have hb := h.finishBreak
    unfold State.settleEnded
    split
    · exact hb.settle
    all_goals exact hb
  rw [State.atIdle_eq]
  exact ite hsettled.countCrcError hsettled

theorem actAtIdle {b} (h : KeepsLaws s t) : KeepsLaws s (t.actAtIdle b) :=
  ite h.setNlc (ite (ite h.setNlc.linkCheck.setNlc h.setNlc.linkCheck.startFrame) h.setNlc.linkCheck.levelAfter)

theorem busFellIdle {b} (h : KeepsLaws s t) : KeepsLaws s (t.busFellIdle b) := by
  unfold State.busFellIdle
  split
  · exact h
  all_goals exact h.atIdle.actAtIdle

theorem onLink {act : State → State} (h : KeepsLaws s t) (ha : KeepsLaws s (act t)) : KeepsLaws s (t.onLink act) := ite ha h.nodeEdge

theorem idleOnLink {b} (h : KeepsLaws s t) : KeepsLaws s (t.idleOnLink b) := ite h.busFellIdle h.levelAfter

theorem whileLinked {act : State → State} (h : KeepsLaws s t) (ha : KeepsLaws s (act t)) : KeepsLaws s (t.whileLinked act) := ite ha h

/-! ### The time base, the timers -/

/-- Time moves timers and counts, and starts or stops none. -/
theorem advance {n} (h : KeepsLaws s t) : KeepsLaws s (t.advance n) := by
  have hcount : ∀ x : Timer, (countDown n x).isSome = x.isSome := fun x => by cases x <;> rfl
  have hage : ∀ e : EngineUnit, e.timersFit → (e.age n).timersFit := fun e he => by
    unfold EngineUnit.timersFit EngineUnit.age at *
    simpa only [hcount] using he
  have hdwell : ∀ e : EngineUnit, e.timersFit → (e.dwell n).timersFit := fun e he => by
    unfold EngineUnit.dwell
    split <;> exact he
  have hcrank : ∀ e : EngineUnit, e.crankFits → (e.dwell n).crankFits := fun e he => by
    unfold EngineUnit.dwell
    split <;> exact he
  have hf : OnlyChanges (.demand :: .esc :: .nodes :: .wear :: unread) t (t.advance n) := by simp (disch := decide)
  refine h.trans ⟨.frame hf, .frame hf, .frame hf, .frame hf, .frame hf, fun hl => ?_, fun hl => ?_, fun hl => ?_, fun hl => ?_⟩
  · rw [engineLaw_iff] at hl ⊢
    simp only [State.advance]
    split
    · exact hdwell _ (hage _ hl)
    · split
      · exact hdwell _ hl
      · exact hl
  · rw [zoneLaw_iff] at hl ⊢
    simp only [State.advance]
    split
    · exact fun hz => hcrank (t.esc.age n) (hl hz)
    · split
      · exact fun hz => hcrank t.esc (hl hz)
      · exact hl
  · refine presenceLaw_iff.mpr fun m => ?_
    have hm := presenceLaw_iff.mp hl m
    unfold State.node at *
    simp only [State.advance]
    split
    · exact hm
    · rw [NodeTable.get_age]
      unfold NodeRecord.timersFit NodeRecord.age at *
      simpa only [hcount] using hm
  · intro k
    have hitem : (t.advance n).wearItem k = t.wearItem k := by
      simp only [State.wearItem, State.advance]
      split <;> rfl
    rw [hitem]
    exact hl k

theorem tick (h : KeepsLaws s t) : KeepsLaws s t.tick := ite h.finishBreak.advance.setPending h

theorem expire {timer : Timer} {act : State → State} (h : KeepsLaws s t) (ha : KeepsLaws s (act t)) :
    KeepsLaws s (t.expire timer act) := ite ha h

theorem expireLive {timer : State → Timer} {act : State → State} (h : KeepsLaws s t) (ha : KeepsLaws s (act t)) :
    KeepsLaws s (t.expireLive timer act) := ite (h.expire ha) h

theorem expirePresence {timer : Timer} {act : State → State} (h : KeepsLaws s t) (ha : KeepsLaws s (act t)) :
    KeepsLaws s (t.expirePresence timer act) := ite h (h.expire ha)

theorem expireEngine {m : EngineState} {timer : State → Timer} {act : State → State} (h : KeepsLaws s t)
    (ha : t.esc.machine = m → KeepsLaws s (act t)) : KeepsLaws s (t.expireEngine m timer act) := by
  unfold State.expireEngine
  split
  · next hm => exact h.expireLive (ha hm)
  · exact h

theorem expireQuiet (h : KeepsLaws s t) : KeepsLaws s t.expireQuiet := ite h (h.expire h.setNlc.endCause)

theorem periodicTrigger (h : KeepsLaws s t) : KeepsLaws s t.periodicTrigger := ite h.setWear.saveTrigger h

theorem endLoad (h : KeepsLaws s t) : KeepsLaws s t.endLoad := ite h.loadCompletes h

theorem endWake (h : KeepsLaws s t) : KeepsLaws s t.endWake := ite h.wakeEnds h

end KeepsLaws


/-! ## 8. Reset, requests, every command, every step -/

/-- The reset values meet each law, over whatever the reset leaves alone. -/
theorem State.afterReset_laws (store : StoreContents) (svc : Bool) (pending : List Instr) :
    let t := State.afterReset store svc pending
    AccessLaw t ∧ ReplyLaw t ∧ RingLaw t ∧ FaultLaw t ∧ ParamLaw t ∧ EngineLaw t ∧ PresenceLaw t ∧ WearLaw t ∧ ZoneLaw t := by
  have hitem : ∀ k, ((State.afterReset store svc pending).wearItem k) = .initial := fun k => by cases k <;> rfl
  have htable : ∀ k, k.minLevel.code ≤ (FaultUnit.initial.response k).level.code ∧ 64 ≤ (FaultUnit.initial.response k).factor ∧
      (FaultUnit.initial.response k).factor ≤ 255 := fun k => by cases k <;> decide
  have hrange : ∀ p, (paramRow p).lo ≤ getParam defaultParams p ∧ getParam defaultParams p ≤ (paramRow p).hi := fun p => by
    cases p <;> decide
  have hpairs : getParam defaultParams .mMin ≤ getParam defaultParams .mMax ∧
      getParam defaultParams .vLo + 100 ≤ getParam defaultParams .vHi ∧
      getParam defaultParams .socStart + 100 ≤ getParam defaultParams .socStop := by decide
  refine ⟨fun hc => (by cases hc), ⟨fun _ => rfl, Nat.zero_le _, Nat.zero_le 2⟩, ⟨Nat.zero_le _, rfl, fun n r hr => ?_⟩,
    ⟨List.nodup_nil, htable, fun e he => (by cases he), fun e he => (by cases he)⟩,
    ⟨hrange, hpairs.1, hpairs.2.1, hpairs.2.2⟩, ⟨rfl, rfl, rfl, rfl⟩, fun n => ?_, fun k => .inl ?_, fun hz => (by cases hz)⟩
  · simp [State.afterReset, EventLog.initial] at hr
  · cases n <;> exact ⟨rfl, rfl⟩
  · rw [hitem]
    rfl

namespace KeepsLaws
variable {s t u : State}

theorem restart {cut} : KeepsLaws s (t.restart cut) := by
  obtain ⟨ha, hr, hl, hf, hp, he, hn, hw, hz⟩ := State.afterReset_laws (t.wear.cutStore cut) t.svc t.pending
  exact ⟨fun _ => ha, fun _ => hr, fun _ => hl, fun _ => hf, fun _ => hp, fun _ => he, fun _ => hz, fun _ => hn, fun _ => hw⟩

theorem losePower {cut} : KeepsLaws s (t.losePower cut) :=
  (restart (t := t) (cut := cut)).off (by unfold State.losePower; simp (disch := decide))

/-! ### Requests -/

/-- A request keeps the laws if its owner does, and if a reply is deferred only for a CONFIRMED TUNNEL SEND, with the inbox as it
was (R208). -/
theorem request {tag kind : Byte} {confirmed inHalted : Bool} {form : Form} {owner : Fin 4 → State → Taken} (h : KeepsLaws s t)
    (ho : ∀ i u, KeepsLaws s u → KeepsLaws s (owner i u).state)
    (hd : ∀ i u, (owner i u).reply = none → form = .good → confirmed = true ∧ (owner i u).state.hli = u.hli) :
    KeepsLaws s (t.request tag kind confirmed inHalted form owner) := by
  unfold State.request
  refine ite h.hostEdge ?_
  dsimp only
  split
  · exact h.hunt.answerBusy
  · next hroom =>
    split
    · exact h.hunt.answerBusy
    · next i _ =>
      have hslot := h.hunt.takeSlot (i := i) (tag := tag) (kind := kind)
      split
      · exact hslot.ready
      · exact hslot.ready
      · exact hslot.ready
      · refine ite hslot.ready ?_
        have howner := ho i _ hslot
        split
        · exact howner.ready
        · next hnone =>
          obtain ⟨hconfirmed, hhli⟩ := hd i _ hnone rfl
          have hheld : t.hli.deferredHeld < 2 := by
            have hfew : ¬2 ≤ t.hli.deferredHeld := fun hge => hroom (by rw [hconfirmed]; exact decide_eq_true hge)
            omega
          refine howner.hliStep (by simp (disch := decide)) rfl (·.takeSlot i (.inr ?_))
          rw [hhli]
          refine lt_of_le_of_lt ?_ hheld
          rw [HostLink.deferredHeld_eq, HostLink.deferredHeld_eq]
          exact countP_deferred_set_le t.hli.slots i (q := some ⟨tag, kind, false⟩) rfl

/-- A request that is answered at once. -/
theorem answered {tag kind : Byte} {inHalted : Bool} {form : Form} {owner : State → Taken} (h : KeepsLaws s t)
    (ho : ∀ u, KeepsLaws s u → KeepsLaws s (owner u).state) (hr : ∀ u, (owner u).reply ≠ none) :
    KeepsLaws s (t.request tag kind false inHalted form fun _ u => owner u) :=
  h.request (fun _ u hu => ho u hu) fun _ u hn _ => absurd hn (hr u)

theorem plain {tag kind : Byte} {ok : Bool} {owner : State → Taken} (h : KeepsLaws s t)
    (ho : ∀ u, KeepsLaws s u → KeepsLaws s (owner u).state) (hr : ∀ u, (owner u).reply ≠ none) :
    KeepsLaws s (t.plain tag kind ok owner) := h.answered ho hr

theorem readable {tag kind : Byte} {ok : Bool} {owner : State → Taken} (h : KeepsLaws s t) (ho : ReadsOnly owner)
    (hr : ∀ u, (owner u).reply ≠ none) : KeepsLaws s (t.readable tag kind ok owner) :=
  h.answered (fun u hu => by rwa [ho u]) hr

theorem answerForm {tag kind : Byte} {form : Form} (h : KeepsLaws s t) : KeepsLaws s (t.answerForm tag kind form) :=
  h.answered (fun _ hu => hu) fun _ => nofun

end KeepsLaws

/-! ### Every owner but that of TUNNEL SEND answers at once -/

/-- An owner that answers at once. -/
def AnswersNow (owner : State → Taken) : Prop := ∀ u : State, (owner u).reply ≠ none

/-- An owner that keeps each law. -/
def OwnerKeepsLaws (owner : State → Taken) : Prop := ∀ s u : State, KeepsLaws s u → KeepsLaws s (owner u).state

theorem Taken.ite_reply {c : Prop} [Decidable c] {a b : Taken} (ha : a.reply ≠ none) (hb : b.reply ≠ none) :
    (if c then a else b).reply ≠ none := by split <;> assumption

section
variable (s : State) (d : List Byte)

theorem takeDemand_reply : (s.takeDemand d).reply ≠ none := Taken.ite_reply (Taken.ite_reply nofun nofun) nofun
theorem takeZoneEnter_reply : s.takeZoneEnter.reply ≠ none := Taken.ite_reply nofun nofun
theorem takeZoneExit_reply : s.takeZoneExit.reply ≠ none := Taken.ite_reply nofun nofun
theorem takeSchedule_reply : (s.takeSchedule d).reply ≠ none := Taken.ite_reply nofun nofun
theorem hostStart_reply (o : Bool) : (s.hostStart o).reply ≠ none := by
  unfold State.hostStart
  split
  · exact Taken.ite_reply nofun nofun
  · nofun
  · nofun
  · nofun
  · nofun
  · exact Taken.ite_reply nofun nofun
  · nofun
  · nofun
theorem takeEngineStart_reply : (s.takeEngineStart d).reply ≠ none :=
  Taken.ite_reply nofun (Taken.ite_reply nofun (Taken.ite_reply nofun (hostStart_reply s _)))
theorem takeResetFault_reply : s.takeResetFault.reply ≠ none := by
  unfold State.takeResetFault
  refine Taken.ite_reply nofun (Taken.ite_reply ?_ nofun)
  split <;> nofun
theorem takeConfigSet_reply : (s.takeConfigSet d).reply ≠ none := by
  unfold State.takeConfigSet
  dsimp only
  split
  · nofun
  · exact Taken.ite_reply nofun (Taken.ite_reply nofun nofun)
theorem takeConfigGet_reply : (s.takeConfigGet d).reply ≠ none := by
  unfold State.takeConfigGet
  dsimp only
  split <;> nofun
theorem takeFaultClear_reply : (s.takeFaultClear d).reply ≠ none := by
  unfold State.takeFaultClear
  dsimp only
  split
  · nofun
  · split
    · nofun
    · exact Taken.ite_reply nofun nofun
theorem takeResponseSet_reply : (s.takeResponseSet d).reply ≠ none := by
  unfold State.takeResponseSet
  dsimp only
  refine Taken.ite_reply nofun (Taken.ite_reply nofun ?_)
  split
  · exact Taken.ite_reply nofun nofun
  · nofun
  · nofun
theorem takeWearReset_reply : (s.takeWearReset d).reply ≠ none := by
  unfold State.takeWearReset
  dsimp only
  refine Taken.ite_reply nofun (Taken.ite_reply nofun ?_)
  split
  · nofun
  · exact Taken.ite_reply nofun (Taken.ite_reply nofun nofun)
theorem takeFaults_reply (page : Byte) : (s.takeFaults page).reply ≠ none := Taken.ite_reply nofun (Taken.ite_reply nofun nofun)
theorem takeAccessService_reply : s.takeAccessService.reply ≠ none :=
  Taken.ite_reply nofun (Taken.ite_reply nofun (Taken.ite_reply nofun (Taken.ite_reply nofun nofun)))
theorem takeTunnelFetch_reply : s.takeTunnelFetch.reply ≠ none := by
  unfold State.takeTunnelFetch
  split <;> nofun
theorem takeModeReady_reply : s.takeModeReady.reply ≠ none := by
  unfold State.takeModeReady
  split
  · split <;> nofun
  all_goals nofun
theorem takeModeStandby_reply : s.takeModeStandby.reply ≠ none := by
  unfold State.takeModeStandby
  split
  · nofun
  · exact Taken.ite_reply nofun nofun
  · exact Taken.ite_reply nofun nofun
  all_goals nofun
theorem takeModeShutdown_reply : s.takeModeShutdown.reply ≠ none := by
  unfold State.takeModeShutdown
  split
  · exact Taken.ite_reply nofun nofun
  · exact Taken.ite_reply nofun nofun
  all_goals nofun
theorem takeModePark_reply : s.takeModePark.reply ≠ none := by
  unfold State.takeModePark
  split
  · exact Taken.ite_reply nofun nofun
  all_goals nofun
theorem takeModeHalt_reply : s.takeModeHalt.reply ≠ none := by
  unfold State.takeModeHalt
  split <;> nofun
/-- The reply of a TUNNEL SEND is deferred only where it asks for CONFIRMED, and its owner leaves the host link (R76). -/
theorem takeTunnelSend_deferred {tag : Byte} {slot : Fin 4} (hn : (s.takeTunnelSend tag d slot).reply = none)
    (hl : 2 ≤ d.length) : confirmedSend d = true ∧ (s.takeTunnelSend tag d slot).state.hli = s.hli := by
  have hf : OnlyChanges [.nlc] s (s.takeTunnelSend tag d slot).state := by simp (disch := decide)
  refine ⟨?_, hf .hli (by decide)⟩
  unfold State.takeTunnelSend at hn
  split at hn
  · next posted _ hposted =>
    split at hn
    · cases hn
    · split at hn
      · cases hn
      · unfold State.sendTunnel at hn
        dsimp only at hn
        split at hn
        · cases hn
        · next hp =>
          unfold postedOf at hposted
          split at hposted
          · next hmode => simp [confirmedSend, hl, hmode]
          · split at hposted
            · exact absurd (Option.some.inj hposted).symm hp
            · cases hposted
  · cases hn
  · cases hn

end

theorem answersNow_modeOwner (target : Byte) : AnswersNow (modeOwner target) := by
  unfold modeOwner
  split
  · exact takeModePark_reply
  · exact takeModeStandby_reply
  · exact takeModeReady_reply
  · exact takeModeShutdown_reply
  · exact takeModeHalt_reply
  · exact fun _ => nofun

theorem answersNow_accessOwner (level : Byte) : AnswersNow (accessOwner level) := by
  unfold accessOwner
  split
  · exact fun _ => nofun
  · exact takeAccessService_reply
  · exact fun _ => nofun

theorem answersNow_pageOwner (page : Byte) : AnswersNow (pageOwner page) := by
  unfold pageOwner
  split <;> exact fun _ => nofun

theorem ownerKeepsLaws_modeOwner (target : Byte) : OwnerKeepsLaws (modeOwner target) := by
  unfold modeOwner
  split
  · exact fun _ _ hu => hu.takeModePark
  · exact fun _ _ hu => hu.takeModeStandby
  · exact fun _ _ hu => hu.takeModeReady
  · exact fun _ _ hu => hu.takeModeShutdown
  · exact fun _ _ hu => hu.takeModeHalt
  · exact fun _ _ hu => hu

theorem ownerKeepsLaws_accessOwner (level : Byte) : OwnerKeepsLaws (accessOwner level) := by
  unfold accessOwner
  split
  · exact fun _ _ hu => hu.takeAccessDrive
  · exact fun _ _ hu => hu.takeAccessService
  · exact fun _ _ hu => hu

namespace KeepsLaws
variable {s t : State} {tag : Byte} {data : List Byte}

theorem takeTunnelSend {slot : Fin 4} (h : KeepsLaws s t) : KeepsLaws s (t.takeTunnelSend tag data slot).state :=
  h.off (by simp (disch := decide))

theorem reqTunnelSend (h : KeepsLaws s t) : KeepsLaws s (t.reqTunnelSend tag data) := by
  refine h.request (fun _ _ hu => hu.takeTunnelSend) fun i u hn hform => takeTunnelSend_deferred u data hn ?_
  unfold lengthForm at hform
  split at hform
  · next hl => exact of_decide_eq_true ((Bool.and_eq_true ..).mp hl).1
  · cases hform

theorem reqDemand (h : KeepsLaws s t) : KeepsLaws s (t.reqDemand tag data) :=
  h.plain (fun _ hu => hu.takeDemand) (takeDemand_reply · data)
theorem reqZoneEnter (h : KeepsLaws s t) : KeepsLaws s (t.reqZoneEnter tag data) :=
  h.plain (fun _ hu => hu.takeZoneEnter) takeZoneEnter_reply
theorem reqZoneExit (h : KeepsLaws s t) : KeepsLaws s (t.reqZoneExit tag data) :=
  h.plain (fun _ hu => hu.takeZoneExit) takeZoneExit_reply
theorem reqSchedule (h : KeepsLaws s t) : KeepsLaws s (t.reqSchedule tag data) :=
  h.plain (fun _ hu => hu.takeSchedule) (takeSchedule_reply · data)
theorem reqCancel (h : KeepsLaws s t) : KeepsLaws s (t.reqCancel tag data) :=
  h.plain (fun _ hu => hu.setEsc) fun _ => nofun
theorem reqEngineStart (h : KeepsLaws s t) : KeepsLaws s (t.reqEngineStart tag data) :=
  h.plain (fun _ hu => hu.takeEngineStart) (takeEngineStart_reply · data)
theorem reqEngineStop (h : KeepsLaws s t) : KeepsLaws s (t.reqEngineStop tag data) :=
  h.plain (fun _ hu => hu.stopCause) fun _ => nofun
theorem reqAutoOn (h : KeepsLaws s t) : KeepsLaws s (t.reqAutoOn tag data) :=
  h.plain (fun _ hu => hu.setEsc.evaluateStart) fun _ => nofun
theorem reqAutoOff (h : KeepsLaws s t) : KeepsLaws s (t.reqAutoOff tag data) :=
  h.plain (fun _ hu => hu.setEsc) fun _ => nofun
theorem reqResetFault (h : KeepsLaws s t) : KeepsLaws s (t.reqResetFault tag data) :=
  h.plain (fun _ hu => hu.takeResetFault) takeResetFault_reply
theorem reqMode {owner : State → Taken} (h : KeepsLaws s t) (ho : ∀ u, KeepsLaws s u → KeepsLaws s (owner u).state)
    (hr : ∀ u, (owner u).reply ≠ none) : KeepsLaws s (t.reqMode tag data owner) := h.plain ho hr
theorem reqStatus (h : KeepsLaws s t) : KeepsLaws s (t.reqStatus tag data) := h.readable (fun _ => rfl) fun _ => nofun
theorem reqNotices (h : KeepsLaws s t) : KeepsLaws s (t.reqNotices tag data) :=
  h.plain (fun _ hu => hu.setNotices) fun _ => nofun
theorem reqEvents (h : KeepsLaws s t) : KeepsLaws s (t.reqEvents tag data) := h.plain (fun _ hu => hu) fun _ => nofun
theorem reqWearRead (h : KeepsLaws s t) : KeepsLaws s (t.reqWearRead tag data) := h.plain (fun _ hu => hu) fun _ => nofun
theorem reqWearReset (h : KeepsLaws s t) : KeepsLaws s (t.reqWearReset tag data) :=
  h.plain (fun _ hu => hu.takeWearReset) (takeWearReset_reply · data)
theorem reqConfigSet (h : KeepsLaws s t) : KeepsLaws s (t.reqConfigSet tag data) :=
  h.plain (fun _ hu => hu.takeConfigSet) (takeConfigSet_reply · data)
theorem reqConfigGet (h : KeepsLaws s t) : KeepsLaws s (t.reqConfigGet tag data) :=
  h.plain (fun _ hu => hu.off (by simp)) (takeConfigGet_reply · data)
theorem reqFaults {page : Byte} (h : KeepsLaws s t) : KeepsLaws s (t.reqFaults tag page data) :=
  h.plain (fun _ hu => hu.off (by simp)) (takeFaults_reply · page)
theorem reqFaultClear (h : KeepsLaws s t) : KeepsLaws s (t.reqFaultClear tag data) :=
  h.plain (fun _ hu => hu.takeFaultClear) (takeFaultClear_reply · data)
theorem reqResponseSet (h : KeepsLaws s t) : KeepsLaws s (t.reqResponseSet tag data) :=
  h.plain (fun _ hu => hu.takeResponseSet) (takeResponseSet_reply · data)
theorem reqAccess {owner : State → Taken} (h : KeepsLaws s t) (ho : ∀ u, KeepsLaws s u → KeepsLaws s (owner u).state)
    (hr : ∀ u, (owner u).reply ≠ none) : KeepsLaws s (t.reqAccess tag data owner) := h.plain ho hr
theorem reqTunnelFetch (h : KeepsLaws s t) : KeepsLaws s (t.reqTunnelFetch tag data) :=
  h.plain (fun _ hu => hu.off (by simp (disch := decide))) takeTunnelFetch_reply
theorem reqDescribe {owner : State → Taken} (h : KeepsLaws s t) (ho : ReadsOnly owner) (hr : ∀ u, (owner u).reply ≠ none) :
    KeepsLaws s (t.reqDescribe tag data owner) := h.readable ho hr

/-! ### Frames by their kind -/

theorem frameRoute (h : KeepsLaws s t) : KeepsLaws s (t.frameRoute tag data) := by
  unfold State.frameRoute
  split
  · exact h.answerForm
  · split
    · exact h.reqZoneEnter
    · exact h.reqZoneExit
    · exact h.reqSchedule
    · exact h.reqCancel
    · exact h.answerForm

theorem frameEngine (h : KeepsLaws s t) : KeepsLaws s (t.frameEngine tag data) := by
  unfold State.frameEngine
  split
  · exact h.answerForm
  · split
    · exact h.reqEngineStart
    · exact h.reqEngineStop
    · exact h.reqAutoOn
    · exact h.reqAutoOff
    · exact h.reqResetFault
    · exact h.answerForm

theorem frameMode (h : KeepsLaws s t) : KeepsLaws s (t.frameMode tag data) := by
  cases data with
  | nil => exact h.answerForm
  | cons target rest => exact h.reqMode (ownerKeepsLaws_modeOwner target s) (answersNow_modeOwner target)

theorem frameFaults (h : KeepsLaws s t) : KeepsLaws s (t.frameFaults tag data) := by
  cases data with
  | nil => exact h.answerForm
  | cons page rest => exact h.reqFaults

theorem frameAccess (h : KeepsLaws s t) : KeepsLaws s (t.frameAccess tag data) := by
  cases data with
  | nil => exact h.answerForm
  | cons level rest => exact h.reqAccess (ownerKeepsLaws_accessOwner level s) (answersNow_accessOwner level)

theorem frameTunnel (h : KeepsLaws s t) : KeepsLaws s (t.frameTunnel tag data) := by
  unfold State.frameTunnel
  split
  · exact h.answerForm
  · split
    · exact h.reqTunnelSend
    · exact h.reqTunnelFetch
    · exact h.answerForm

theorem frameDescribe (h : KeepsLaws s t) : KeepsLaws s (t.frameDescribe tag data) := by
  cases data with
  | nil => exact h.answerForm
  | cons page rest => exact h.reqDescribe (readsOnly_pageOwner page) (answersNow_pageOwner page)

theorem hostFrame (h : KeepsLaws s t) (kind : Byte) : KeepsLaws s (t.hostFrame tag kind data) := by
  unfold State.hostFrame
  split
  · exact h.reqDemand
  · exact h.frameRoute
  · exact h.frameEngine
  · exact h.frameMode
  · exact h.reqStatus
  · exact h.reqNotices
  · exact h.reqEvents
  · exact h.reqWearRead
  · exact h.reqWearReset
  · exact h.reqConfigSet
  · exact h.reqConfigGet
  · exact h.frameFaults
  · exact h.reqFaultClear
  · exact h.reqResponseSet
  · exact h.frameAccess
  · exact h.frameTunnel
  · exact h.frameDescribe
  · exact h.answerForm

theorem countFraming (h : KeepsLaws s t) : KeepsLaws s t.countFraming := h.setHli

theorem framingError {cause} (h : KeepsLaws s t) : KeepsLaws s (t.framingError cause) := by
  unfold State.framingError
  refine ite h.hostEdge ?_
  split
  · unfold State.lengthByte
    split
    · exact h.countFraming
    · exact h.setHli
    · exact h.setHli
  · exact h.countFraming

theorem completeHostFrame {body crc} (h : KeepsLaws s t) : KeepsLaws s (t.completeHostFrame body crc) := by
  unfold State.completeHostFrame
  refine ite h.hostEdge (ite ?_ h.setHli)
  split
  · exact h.hostFrame _
  · exact h
  · exact h

theorem powered {act : State → State} (h : KeepsLaws s t) (ha : KeepsLaws s (act t)) (u : State) (hu : t.powered act = .next u) :
    KeepsLaws s u := by
  unfold State.powered at hu
  exact Host.Outcome.next.inj hu ▸ ite ha h

end KeepsLaws

/-- Every command keeps each law. -/
theorem exec_keepsLaws {s t : State} (i : Instr) (h : KeepsLaws s t) : ∀ u, exec i t = .next u → KeepsLaws s u := by
  cases i with
  | powerOn cut => exact fun u hu => Host.Outcome.next.inj hu ▸ .restart
  | nreset cut => exact h.powered .restart
  | nresync us => exact h.powered (.ite h h.hunt)
  | svcLow => exact fun u hu => Host.Outcome.next.inj hu ▸ h.svcFalls
  | svcHigh => exact fun u hu => Host.Outcome.next.inj hu ▸ h.setSvc_high
  | wakeOnHrx => exact h.powered h.hostEdge
  | wakeOnNode => exact h.powered h.nodeEdge
  | wakeEnd => exact h.powered h.endWake
  | hostFrameBadCrc body crc => exact h.powered h.completeHostFrame
  | hostFramingError cause => exact h.powered h.framingError
  | interByteGapTimeout us => exact h.powered (.ite h h.countFraming)
  | requestUnknownKind tag kind data => exact h.powered (h.hostFrame kind)
  | replyEnd => exact h.powered h.endReply
  | demand tag data => exact h.powered h.reqDemand
  | routeZoneEnter tag data => exact h.powered h.reqZoneEnter
  | routeZoneExit tag data => exact h.powered h.reqZoneExit
  | routeSchedule tag data => exact h.powered h.reqSchedule
  | routeCancel tag data => exact h.powered h.reqCancel
  | engineStart tag data => exact h.powered h.reqEngineStart
  | engineStop tag data => exact h.powered h.reqEngineStop
  | engineAutoOn tag data => exact h.powered h.reqAutoOn
  | engineAutoOff tag data => exact h.powered h.reqAutoOff
  | engineResetFault tag data => exact h.powered h.reqResetFault
  | modeReady tag data => exact h.powered (h.reqMode (fun _ hu => hu.takeModeReady) takeModeReady_reply)
  | modeStandby tag data => exact h.powered (h.reqMode (fun _ hu => hu.takeModeStandby) takeModeStandby_reply)
  | modeShutdown tag data => exact h.powered (h.reqMode (fun _ hu => hu.takeModeShutdown) takeModeShutdown_reply)
  | modePark tag data => exact h.powered (h.reqMode (fun _ hu => hu.takeModePark) takeModePark_reply)
  | modeHalt tag data => exact h.powered (h.reqMode (fun _ hu => hu.takeModeHalt) takeModeHalt_reply)
  | status tag data => exact h.powered h.reqStatus
  | notices tag data => exact h.powered h.reqNotices
  | events tag data => exact h.powered h.reqEvents
  | wearRead tag data => exact h.powered h.reqWearRead
  | wearReset tag data => exact h.powered h.reqWearReset
  | configSet tag data => exact h.powered h.reqConfigSet
  | configGet tag data => exact h.powered h.reqConfigGet
  | faultsList tag data => exact h.powered h.reqFaults
  | faultsTable tag data => exact h.powered h.reqFaults
  | faultClear tag data => exact h.powered h.reqFaultClear
  | responseSet tag data => exact h.powered h.reqResponseSet
  | accessDrive tag data => exact h.powered (h.reqAccess (fun _ hu => hu.takeAccessDrive) fun _ => nofun)
  | accessService tag data => exact h.powered (h.reqAccess (fun _ hu => hu.takeAccessService) takeAccessService_reply)
  | tunnelSend tag data => exact h.powered h.reqTunnelSend
  | tunnelFetch tag data => exact h.powered h.reqTunnelFetch
  | describeIdentity tag data => exact h.powered (h.reqDescribe (fun _ => rfl) fun _ => nofun)
  | describeCapacities tag data => exact h.powered (h.reqDescribe (fun _ => rfl) fun _ => nofun)
  | describeStore tag data => exact h.powered (h.reqDescribe (fun _ => rfl) fun _ => nofun)
  | freshnessTimerExpiry => exact h.powered (h.expireLive h.freshnessExpires)
  | lowSpeedTimerExpiry => exact h.powered (h.expireLive h.lowSpeedExpires)
  | slipHoldTimerExpiry => exact h.powered (h.expireLive h.setBbu)
  | staleTimerExpiry node => exact h.powered (h.expirePresence h.becomeStale)
  | lostTimerExpiry node => exact h.powered (h.expirePresence h.becomeLost)
  | crankTimerExpiry => exact h.powered (h.expireEngine h.attemptFails)
  | restTimerExpiry => exact h.powered (h.expireEngine h.restExpires)
  | cooldownTimerExpiry => exact h.powered (h.expireEngine fun _ => h.cooldownExpires)
  | stopTimerExpiry => exact h.powered (h.expireEngine h.stopExpires)
  | quietTimerExpiry => exact h.powered h.expireQuiet
  | periodicSaveTrigger => exact h.powered h.periodicTrigger
  | storeLoadComplete => exact h.powered h.endLoad
  | saveComplete readBack => exact h.powered h.saveCompletes
  | reportReceived source retry payload wave => exact h.powered (h.onLink h.wave)
  | tunnelFrameReceived source retry payload wave => exact h.powered (h.onLink h.wave)
  | nodeFrameRefused source cls retry payload wave => exact h.powered (h.onLink h.wave)
  | dnlFrameCrcError wave => exact h.powered (h.onLink h.wave)
  | noisePulse ns => exact h.powered (h.onLink h.dominantPulse)
  | busIdle taken => exact h.powered h.idleOnLink
  | busReset ns => exact h.powered (h.onLink h.dominantPulse)
  | frameCompletion wave => exact h.powered (h.whileLinked h.ownWave)
  | powerLoss cut => exact h.powered .losePower

/-- A step keeps each law: a tick of the time base, or the front command on the queue's rest. -/
theorem step_keepsLaws {s t : State} (h : step s = .next t) : KeepsLaws s t := by
  unfold step at h
  split at h
  · exact Host.Outcome.next.inj h ▸ (KeepsLaws.refl s).tick
  · exact exec_keepsLaws _ (KeepsLaws.refl s).setPending t h

/-! ## 9. The obligations -/

/-- Settles O52, by `step_keepsLaws`. -/
theorem stepsKeepTheHostLinkLaws : Obligations.StepsKeepTheHostLinkLaws :=
  fun _ _ h => ⟨(step_keepsLaws h).access, (step_keepsLaws h).reply⟩

/-- Settles O54, by `step_keepsLaws`. -/
theorem stepsKeepTheRingLaw : Obligations.StepsKeepTheRingLaw := fun _ _ hl h => (step_keepsLaws h).ring hl

/-- Settles O55: the bounds of k by `effFactor_bounds`, the step by `step_keepsLaws`. -/
theorem stepsKeepTheFaultLaw : Obligations.StepsKeepTheFaultLaw :=
  fun _ hl => ⟨effFactor_bounds fun e he => (hl.entries e he).2.1, fun _ h => (step_keepsLaws h).fault hl⟩

/-- Settles O56, by `step_keepsLaws`. -/
theorem stepsKeepTheParameterLaw : Obligations.StepsKeepTheParameterLaw := fun _ _ hl h => (step_keepsLaws h).param hl

/-- Settles O57, by `step_keepsLaws`. -/
theorem stepsKeepTheEngineLaws : Obligations.StepsKeepTheEngineLaws :=
  fun _ _ h => ⟨(step_keepsLaws h).engine, (step_keepsLaws h).zone⟩

/-- Settles O58, by `step_keepsLaws`. -/
theorem stepsKeepThePresenceLaw : Obligations.StepsKeepThePresenceLaw := fun _ _ hl h => (step_keepsLaws h).presence hl

/-- Settles O59, by `step_keepsLaws`. -/
theorem stepsKeepTheWearLaw : Obligations.StepsKeepTheWearLaw := fun _ _ hl h => (step_keepsLaws h).wear hl

/-- Settles O60: the queue law by `QueueLaw.restart`, the others by `State.afterReset_laws`. -/
theorem resetMeetsEveryLaw : Obligations.ResetMeetsEveryLaw := by
  obtain ⟨ha, hr, hl, hf, hp, he, hn, hw, hz⟩ := State.afterReset_laws .neverWritten false []
  have hq : QueueLaw State.reset := .of_core queueCore_nil (by decide)
  exact ⟨ha, hr, hq, hl, hf, hp, he, hn, hw, hz⟩

end Sys2Proof.Machine

/-! # The supply, the pins and the host link

Steps, frames of every command (O3), reset (O4), the SVC pin and the wake (O6, O7), what the HLI discards, answers and checks (O8 to
O10), and the end of a reply (O11). -/

namespace Sys2Proof.Machine

-- In order: proofs elaborated side by side wait for one another in too many threads.
set_option Elab.async false

/-! ## 1. Every command stays within its blocks -/

/-- Every field but the model's queue. -/
def allButPending : List Block :=
  [.supply, .mode, .progress, .waking, .keep, .slowClock, .runTime, .svc, .params, .hli, .demand, .nlc, .nodes, .bbu, .psu, .esc,
    .log, .wear, .faults, .notices]

/-- An operation that changes no field but the listed ones. -/
def Within (bs : List Block) (act : State → State) : Prop := ∀ s, OnlyChanges bs s (act s)

section
variable {bs : List Block} {s : State}

theorem Within.mono {as : List Block} {act : State → State} (h : Within as act) (hs : as ⊆ bs) : Within bs act := fun s => (h s).mono hs

theorem Within.ite {c : State → Prop} [DecidablePred c] {a b : State → State} (ha : Within bs a) (hb : Within bs b) :
    Within bs (fun s => if c s then a s else b s) := fun s => OnlyChanges.ite.mpr ⟨fun _ => ha s, fun _ => hb s⟩

/-- A request stays within the blocks of its owner, the host link and the waking flag (R9, R207, R208). -/
theorem within_request {tag kind : Byte} {confirmed inHalted : Bool} {form : Form} {owner : Fin 4 → State → Taken}
    (hb : [.waking, .hli] ⊆ bs) (ho : ∀ i, Within bs fun u => (owner i u).state) :
    Within bs (State.request tag kind confirmed inHalted form owner) := by
  intro s
  have hw : [.waking] ⊆ bs := fun b h => hb (by simp_all)
  have hh : [.hli] ⊆ bs := fun b h => hb (by simp_all)
  have hslot : ∀ i, OnlyChanges bs s ((s.setHli { s.hli with framer := .hunt }).takeSlot i ⟨tag, kind, false⟩) := fun i => by simp [hh]
  unfold State.request
  split
  · simp [hw]
  · dsimp only
    split
    · simp [hh]
    · split
      · simp [hh]
      · next i _ =>
        split
        · simpa [hh] using hslot i
        · simpa [hh] using hslot i
        · simpa [hh] using hslot i
        · split
          · simpa [hh] using hslot i
          · split <;> simpa [hh] using (hslot i).trans (ho i _)

theorem within_plain {tag kind : Byte} {ok : Bool} {owner : State → Taken} (ho : Within bs fun u => (owner u).state)
    (hb : [.waking, .hli] ⊆ bs := by decide) : Within bs (State.plain tag kind ok owner) := within_request hb fun _ => ho

theorem within_readable {tag kind : Byte} {ok : Bool} {owner : State → Taken} (ho : Within bs fun u => (owner u).state)
    (hb : [.waking, .hli] ⊆ bs := by decide) : Within bs (State.readable tag kind ok owner) := within_request hb fun _ => ho

/-- A frame that R207 answers alone. -/
theorem within_answerForm {tag kind : Byte} {form : Form} : Within [.waking, .hli] (State.answerForm tag kind form) :=
  within_request (by decide) fun _ u => .refl _ u

theorem answersNowhere (tag kind : Byte) (form : Form) (s : State) : OnlyChanges allButPending s (s.answerForm tag kind form) :=
  within_answerForm.mono (by decide) s

/-! ### Each request -/

variable {tag : Byte} {data : List Byte}

theorem within_reqDemand : Within (.waking :: .hli :: .demand :: .psu :: raiseBlocks) (State.reqDemand tag data) :=
  within_plain fun u => by simp (disch := decide)
theorem within_reqZoneEnter : Within (.waking :: .hli :: .demand :: raiseBlocks) (State.reqZoneEnter tag data) :=
  within_plain fun u => by simp (disch := decide)
theorem within_reqZoneExit : Within (.waking :: .hli :: .demand :: engineBlocks) (State.reqZoneExit tag data) :=
  within_plain fun u => by simp (disch := decide)
theorem within_reqSchedule : Within (.waking :: .hli :: engineBlocks) (State.reqSchedule tag data) :=
  within_plain fun u => by simp (disch := decide)
theorem within_reqCancel : Within [.waking, .hli, .esc] (State.reqCancel tag data) :=
  within_plain fun u => by simp (disch := decide)
theorem within_reqEngineStart : Within (.waking :: .hli :: engineBlocks) (State.reqEngineStart tag data) :=
  within_plain fun u => by simp (disch := decide)
theorem within_reqEngineStop : Within (.waking :: .hli :: engineBlocks) (State.reqEngineStop tag data) :=
  within_plain fun u => by simp (disch := decide)
theorem within_reqAutoOn : Within (.waking :: .hli :: engineBlocks) (State.reqAutoOn tag data) :=
  within_plain fun u => by simp (disch := decide)
theorem within_reqAutoOff : Within [.waking, .hli, .esc] (State.reqAutoOff tag data) :=
  within_plain fun u => by simp (disch := decide)


/-- Outside SHUTDOWN no change of the machine state ends a wait for the engine (R6). -/
theorem State.setEngine_only_outside_shutdown {m : EngineState} (hm : s.mode ≠ .shutdown) :
    OnlyChanges [.esc, .notices, .faults] s (s.setEngine m) := by
  let u := (s.setEsc { s.esc with machine := m, offDwell := if m = .off then 0 else s.esc.offDwell }).notify .engine m.code
  let v := if s.esc.machine = .fault then u.endCauses [.crankFail, .stopFail] else u
  have hv : OnlyChanges [.esc, .notices, .faults] s v := by simp (disch := decide) [u, v]
  have hmode : v.mode = s.mode := hv .mode (by decide)
  have hw : v.waitsForEngine m = false := by simp [State.waitsForEngine, hmode, hm]
  have hset : s.setEngine m = if s.esc.machine = m then s else if v.waitsForEngine m then v.endEngineWait else v := rfl
  rw [hset, hw]
  exact OnlyChanges.ite.mpr ⟨fun _ => .refl _ s, fun _ => hv⟩

theorem State.takeResetFault_only : OnlyChanges [.esc, .notices, .faults] s s.takeResetFault.state := by
  have leaves (m) (hm : s.mode ≠ .shutdown) : OnlyChanges [.esc, .notices, .faults] s (s.leaveFault m) :=
    (by simp : OnlyChanges [.esc, .notices, .faults] s (s.setEsc { s.esc with attempts := 0, stopExpiries := 0 })).trans
      (State.setEngine_only_outside_shutdown (by simpa [State.setEsc] using hm))
  unfold State.takeResetFault
  split
  · exact .refl _ s
  · next hm =>
    split
    · split
      · exact leaves .off hm
      · exact leaves .run hm
      all_goals exact .refl _ s
    · exact .refl _ s

theorem within_reqResetFault : Within [.waking, .hli, .esc, .notices, .faults] (State.reqResetFault tag data) :=
  within_plain fun _ => State.takeResetFault_only.mono (by decide)
theorem within_modePark : Within [.mode, .progress, .waking, .keep, .slowClock, .hli, .demand, .nlc, .nodes, .bbu, .faults, .notices] (State.reqMode tag data State.takeModePark) :=
  within_plain fun u => by simp (disch := decide)
theorem within_modeStandby : Within (.mode :: .waking :: .hli :: .demand :: .psu :: raiseBlocks) (State.reqMode tag data State.takeModeStandby) :=
  within_plain fun u => by simp (disch := decide)
theorem within_modeReady : Within [.mode, .waking, .hli, .demand, .notices] (State.reqMode tag data State.takeModeReady) :=
  within_plain fun u => by simp (disch := decide)
theorem within_modeShutdown : Within (.mode :: .waking :: .hli :: .demand :: .psu :: raiseBlocks) (State.reqMode tag data State.takeModeShutdown) :=
  within_plain fun u => by simp (disch := decide)
theorem within_modeHalt : Within [.mode, .progress, .waking, .hli, .nlc, .log, .notices] (State.reqMode tag data State.takeModeHalt) :=
  within_plain fun u => by simp (disch := decide)
theorem within_reqStatus : Within [.waking, .hli] (State.reqStatus tag data) := within_readable fun u => .refl _ u
theorem within_reqNotices : Within [.waking, .hli, .notices] (State.reqNotices tag data) :=
  within_plain fun u => by simp (disch := decide)
theorem within_reqEvents : Within [.waking, .hli] (State.reqEvents tag data) := within_plain fun u => .refl _ u
theorem within_reqWearRead : Within [.waking, .hli] (State.reqWearRead tag data) := within_plain fun u => .refl _ u
theorem within_reqWearReset : Within [.waking, .hli, .wear, .faults, .notices] (State.reqWearReset tag data) :=
  within_plain fun u => by simp (disch := decide)
theorem within_reqConfigSet : Within (.waking :: .params :: .hli :: .nodes :: raiseBlocks) (State.reqConfigSet tag data) :=
  within_plain fun u => by simp (disch := decide)
theorem within_reqConfigGet : Within [.waking, .hli] (State.reqConfigGet tag data) :=
  within_plain fun u => by simp
theorem within_reqFaults {page : Byte} : Within [.waking, .hli] (State.reqFaults tag page data) := within_plain fun u => by simp
theorem within_reqFaultClear : Within [.waking, .hli, .faults, .notices] (State.reqFaultClear tag data) :=
  within_plain fun u => by simp (disch := decide)
theorem within_reqResponseSet : Within [.waking, .hli, .faults] (State.reqResponseSet tag data) :=
  within_plain fun u => by simp (disch := decide)
theorem within_accessDrive : Within [.waking, .hli] (State.reqAccess tag data State.takeAccessDrive) :=
  within_plain fun u => by simp (disch := decide)
theorem within_accessService : Within [.waking, .hli] (State.reqAccess tag data State.takeAccessService) :=
  within_plain fun u => by simp (disch := decide)
theorem within_reqTunnelSend : Within [.waking, .hli, .nlc] (State.reqTunnelSend tag data) :=
  within_request (by decide) fun i u => by simp (disch := decide)
theorem within_reqTunnelFetch : Within [.waking, .hli, .nlc] (State.reqTunnelFetch tag data) :=
  within_plain fun u => by simp (disch := decide)
theorem within_reqDescribe {owner : State → Taken} (ho : ReadsOnly owner) :
    Within [.waking, .hli] (State.reqDescribe tag data owner) :=
  within_readable fun u => by
    show OnlyChanges _ u (owner u).state
    rw [ho u]
    exact .refl _ u

/-! ### Frames by their kind -/

theorem within_modeOwner (target : Byte) : Within allButPending fun u => (modeOwner target u).state := by
  intro u
  generalize ho : modeOwner target = owner
  unfold modeOwner at ho
  split at ho <;> subst ho <;> simp (disch := decide)

theorem within_accessOwner (level : Byte) : Within allButPending fun u => (accessOwner level u).state := by
  intro u
  generalize ho : accessOwner level = owner
  unfold accessOwner at ho
  split at ho <;> subst ho <;> simp (disch := decide)

/-- A completed frame of any kind leaves the model's queue. -/
theorem within_hostFrame (tag kind : Byte) (data : List Byte) : Within allButPending (State.hostFrame tag kind data) := by
  have hform {kind : Byte} {form : Form} : Within allButPending (State.answerForm tag kind form) := within_answerForm.mono (by decide)
  intro s
  unfold State.hostFrame
  split
  · exact within_reqDemand.mono (by decide) s
  · unfold State.frameRoute
    split
    · exact hform s
    · split
      · exact within_reqZoneEnter.mono (by decide) s
      · exact within_reqZoneExit.mono (by decide) s
      · exact within_reqSchedule.mono (by decide) s
      · exact within_reqCancel.mono (by decide) s
      · exact hform s
  · unfold State.frameEngine
    split
    · exact hform s
    · split
      · exact within_reqEngineStart.mono (by decide) s
      · exact within_reqEngineStop.mono (by decide) s
      · exact within_reqAutoOn.mono (by decide) s
      · exact within_reqAutoOff.mono (by decide) s
      · exact within_reqResetFault.mono (by decide) s
      · exact hform s
  · unfold State.frameMode
    split
    · exact hform s
    · exact within_plain (within_modeOwner _) (by decide) s
  · exact within_reqStatus.mono (by decide) s
  · exact within_reqNotices.mono (by decide) s
  · exact within_reqEvents.mono (by decide) s
  · exact within_reqWearRead.mono (by decide) s
  · exact within_reqWearReset.mono (by decide) s
  · exact within_reqConfigSet.mono (by decide) s
  · exact within_reqConfigGet.mono (by decide) s
  · unfold State.frameFaults
    split
    · exact hform s
    · exact within_reqFaults.mono (by decide) s
  · exact within_reqFaultClear.mono (by decide) s
  · exact within_reqResponseSet.mono (by decide) s
  · unfold State.frameAccess
    split
    · exact hform s
    · exact within_plain (within_accessOwner _) (by decide) s
  · unfold State.frameTunnel
    split
    · exact hform s
    · split
      · exact within_reqTunnelSend.mono (by decide) s
      · exact within_reqTunnelFetch.mono (by decide) s
      · exact hform s
  · unfold State.frameDescribe
    split
    · exact hform s
    · exact (within_reqDescribe (readsOnly_pageOwner _)).mono (by decide) s
  · exact hform s

/-- A sub-operation, target, level or page that no row names. -/
theorem head_beyond {n : Nat} {sub : Byte} {rest : List Byte} (h : decide (n < (((sub :: rest).head?.map BitVec.toNat).getD 256)) = true) :
    n < sub.toNat := of_decide_eq_true h

/-- A frame that no other row names changes the host link alone (R207). -/
theorem within_hostFrame_unnamed {kind : Byte} (h : unnamed kind data = true) : Within [.waking, .hli] (State.hostFrame tag kind data) := by
  intro s
  unfold State.hostFrame
  split
  case h_2 hk =>
    simp only [unnamed, hk] at h
    unfold State.frameRoute
    split
    · exact within_answerForm s
    · have := head_beyond h
      split <;> first | omega | exact within_answerForm s
  case h_3 hk =>
    simp only [unnamed, hk] at h
    unfold State.frameEngine
    split
    · exact within_answerForm s
    · have := head_beyond h
      split <;> first | omega | exact within_answerForm s
  case h_4 hk =>
    simp only [unnamed, hk] at h
    unfold State.frameMode
    split
    · exact within_answerForm s
    · have := head_beyond h
      unfold modeOwner
      split <;> first | omega | exact within_plain (fun u => .refl _ u) (by decide) s
  case h_12 hk =>
    unfold State.frameFaults
    split
    · exact within_answerForm s
    · exact within_reqFaults s
  case h_15 hk =>
    simp only [unnamed, hk] at h
    unfold State.frameAccess
    split
    · exact within_answerForm s
    · have := head_beyond h
      unfold accessOwner
      split <;> first | omega | exact within_plain (fun u => .refl _ u) (by decide) s
  case h_16 hk =>
    simp only [unnamed, hk] at h
    unfold State.frameTunnel
    split
    · exact within_answerForm s
    · have := head_beyond h
      split <;> first | omega | exact within_answerForm s
  case h_17 hk =>
    unfold State.frameDescribe
    split
    · exact within_answerForm s
    · exact within_reqDescribe (readsOnly_pageOwner _) s
  case h_18 => exact within_answerForm s
  all_goals next hk => simp [unnamed, hk] at h

/-! ### Every command -/

/-- What O3 says of a command and a state. -/
def StaysWithin (c : Instr) (s : State) : Prop :=
  ∃ t, exec c s = .next t ∧ t.pending = s.pending ∧ (wellFormed c = true → OnlyChanges (touched c) s t)

theorem pending_notMem_touched (c : Instr) : .pending ∉ touched c := by
  cases c <;> simp [touched, resetBlocks, waveBlocks, raiseBlocks, engineBlocks]

theorem StaysWithin.of_next {c : Instr} {act : State → State}
    (hc : exec c s = .next (act s)) (h : Within (touched c) act) : StaysWithin c s :=
  ⟨_, hc, h s .pending (pending_notMem_touched c), fun _ => h s⟩

/-- A powered part does the command's operation, and an unpowered one does nothing. -/
theorem StaysWithin.of_powered {c : Instr} {act : State → State}
    (hc : exec c s = s.powered act) (h : Within (touched c) act) : StaysWithin c s :=
  .of_next (act := fun s => if s.supply = .on then act s else s) hc (Within.ite h fun u => .refl _ u)

/-- The same for a command whose blocks hold for well-formed operands alone. -/
theorem StaysWithin.of_wellFormed {c : Instr} {act : State → State} (hc : exec c s = s.powered act)
    (h : wellFormed c = true → Within (touched c) act) (hp : Within allButPending act) : StaysWithin c s :=
  ⟨_, hc, (OnlyChanges.ite.mpr ⟨fun _ => hp s, fun _ => .refl _ s⟩ : OnlyChanges allButPending s _) .pending (by decide),
    fun hw => OnlyChanges.ite.mpr ⟨fun _ => h hw s, fun _ => .refl _ s⟩⟩

theorem within_expire {timer : State → Timer} {act : State → State} (h : Within bs act) :
    Within bs fun s => s.expire (timer s) act := Within.ite h fun u => .refl _ u

theorem within_expireLive {timer : State → Timer} {act : State → State} (h : Within bs act) :
    Within bs (State.expireLive timer act) := Within.ite (within_expire h) fun u => .refl _ u

theorem within_expireEngine {m : EngineState} {timer : State → Timer} {act : State → State} (h : Within bs act) :
    Within bs (State.expireEngine m timer act) := Within.ite (within_expireLive h) fun u => .refl _ u

theorem within_expirePresence {timer : Timer} {act : State → State} (h : Within bs act) :
    Within bs (State.expirePresence timer act) :=
  Within.ite (fun u => .refl _ u) fun _ => OnlyChanges.ite.mpr ⟨fun _ => h _, fun _ => .refl _ _⟩

theorem within_onLink {act : State → State} (hb : [.waking] ⊆ bs) (h : Within bs act) : Within bs (State.onLink act) :=
  Within.ite h fun u => by simp [hb]

theorem within_restart (cut : WriteCut) : Within resetBlocks (State.restart cut) := by
  intro u b hb
  cases b <;> first | rfl | exact absurd (by decide) hb

theorem within_losePower (cut : WriteCut) : Within resetBlocks (State.losePower cut) := fun u =>
  (within_restart cut u).trans (by unfold State.losePower; simp (disch := decide))

/-- A completed frame with a wrong CRC counts; one with a good CRC is the request it spells. -/
theorem within_completeHostFrame (body : List Byte) (crc : BitVec 16) : Within allButPending (State.completeHostFrame body crc) := by
  intro u
  unfold State.completeHostFrame
  split
  · simp (disch := decide)
  · split
    · split
      · exact within_hostFrame _ _ _ u
      all_goals exact .refl _ u
    · simp (disch := decide)

theorem within_badFrame {body : List Byte} {crc : BitVec 16} (h : badFrame body crc = true) :
    Within [.waking, .hli] (State.completeHostFrame body crc) := by
  have hcrc : crc16 (byte body.length :: body) ≠ crc := by
    simp only [badFrame, Bool.and_eq_true, bne_iff_ne] at h
    exact h.2
  intro u
  unfold State.completeHostFrame
  simp only [if_neg hcrc]
  split
  · simp (disch := decide)
  · simp (disch := decide)

theorem within_dominantPulse (ns : Nat) : Within waveBlocks (State.dominantPulse ns) := fun u => by simp (disch := decide) [waveBlocks]

/-- A pulse too short for a break is noise (R21, R22). -/
theorem within_noisePulse {ns : Nat} (h : classifyPulse ns ≠ .brk) : Within [.waking, .nlc] (State.dominantPulse ns) := fun u => by
  unfold State.dominantPulse
  split
  · simp (disch := decide)
  · contradiction
  all_goals simp (disch := decide)

end

/-- Settles O3: each command is a powered part's operation, and each operation stays within the blocks of the rules it follows. -/
theorem everyCommandAnswersWithinItsFrame : Obligations.EveryCommandAnswersWithinItsFrame := by
  intro c s
  change StaysWithin c s
  cases c with
  | powerOn cut => exact .of_next rfl (within_restart cut)
  | nreset cut => exact .of_powered rfl (within_restart cut)
  | powerLoss cut => exact .of_powered rfl (within_losePower cut)
  | nresync us => exact .of_powered rfl fun u => by simp (disch := decide) [touched]
  | svcLow => exact .of_next (act := State.svcFalls) rfl fun u => by unfold State.svcFalls; simp (disch := decide) [touched]
  | svcHigh => exact .of_next (act := fun s => s.setSvc true) rfl fun u => by simp (disch := decide) [touched]
  | wakeOnHrx => exact .of_powered rfl fun u => by simp (disch := decide) [touched]
  | wakeOnNode => exact .of_powered rfl fun u => by simp (disch := decide) [touched]
  | wakeEnd => exact .of_powered rfl (Within.ite (fun u => by simp (disch := decide) [touched]) fun u => .refl _ u)
  | hostFrameBadCrc body crc => exact .of_wellFormed rfl within_badFrame (within_completeHostFrame body crc)
  | hostFramingError cause => exact .of_powered rfl fun u => by simp (disch := decide) [touched]
  | interByteGapTimeout us => exact .of_powered rfl fun u => by simp (disch := decide) [touched]
  | requestUnknownKind tag kind data =>
    exact .of_wellFormed rfl (fun h => within_hostFrame_unnamed (by simp only [wellFormed, Bool.and_eq_true] at h; exact h.2))
      (within_hostFrame tag kind data)
  | replyEnd => exact .of_powered rfl fun u => by simp (disch := decide) [touched]
  | demand => exact .of_powered rfl within_reqDemand
  | routeZoneEnter => exact .of_powered rfl within_reqZoneEnter
  | routeZoneExit => exact .of_powered rfl within_reqZoneExit
  | routeSchedule => exact .of_powered rfl within_reqSchedule
  | routeCancel => exact .of_powered rfl within_reqCancel
  | engineStart => exact .of_powered rfl within_reqEngineStart
  | engineStop => exact .of_powered rfl within_reqEngineStop
  | engineAutoOn => exact .of_powered rfl within_reqAutoOn
  | engineAutoOff => exact .of_powered rfl within_reqAutoOff
  | engineResetFault => exact .of_powered rfl within_reqResetFault
  | modeReady => exact .of_powered rfl within_modeReady
  | modeStandby => exact .of_powered rfl within_modeStandby
  | modeShutdown => exact .of_powered rfl within_modeShutdown
  | modePark => exact .of_powered rfl within_modePark
  | modeHalt => exact .of_powered rfl within_modeHalt
  | status => exact .of_powered rfl within_reqStatus
  | notices => exact .of_powered rfl within_reqNotices
  | events => exact .of_powered rfl within_reqEvents
  | wearRead => exact .of_powered rfl within_reqWearRead
  | wearReset => exact .of_powered rfl within_reqWearReset
  | configSet => exact .of_powered rfl within_reqConfigSet
  | configGet => exact .of_powered rfl within_reqConfigGet
  | faultsList => exact .of_powered rfl within_reqFaults
  | faultsTable => exact .of_powered rfl within_reqFaults
  | faultClear => exact .of_powered rfl within_reqFaultClear
  | responseSet => exact .of_powered rfl within_reqResponseSet
  | accessDrive => exact .of_powered rfl within_accessDrive
  | accessService => exact .of_powered rfl within_accessService
  | tunnelSend => exact .of_powered rfl within_reqTunnelSend
  | tunnelFetch => exact .of_powered rfl within_reqTunnelFetch
  | describeIdentity => exact .of_powered rfl (within_reqDescribe fun _ => rfl)
  | describeCapacities => exact .of_powered rfl (within_reqDescribe fun _ => rfl)
  | describeStore => exact .of_powered rfl (within_reqDescribe fun _ => rfl)
  | freshnessTimerExpiry => exact .of_powered rfl (within_expireLive fun u => by simp (disch := decide) [touched])
  | lowSpeedTimerExpiry => exact .of_powered rfl (within_expireLive fun u => by simp (disch := decide) [touched])
  | slipHoldTimerExpiry => exact .of_powered rfl (within_expireLive fun u => by unfold State.endSlipHold; simp (disch := decide))
  | staleTimerExpiry => exact .of_powered rfl (within_expirePresence fun u => by simp (disch := decide) [touched])
  | lostTimerExpiry => exact .of_powered rfl (within_expirePresence fun u => by simp (disch := decide) [touched])
  | crankTimerExpiry => exact .of_powered rfl (within_expireEngine fun u => by simp (disch := decide) [touched])
  | restTimerExpiry => exact .of_powered rfl (within_expireEngine fun u => by simp (disch := decide) [touched])
  | cooldownTimerExpiry => exact .of_powered rfl (within_expireEngine fun u => by simp (disch := decide) [touched])
  | stopTimerExpiry => exact .of_powered rfl (within_expireEngine fun u => by simp (disch := decide) [touched])
  | quietTimerExpiry =>
    exact .of_powered rfl (Within.ite (fun u => .refl _ u) (within_expire fun u => by simp (disch := decide) [touched]))
  | periodicSaveTrigger =>
    exact .of_powered rfl (Within.ite (fun u => by simp (disch := decide) [touched]) fun u => .refl _ u)
  | storeLoadComplete => exact .of_powered rfl (Within.ite (fun u => by simp (disch := decide) [touched]) fun u => .refl _ u)
  | saveComplete => exact .of_powered rfl fun u => by simp (disch := decide) [touched]
  | reportReceived => exact .of_powered rfl (within_onLink (by simp [touched, waveBlocks]) fun u => by simp (disch := decide) [touched])
  | tunnelFrameReceived => exact .of_powered rfl (within_onLink (by simp [touched, waveBlocks]) fun u => by simp (disch := decide) [touched])
  | nodeFrameRefused => exact .of_powered rfl (within_onLink (by simp [touched, waveBlocks]) fun u => by simp (disch := decide) [touched])
  | dnlFrameCrcError => exact .of_powered rfl (within_onLink (by simp [touched, waveBlocks]) fun u => by simp (disch := decide) [touched])
  | noisePulse ns =>
    exact .of_wellFormed rfl (fun h => within_onLink (by simp [touched, waveBlocks]) (within_noisePulse (by simpa [wellFormed] using h)))
      ((within_onLink (by simp [touched, waveBlocks]) (within_dominantPulse ns)).mono (by decide))
  | busIdle => exact .of_powered rfl (Within.ite (fun u => by simp (disch := decide) [touched]) fun u => by simp (disch := decide) [touched])
  | busReset ns => exact .of_powered rfl (within_onLink (by simp [touched, waveBlocks]) (within_dominantPulse ns))
  | frameCompletion => exact .of_powered rfl (Within.ite (fun u => by simp (disch := decide) [touched]) fun u => .refl _ u)


/-! ## 2. Steps, reset, the SVC pin and the wake -/

/-- Settles O1, by the definition of a step. -/
theorem stepRunsFrontCommand : Obligations.StepRunsFrontCommand := by
  intro c rest s h
  simp [step, h]

/-- Settles O6. -/
theorem svcPinHoldsTheAccessLevel : Obligations.SvcPinHoldsTheAccessLevel := by
  intro s
  refine ⟨⟨s.svcFalls, rfl, rfl, rfl, ?_⟩, ⟨s.setSvc true, rfl, rfl, ?_⟩⟩
  · unfold State.svcFalls
    simp (disch := decide)
  · simp (disch := decide)

/-- An unpowered part takes no command that goes through its supply (log 9). -/
theorem State.powered_off {s : State} (h : s.supply = .off) (act : State → State) : s.powered act = .next s := by
  simp [State.powered, h]

theorem exec_unpowered {c : Instr} {s : State} (h : s.supply = .off) (hp : ∀ cut, c ≠ .powerOn cut) (hl : c ≠ .svcLow)
    (hh : c ≠ .svcHigh) : exec c s = .next s := by
  cases c with
  | powerOn cut => exact absurd rfl (hp cut)
  | svcLow => exact absurd rfl hl
  | svcHigh => exact absurd rfl hh
  | _ => exact State.powered_off h _

/-- After a reset every parameter stands at its default (R1, R218). -/
theorem State.par_afterReset (store : StoreContents) (svc : Bool) (pending : List Instr) (p : Param) :
    (State.afterReset store svc pending).par p = (paramRow p).dflt := by
  cases p <;> rfl

theorem State.noticeOf_afterReset (store : StoreContents) (svc : Bool) (pending : List Instr) (k : NoticeKind) :
    (State.afterReset store svc pending).noticeOf k = ⟨false, 0, 0⟩ := by
  cases k <;> rfl

theorem State.nattnLow_afterReset (store : StoreContents) (svc : Bool) (pending : List Instr) :
    (State.afterReset store svc pending).nattnLow = false := by
  have clear : ∀ i : Fin 10, noNotices[i].pending = false := by decide
  have hn : (State.afterReset store svc pending).notices = noNotices := rfl
  unfold State.nattnLow
  simp only [hn, clear, Bool.false_and]
  simp

/-- Settles O4. -/
theorem resetsStartEveryBlock : Obligations.ResetsStartEveryBlock := by
  intro cut s
  refine ⟨fun c hc => ⟨s.restart cut, ?_, rfl, rfl, rfl, rfl, rfl, rfl, rfl, State.par_afterReset _ _ _, rfl, rfl, rfl, rfl, rfl, rfl, rfl,
    rfl, rfl, rfl, State.noticeOf_afterReset _ _ _, State.nattnLow_afterReset _ _ _, rfl, rfl⟩, fun hon => ⟨s.losePower cut, State.powered_on hon _, rfl, rfl, rfl,
    rfl, fun c => exec_unpowered rfl⟩, fun h => ?_, fun job h => ⟨?_, ?_, ?_⟩⟩
  · rcases hc with rfl | ⟨rfl, hon⟩
    · rfl
    · exact State.powered_on hon _
  all_goals simp [WearUnit.cutStore, h]

/-- A reply that becomes ready moves nothing a wake keeps: the counters (R209, R211). -/
theorem State.woken_releaseReply (status : Byte) (code : Option Completion) (e : Entry) (s : State) :
    (s.releaseReply status code e).hli.woken = s.hli.woken := by
  unfold State.releaseReply State.ready
  split
  · split <;> rfl
  all_goals rfl

theorem State.woken_foldl_releaseReply (status : Byte) (code : Option Completion) (es : List Entry) (s : State) :
    (es.foldl (fun s e => s.releaseReply status code e) s).hli.woken = s.hli.woken := by
  induction es generalizing s with
  | nil => rfl
  | cons e es ih => rw [List.foldl_cons, ih, State.woken_releaseReply]

/-- The link and the counters after a wake (R9, R42; log 16). -/
theorem State.rejoinLink_spec (s : State) :
    OnlyChanges [.hli, .nlc] s s.rejoinLink ∧ s.rejoinLink.hli.woken = s.hli.woken ∧
      s.rejoinLink.nlc = { s.nlc with queue := [], tx := .idle, bus := .waiting, link := .up, breakDue := false, ack := none } := by
  let u := s.setNlc { s.nlc with queue := [], tx := .idle, bus := .waiting, link := .up, breakDue := false, ack := none }
  have hrest : OnlyChanges [.hli] u s.rejoinLink :=
    OnlyChanges.foldl (fun t e => State.releaseReply_only _ _ e t) _ u
  refine ⟨OnlyChanges.trans (by simp [u]) (hrest.mono (by decide)), State.woken_foldl_releaseReply _ _ _ u, hrest .nlc (by decide)⟩

theorem State.noted_of_notices {s t : State} {k : NoticeKind} {detail : Nat} {u : State} (h : Noted k detail s u)
    (hu : OnlyChanges [.mode, .waking, .keep, .slowClock, .hli, .nlc, .esc] u t) : Noted k detail s t := by
  unfold Noted State.noticeOf at h ⊢
  rw [show t.notices = u.notices from hu .notices (by decide)]
  exact h

/-- The state after a wake (R9, R42, R140, R211). -/
theorem State.wakeEnds_spec (s : State) :
    s.wakeEnds.mode = .standby ∧ s.wakeEnds.keep = true ∧ s.wakeEnds.slowClock = false ∧ s.wakeEnds.waking = false ∧
      s.wakeEnds.nlc = { s.nlc with queue := [], tx := .idle, bus := .waiting, link := .up, breakDue := false, ack := none } ∧
      s.wakeEnds.esc = { s.esc with auto := s.par .autoReset != 0, window := true } ∧ s.wakeEnds.hli = s.hli.woken ∧
      Noted .mode 1 s s.wakeEnds ∧
      OnlyChanges [.mode, .waking, .keep, .slowClock, .hli, .nlc, .esc, .notices] s s.wakeEnds := by
  let u := (((s.enterMode .standby).setKeep true).setSlowClock false).setWaking false
  let v := u.rejoinLink
  obtain ⟨hv, hwoken, hnlc⟩ := State.rejoinLink_spec u
  have hmode : (s.enterMode .standby).mode = .standby := (State.enterMode_spec .standby s).1
  have hnoted : Noted .mode 1 s (s.enterMode .standby) := (State.enterMode_spec .standby s).2.1
  have hu : OnlyChanges [.mode, .notices, .keep, .slowClock, .waking] s u := by
    have hstandby : s.enterMode .standby = (s.setMode .standby).notify .mode 1 := rfl
    simp [u, hstandby]
  have hesc : v.esc = s.esc := (hv .esc (by decide)).trans (hu .esc (by decide))
  have hpar : v.par .autoReset = s.par .autoReset := (hv.par (by decide) _).trans (hu.par (by decide) _)
  have hw : s.wakeEnds = (v.setHli v.hli.woken).setEsc { v.esc with auto := v.par .autoReset != 0, window := true } := rfl
  refine ⟨?_, ?_, ?_, ?_, ?_, ?_, ?_, ?_, by simp (disch := decide)⟩
  · exact (hv .mode (by decide)).trans hmode
  · exact hv .keep (by decide)
  · exact hv .slowClock (by decide)
  · exact hv .waking (by decide)
  · exact hnlc.trans (by rw [show u.nlc = s.nlc from hu .nlc (by decide)])
  · rw [hw]; simp [hesc, hpar]
  · rw [hw]; simpa using hwoken.trans (by rw [show u.hli = s.hli from hu .hli (by decide)])
  · have hsets : OnlyChanges [.keep, .slowClock, .waking] (s.enterMode .standby) u := by simp [u]
    have hlast : OnlyChanges [.hli, .esc] v s.wakeEnds := by rw [hw]; simp
    exact State.noted_of_notices hnoted ((hsets.mono (by decide)).trans ((hv.mono (by decide)).trans (hlast.mono (by decide))))

/-- Settles O7. -/
theorem wakeEntersStandby : Obligations.WakeEntersStandby := by
  intro s hon
  refine ⟨fun hp => ⟨s.setWaking true, ?_, rfl, by simp⟩, fun hp => ?_, fun hp hl hb => ⟨s.setWaking true, ?_, rfl, by simp⟩,
    fun h => ?_, fun hp hw => ⟨s.wakeEnds, ?_, State.wakeEnds_spec s⟩, fun h => ?_⟩
  · exact (State.powered_on hon _).trans (by simp [State.hostEdge, hp])
  · exact (State.powered_on hon _).trans (by simp [State.hostEdge, hp])
  · exact (State.powered_on hon _).trans (by simp [State.nodeEdge, hp, hl, hb])
  · refine (State.powered_on hon _).trans ?_
    have hn : ¬(s.mode = .parked ∧ s.nlc.link = .away ∧ Nat.testBit (s.par .attention) 10 = true) := by grind
    simp [State.nodeEdge, hn]
  · exact (State.powered_on hon _).trans (by simp [State.endWake, hp, hw])
  · exact (State.powered_on hon _).trans (by simp [State.endWake, h])


/-! ## 3. The host link: what HRX shows -/

section
variable {s : State}

theorem State.hearHrx_awake (h : s.mode ≠ .parked) (line : HostLine) :
    s.hearHrx line = s.setPending (s.pending ++ s.hli.framer.commands (sampleLine 0 line)) := by
  simp [State.hearHrx, h]

/-- A stretch that ends the line gives a gap inside a frame alone, above 200 µs (R205). -/
theorem Framer.commands_quiet (f : Framer) (us : Nat) :
    f.commands [.quiet us] = if f ≠ .hunt ∧ 200 < us then [.interByteGapTimeout us] else [] := by
  simp only [Framer.commands, Framer.takes]
  split <;> rfl

theorem sampleLine_nil (us : Nat) : sampleLine us [] = [.quiet us] := by rw [sampleLine]

theorem Framer.commands_badByte (f : Framer) :
    f.commands [.quiet 0, .badByte, .quiet 0] = if f = .hunt then [] else [.hostFramingError .badByte] := by
  have hq : f.takes (.quiet 0) = (f, []) := by simp [Framer.takes]
  rw [Framer.commands, hq, Framer.commands, Framer.takes_badByte, Framer.commands_quiet]
  simp

/-- A frame on the line gives its command (R205, R206). -/
theorem State.reads_frame (hm : s.mode ≠ .parked) (hf : s.hli.framer = .hunt) {body : List Byte} {crc : BitVec 16} {line : HostLine}
    (hlen : 2 ≤ body.length ∧ body.length ≤ 250) (hl : HostLine.Shows line (hostFrameCarrying (byte body.length :: body) crc)) :
    s.Reads line [frameCommand (byte body.length :: body) crc] := by
  obtain ⟨spaced, rfl, hbytes, hgap⟩ := hl
  have hs : sampleLine 0 (spacedLine spaced) = spacedEvents spaced ++ [.quiet 0] := by
    simpa [sampleLine_nil] using sampleLine_spaced spaced []
  unfold State.Reads
  rw [State.hearHrx_awake hm, hf, hs, Framer.commands_frame body crc spaced _ hlen hbytes hgap]
  rfl

/-- A good frame on the line gives its request (R207). -/
theorem State.reads_request (hm : s.mode ≠ .parked) (hf : s.hli.framer = .hunt) {tag kind : Byte} {data : List Byte} {line : HostLine}
    (hlen : data.length ≤ 248) (hl : HostLine.Shows line (hostFrameBytes tag kind data)) :
    s.Reads line [requestCommand tag kind data] := by
  have hbody : (tag :: kind :: data).length = data.length + 2 := rfl
  rw [← frameCommand_good, hostFrameCovered, ← hbody]
  exact State.reads_frame hm hf (by simp; omega) hl

/-- A line that shows bytes has a start bit. -/
theorem HostLine.low_mem {line : HostLine} {b : Byte} {bytes : List Byte} (h : HostLine.Shows line (b :: bytes)) : .low ∈ line := by
  obtain ⟨spaced, rfl, hbytes, -⟩ := h
  obtain ⟨p, ps, rfl, -, -⟩ := List.map_eq_cons_iff.mp hbytes
  simp [spacedLine, byteLine, charLine]

theorem State.hearHrx_parked (h : s.mode = .parked) {line : HostLine} (hl : .low ∈ line) :
    s.hearHrx line = s.setPending (s.pending ++ if s.waking = true then [] else [.wakeOnHrx]) := by
  cases hw : s.waking <;> simp [State.hearHrx, h, hl, hw]

/-! ## 4. What the HLI discards (O8) -/

theorem State.completeHostFrame_bad (hm : s.mode ≠ .parked) {body : List Byte} {crc : BitVec 16} (h : badFrame body crc = true) :
    s.completeHostFrame body crc = s.discardCrc := by
  simp only [badFrame, Bool.and_eq_true, bne_iff_ne] at h
  unfold State.completeHostFrame
  simp only [if_neg hm, if_neg h.2]

theorem not_length_of_bad {b : Byte} (h : badLengthByte (.lengthByte b) = true) : ¬(2 ≤ b.toNat ∧ b.toNat ≤ 250) := by
  rw [badLengthByte, ← Bool.decide_and, Bool.not_eq_true'] at h
  exact of_decide_eq_false h

theorem State.framingError_eq (hm : s.mode ≠ .parked) {cause : FramingFault} (h : badLengthByte cause = true) :
    s.framingError cause = s.countFraming := by
  unfold State.framingError
  rw [if_neg hm]
  cases cause with
  | badByte => rfl
  | lengthByte b =>
    have hb : ¬(2 ≤ b.toNat ∧ b.toNat ≤ 250) := not_length_of_bad h
    simp only [State.lengthByte, Framer.receive, if_neg hb]

theorem State.gapTimeout_eq (hm : s.mode ≠ .parked) {us : Nat} (h : 200 < us) : s.gapTimeout us = s.countFraming := by
  unfold State.gapTimeout
  exact if_neg (by simp [hm]; omega)

/-- Settles O8. -/
theorem discardedHostFramesAreCounted : Obligations.DiscardedHostFramesAreCounted := by
  intro s hon hm
  have counted : ∃ t, Host.Outcome.next s.countFraming = (.next t : Host.Outcome State Fault Refusal) ∧
      t.hli = { s.hli with framer := .hunt, framingErrors := min 65535 (s.hli.framingErrors + 1) } ∧ OnlyChanges [.hli] s t :=
    ⟨_, rfl, rfl, by simp⟩
  refine ⟨fun body crc h => ?_, fun cause h => ?_, fun us h => ?_, fun body crc line h hl hf => ?_, fun b => ?_, fun b hf h => ?_, fun us => ?_⟩
  · exact ⟨s.discardCrc, (State.powered_on hon _).trans (by rw [State.completeHostFrame_bad hm h]), rfl, by simp⟩
  · rw [show exec (.hostFramingError cause) s = .next s.countFraming from
      (State.powered_on hon _).trans (by rw [State.framingError_eq hm h])]
    exact counted
  · rw [show exec (.interByteGapTimeout us) s = .next s.countFraming from
      (State.powered_on hon _).trans (by rw [State.gapTimeout_eq hm h])]
    exact counted
  · have hlen : 2 ≤ body.length ∧ body.length ≤ 250 := by
      simp only [badFrame, Bool.and_eq_true, decide_eq_true_eq] at h
      exact h.1
    rw [← frameCommand_bad body crc h]
    exact State.reads_frame hm hf hlen hl
  · have hs : sampleLine 0 (charLine b .low) = [.quiet 0, .badByte, .quiet 0] := rfl
    unfold State.Reads
    rw [State.hearHrx_awake hm, hs]
    rw [Framer.commands_badByte]
  · have hb := not_length_of_bad h
    have hs : sampleLine 0 (byteLine b) = [.quiet 0, .byte b, .quiet 0] := by
      simpa [sampleLine_nil] using sampleLine_byte 0 b []
    unfold State.Reads
    rw [State.hearHrx_awake hm, hs, hf, Framer.commands_byte _ _ 0 b _ _ (by omega) (Framer.takes_noLength b hb)]
    simp [Framer.commands_quiet]
  · have hs : sampleLine 0 (List.replicate us .high) = [.quiet us] := by
      simpa [sampleLine_nil] using sampleLine_high 0 us []
    unfold State.Reads
    rw [State.hearHrx_awake hm, hs, Framer.commands_quiet]

/-! ## 5. The checks of a request (O9, O10) -/

/-- The status that a form other than the good one is answered with (R207). -/
def Form.status : Form → Byte
  | .unknownKind => stUnknown
  | .unknownSub => stValue
  | .badLength => stLength
  | .good => stOk

variable {i : Fin 4} {tag kind : Byte} {confirmed inHalted : Bool} {form : Form} {owner : Fin 4 → State → Taken}

/-- A frame whose form fails is answered by the form alone (R207). -/
theorem State.request_badForm (h : s.Hears i) (hf : form ≠ .good) (hc : confirmed = true → s.hli.deferredHeld < 2) :
    s.request tag kind confirmed inHalted form owner = (s.afterSlot i tag kind).ready ⟨tag, kind, [form.status], some i⟩ := by
  have h1 : ¬(confirmed && decide (2 ≤ s.hli.deferredHeld)) = true := by
    intro hx
    simp only [Bool.and_eq_true, decide_eq_true_eq] at hx
    exact absurd (hc hx.1) (by omega)
  unfold State.request
  refine (if_neg h.awake).trans ((if_neg h1).trans ?_)
  split
  · next hn => exact absurd (h.free.symm.trans hn) (by simp)
  · next j hj =>
    obtain rfl : i = j := Option.some.inj (h.free.symm.trans hj)
    cases form with
    | good => exact absurd rfl hf
    | _ => rfl

/-- A request answered alone from the inbox changes the host link alone. -/
theorem State.answered_ready (h : s.Hears i) (payload : List Byte) :
    Answered tag kind payload i s ((s.afterSlot i tag kind).ready ⟨tag, kind, payload, some i⟩) ∧
      OnlyChanges [.hli] s ((s.afterSlot i tag kind).ready ⟨tag, kind, payload, some i⟩) :=
  ⟨State.answered_of_owner h rfl, (State.frame_ready _ (by decide)).mpr State.onlyChanges_afterSlot⟩

theorem State.answered_badForm (h : s.Hears i) (hf : form ≠ .good) (hc : confirmed = true → s.hli.deferredHeld < 2) :
    Answered tag kind [form.status] i s (s.request tag kind confirmed inHalted form owner) ∧
      OnlyChanges [.hli] s (s.request tag kind confirmed inHalted form owner) := by
  rw [State.request_badForm h hf hc]
  exact State.answered_ready h _

/-- A plain request in a live mode whose owner answers and changes nothing. -/
theorem State.plain_reads (h : s.Accepts i) {owner : State → Taken} {payload : List Byte}
    (ho : owner (s.afterSlot i tag kind) = .now (s.afterSlot i tag kind) payload) :
    Answered tag kind payload i s (s.plain tag kind true owner) ∧ OnlyChanges [.hli] s (s.plain tag kind true owner) := by
  rw [State.plain_live h.toHears h.live (by rw [ho]; rfl), ho]
  exact State.answered_ready h.toHears payload

/-- A full inbox, or a third deferred reply: BUSY without a slot, or nothing while 4 such replies wait (R208; logs 12 and 13). -/
theorem State.answerBusy_spec {u : State} (ho : u.hli.ordered) :
    (u.hli.busyWaiting < 4 → (u.answerBusy tag kind).hli.line = u.hli.line ++ [⟨tag, kind, [stBusy], none⟩] ∧
      (u.answerBusy tag kind).hli.slots = u.hli.slots) ∧
    (4 ≤ u.hli.busyWaiting → u.answerBusy tag kind = u) := by
  unfold State.answerBusy
  refine ⟨fun h => ?_, fun h => if_pos h⟩
  rw [if_neg (by omega)]
  obtain ⟨hl, -, hs, -⟩ := State.ready_spec ⟨tag, kind, [stBusy], none⟩ u ho
  exact ⟨hl, hs⟩

theorem State.answered_answerForm (h : s.Hears i) (hf : form ≠ .good) :
    Answered tag kind [form.status] i s (s.answerForm tag kind form) ∧ OnlyChanges [.hli] s (s.answerForm tag kind form) :=
  State.answered_badForm h hf nofun

/-- A kind of no row (R207). -/
theorem State.hostFrame_unknownKind {data : List Byte} (hk : kind.toNat = 0 ∨ 0x11 < kind.toNat) :
    s.hostFrame tag kind data = s.answerForm tag kind .unknownKind := by
  unfold State.hostFrame
  split <;> first | omega | rfl

/-- A sub-operation of no row (R158, R207). -/
theorem State.hostFrame_unknownSub {data : List Byte} (hk : kind = 0x02 ∨ kind = 0x03 ∨ kind = 0x10) (hne : data ≠ [])
    (hun : unnamed kind data = true) : s.hostFrame tag kind data = s.answerForm tag kind .unknownSub := by
  obtain ⟨sub, rest, rfl⟩ := List.exists_cons_of_ne_nil hne
  rcases hk with rfl | rfl | rfl
  · have hsub := head_beyond (n := 3) hun
    show s.frameRoute tag (sub :: rest) = _
    simp only [State.frameRoute]
    split <;> first | omega | rfl
  · have hsub := head_beyond (n := 4) hun
    show s.frameEngine tag (sub :: rest) = _
    simp only [State.frameEngine]
    split <;> first | omega | rfl
  · have hsub := head_beyond (n := 1) hun
    show s.frameTunnel tag (sub :: rest) = _
    simp only [State.frameTunnel]
    split <;> first | omega | rfl

theorem modeOwner_other {target : Byte} (h : 4 < target.toNat) : modeOwner target = State.takeModeOther := by
  unfold modeOwner
  split <;> first | omega | rfl

theorem accessOwner_other {level : Byte} (h : 1 < level.toNat) : accessOwner level = State.takeAccessOther := by
  unfold accessOwner
  split <;> first | omega | rfl

theorem pageOwner_other {page : Byte} (h : 2 < page.toNat) : pageOwner page = State.takePageOther := by
  unfold pageOwner
  split <;> first | omega | rfl

theorem State.takeFaults_other {u : State} {page : Byte} (h : 1 < page.toNat) : u.takeFaults page = .now u [stValue] := by
  have h0 : page ≠ 0 := by rintro rfl; exact absurd h (by decide)
  have h1 : page ≠ 1 := by rintro rfl; exact absurd h (by decide)
  unfold State.takeFaults
  rw [if_neg h0, if_neg h1]

/-- A reading request that is answered in HALTED too. -/
theorem State.readable_reads (h : s.Hears i) {owner : State → Taken} {payload : List Byte}
    (ho : owner (s.afterSlot i tag kind) = .now (s.afterSlot i tag kind) payload) :
    Answered tag kind payload i s (s.readable tag kind true owner) ∧ OnlyChanges [.hli] s (s.readable tag kind true owner) := by
  have hr : s.readable tag kind true owner = (s.afterSlot i tag kind).ready ⟨tag, kind, payload, some i⟩ := by
    have hreq := State.request_good h tag kind (confirmed := false) (inHalted := true) (payload := payload) (fun _ => owner) (fun _ => rfl)
      nofun (by rw [ho]; rfl)
    exact hreq.trans (by rw [ho]; rfl)
  rw [hr]
  exact State.answered_ready h payload

end

/-- Settles O9. -/
theorem unknownRequestsAreAnswered : Obligations.UnknownRequestsAreAnswered := by
  intro tag kind data s i h
  have ran (k : Byte) (d : List Byte) : exec (.requestUnknownKind tag k d) s = .next (s.hostFrame tag k d) := State.powered_on h.powered _
  refine ⟨fun hk => ⟨_, ran _ _, ?_⟩, fun hk hne hun => ⟨_, ran _ _, ?_⟩, fun target ht => ⟨_, ran _ _, ?_⟩,
    fun level hl => ⟨_, ran _ _, ?_⟩, fun page hp => ⟨_, ran _ _, ?_⟩, fun page hp => ⟨_, ran _ _, ?_⟩, fun line hw hl hf => ?_⟩
  · rw [State.hostFrame_unknownKind hk]
    exact State.answered_answerForm (form := .unknownKind) h.toHears nofun
  · rw [State.hostFrame_unknownSub hk hne hun]
    exact State.answered_answerForm (form := .unknownSub) h.toHears nofun
  · exact State.plain_reads h (by rw [modeOwner_other ht]; rfl)
  · exact State.plain_reads h (by rw [accessOwner_other hl]; rfl)
  · exact State.plain_reads h (State.takeFaults_other hp)
  · exact State.readable_reads h.toHears (by rw [pageOwner_other hp]; rfl)
  · obtain ⟨hc, hlen⟩ := requestCommand_of_fields _ tag kind data rfl hw
    rw [← hc]
    exact State.reads_request h.awake hf hlen hl

/-- A command is the request of a form: its kind's, with the length checked, and CONFIRMED where a TUNNEL SEND asks for it. -/
def RequestsBy (c : Instr) (f : RequestForm) : Prop :=
  ∃ (confirmed : Bool) (owner : Fin 4 → State → Taken),
    (confirmed = true ↔ ∃ tag d, c = .tunnelSend tag d ∧ confirmedSend d = true) ∧
    ∀ s, exec c s = s.powered (State.request f.tag f.kind confirmed (readInHalted f.kind) (lengthForm f.lengthOk) owner)

theorem RequestsBy.plain {c : Instr} {f : RequestForm} {owner : State → Taken}
    (h : ∀ s, exec c s = s.powered (State.plain f.tag f.kind f.lengthOk owner)) (hr : readInHalted f.kind = false)
    (hc : ∀ tag d, c ≠ .tunnelSend tag d) : RequestsBy c f :=
  ⟨false, fun _ => owner, by simp [hc], fun s => by rw [hr]; exact h s⟩

theorem RequestsBy.readable {c : Instr} {f : RequestForm} {owner : State → Taken}
    (h : ∀ s, exec c s = s.powered (State.readable f.tag f.kind f.lengthOk owner)) (hr : readInHalted f.kind = true)
    (hc : ∀ tag d, c ≠ .tunnelSend tag d) : RequestsBy c f :=
  ⟨false, fun _ => owner, by simp [hc], fun s => by rw [hr]; exact h s⟩

theorem requestsBy_of_form {c : Instr} {f : RequestForm} (hf : requestForm c = some f) : RequestsBy c f := by
  cases c
  case tunnelSend tag d =>
    cases hf
    exact ⟨confirmedSend d, State.takeTunnelSend tag d, by simp, fun s => by simp only [Bool.decide_and]; rfl⟩
  case status => cases hf; exact .readable (fun _ => rfl) rfl nofun
  case describeIdentity => cases hf; exact .readable (fun _ => rfl) rfl nofun
  case describeCapacities => cases hf; exact .readable (fun _ => rfl) rfl nofun
  case describeStore => cases hf; exact .readable (fun _ => rfl) rfl nofun
  all_goals cases hf
  all_goals exact .plain (fun _ => rfl) rfl nofun

/-- A request's frame carries its tag and kind. -/
theorem requestFields_form {c : Instr} {f : RequestForm} {tag kind : Byte} {data : List Byte} (hf : requestForm c = some f)
    (hc : requestFields c = some (tag, kind, data)) : tag = f.tag ∧ kind = f.kind := by
  cases c <;> cases hf <;> cases hc <;> exact ⟨rfl, rfl⟩

section
variable {s : State} {tag kind : Byte} {confirmed inHalted : Bool} {form : Form} {owner : Fin 4 → State → Taken}

/-- A request that takes no slot. -/
theorem State.request_busy (hm : s.mode ≠ .parked) (h : (confirmed = true ∧ 2 ≤ s.hli.deferredHeld) ∨ s.hli.freeSlot = none) :
    s.request tag kind confirmed inHalted form owner = (s.setHli { s.hli with framer := .hunt }).answerBusy tag kind := by
  unfold State.request
  refine (if_neg hm).trans ?_
  dsimp only
  split
  · rfl
  · next hc =>
    have hfree : s.hli.freeSlot = none := h.resolve_left fun hb => hc (by simp only [hb.1, Bool.true_and, decide_eq_true_eq]; exact hb.2)
    split
    · rfl
    · next hj => exact absurd (hfree.symm.trans hj) (by simp)

/-- A request in HALTED that is not answered there (R10). -/
theorem State.request_mode {i : Fin 4} (h : s.Hears i) (hm : s.mode = .halted) (hc : confirmed = true → s.hli.deferredHeld < 2) :
    s.request tag kind confirmed false .good owner = (s.afterSlot i tag kind).ready ⟨tag, kind, [stMode], some i⟩ :=
  (State.request_halted hm ..).trans (State.request_good h tag kind _ (fun _ => rfl) hc rfl)

end

/-- Settles O10. -/
theorem requestsMeetTheChecksInOrder : Obligations.RequestsMeetTheChecksInOrder := by
  intro c f s hf hon
  obtain ⟨confirmed, owner, hconf, hexec⟩ := requestsBy_of_form hf
  have ran := (hexec s).trans (State.powered_on hon _)
  refine ⟨fun hp => ran.trans (by rw [State.request_parked hp]), fun tag kind data line hc hw hl hfr => ?_, fun hp ho => ⟨_, ran, ?_, ?_⟩⟩
  · obtain ⟨htag, hkind⟩ := requestFields_form hf hc
    obtain ⟨hcmd, hlen⟩ := requestCommand_of_fields c tag kind data hc hw
    refine ⟨htag, hkind, ?_⟩
    by_cases hp : s.mode = .parked
    · rw [if_pos hp]
      exact State.hearHrx_parked hp (HostLine.low_mem hl)
    · rw [if_neg hp, ← hcmd]
      exact State.reads_request hp hfr hlen hl
  · intro tag d hc hd hheld hbusy
    rw [State.request_busy hp (.inl ⟨hconf.mpr ⟨tag, d, hc, hd⟩, hheld⟩)]
    obtain ⟨hline, hslots⟩ := (State.answerBusy_spec (u := s.setHli { s.hli with framer := .hunt }) ho).1 hbusy
    exact ⟨hline, hslots, by simp (disch := decide)⟩
  · intro hfits
    have hc : confirmed = true → s.hli.deferredHeld < 2 := fun h => by
      obtain ⟨tag, d, hc, hd⟩ := hconf.mp h
      exact hfits tag d hc hd
    refine ⟨fun hfree hbusy => ?_, fun hfree hbusy => ?_, fun i hfree hlen => ?_, fun i hfree hlen hm hr => ?_⟩
    · rw [State.request_busy hp (.inr hfree)]
      obtain ⟨hline, hslots⟩ := (State.answerBusy_spec (u := s.setHli { s.hli with framer := .hunt }) ho).1 hbusy
      exact ⟨hline, hslots, by simp (disch := decide)⟩
    · rw [State.request_busy hp (.inr hfree), (State.answerBusy_spec (u := s.setHli { s.hli with framer := .hunt }) ho).2 hbusy]
      exact ⟨rfl, by simp⟩
    · rw [hlen]
      exact State.answered_badForm ⟨hon, hp, hfree, ho⟩ (form := .badLength) nofun hc
    · rw [hlen, hr, show lengthForm true = .good from rfl, State.request_mode ⟨hon, hp, hfree, ho⟩ hm hc]
      exact State.answered_ready ⟨hon, hp, hfree, ho⟩ _

/-! ## 6. The end of a reply (O11) -/

section
variable {s : State} {r : Reply}

theorem State.endReply_eq (h : s.hli.sending = some r) :
    s.endReply = (s.setHli { s.hli with slots := freed s.hli.slots r.slot, sending := s.hli.waiting.head?,
                                        waiting := s.hli.waiting.tail }).slowDown := by
  simp [State.endReply, h]

/-- The slow clock begins in PARKED alone, with no wake begun and no reply due (R8, R211). -/
theorem State.slowDown_slowClock (u : State) :
    u.slowDown.slowClock = if u.mode = .parked ∧ u.waking = false ∧ u.hli.settled = true then true else u.slowClock := by
  unfold State.slowDown
  split <;> rfl

theorem HostLink.settled_iff (h : HostLink) : h.settled = true ↔ h.line = [] ∧ h.slots = #v[none, none, none, none] := by
  have hslots : h.slots.all Option.isNone = true ↔ h.slots = #v[none, none, none, none] := by
    rw [Vector.all_eq_true, Vector.ext_iff]
    refine forall₂_congr fun i hi => ?_
    rw [Option.isNone_iff_eq_none]
    interval_cases i <;> rfl
  simp [HostLink.settled, HostLink.line, hslots]

/-- A byte on HTX: a low start bit, its bits from the least significant on, and a high stop bit. -/
theorem byteLine_levels (b : Byte) : (byteLine b).getD 0 .high = .low ∧
    (∀ j < 8, (byteLine b).getD (j + 1) .high = if b.getLsbD j then .high else .low) ∧ (byteLine b).getD 9 .high = .high := by
  refine ⟨rfl, fun j hj => ?_, rfl⟩
  interval_cases j <;> rfl

end

/-- Settles O11. -/
theorem replyEndFreesItsSlot : Obligations.ReplyEndFreesItsSlot := by
  intro r s hon hr
  let u := s.setHli { s.hli with slots := freed s.hli.slots r.slot, sending := s.hli.waiting.head?, waiting := s.hli.waiting.tail }
  have ht : s.endReply = u.slowDown := State.endReply_eq hr
  have hhli : s.endReply.hli = u.hli := by rw [ht, State.slowDown_hli]
  have hord : s.hli.ordered := fun h => absurd (h.symm.trans hr) (by simp)
  have hline : s.endReply.hli.line = s.hli.line.tail := State.endReply_line s hord
  have hclock := State.slowDown_slowClock u
  rw [← ht] at hclock
  refine ⟨rfl, fun k ns b hk hns => ?_, fun ns hns => HostLink.htx_after _ r ns hr hns, s.endReply, State.powered_on hon _, fun h ns => ?_,
    hline, ?_, fun h => ?_, fun i h => ?_, ?_, ?_, ?_, ?_, fun hp hw hl hs => ?_, fun h => ?_, by simp (disch := decide)⟩
  · obtain ⟨hstart, hdata, hstop⟩ := byteLine_levels b
    have hbit (j : Nat) (hj : j < 10) := HostLink.htx_byte s.hli r k j ns b hr hk hj hns
    refine ⟨?_, fun j hj => ?_, ?_⟩
    · exact (hbit 0 (by omega)).trans hstart
    · rw [hbit (j + 1) (by omega), hdata j hj]
    · exact (hbit 9 (by omega)).trans hstop
  · have hnone : s.endReply.hli.sending = none := by
      simp only [HostLink.line, List.append_eq_nil_iff, Option.toList_eq_nil_iff] at h
      exact h.1
    simp [HostLink.htx, hnone]
  · rw [hhli]
    intro h
    have hw : s.hli.waiting = [] := List.head?_eq_none_iff.mp h
    simp [u, hw]
  · rw [hhli]; simp [u, h, freed]
  · rw [hhli]; simp [u, h, freed]
  all_goals try (rw [hhli]; rfl)
  · rw [hclock, if_pos]
    exact ⟨hp, hw, (HostLink.settled_iff _).mpr ⟨hhli ▸ hl, hhli ▸ hs⟩⟩
  · rw [hclock, if_neg]
    · rfl
    · rintro ⟨hp, hw, hset⟩
      have hl : s.endReply.hli.line = [] := by rw [hhli]; exact ((HostLink.settled_iff _).mp hset).1
      rcases h with h | h | h
      · exact h hp
      · exact absurd (hw.symm.trans h) (by simp)
      · exact h hl

end Sys2Proof.Machine

/-! # Requests that read or that change one block

The reading requests (O26), FAULT_CLEAR and RESPONSE_SET (O30, O31), ACCESS (O32), TUNNEL FETCH (O34). -/

namespace Sys2Proof.Machine

-- In order: proofs elaborated side by side wait for one another in too many threads.
set_option Elab.async false

/-! ## 1. A request and its owner -/

section
variable {s v : State} {i : Fin 4} {tag kind : Byte} {owner : State → Taken} {payload : List Byte}

/-- The reply that an owner gives at once moves the host link alone. -/
theorem State.plain_run (h : s.Accepts i) (ho : owner (s.afterSlot i tag kind) = .now v payload) :
    s.plain tag kind true owner = v.ready ⟨tag, kind, payload, some i⟩ := by
  rw [State.plain_live h.toHears h.live (by rw [ho]; rfl), ho]
  rfl

theorem State.onlyChanges_plain_run (h : s.Accepts i) (ho : owner (s.afterSlot i tag kind) = .now v payload) :
    OnlyChanges [.hli] v (s.plain tag kind true owner) := by
  rw [State.plain_run h ho]
  simp (disch := decide)

/-- An owner that leaves the host link has its reply as the only change of it. -/
theorem State.answered_plain_run (h : s.Accepts i) (ho : owner (s.afterSlot i tag kind) = .now v payload)
    (hv : v.hli = (s.afterSlot i tag kind).hli) : Answered tag kind payload i s (s.plain tag kind true owner) := by
  rw [State.plain_run h ho]
  exact State.answered_of_owner h.toHears hv

/-- The same with the blocks that the owner changes, the host link aside. -/
theorem State.answers_plain_run {bs : List Block} (h : s.Accepts i) (ho : owner (s.afterSlot i tag kind) = .now v payload)
    (hv : OnlyChanges bs (s.afterSlot i tag kind) v) (hb : .hli ∉ bs := by decide) :
    Answered tag kind payload i s (s.plain tag kind true owner) ∧ OnlyChanges (.hli :: bs) s (s.plain tag kind true owner) :=
  ⟨State.answered_plain_run h ho (hv .hli hb),
    (State.onlyChanges_afterSlot.mono (by simp)).trans
      ((hv.mono (by simp)).trans ((State.onlyChanges_plain_run h ho).mono (by simp)))⟩

end

/-! ## 2. Reading requests (O26) -/

/-- The page of an unknown id, the row of a known one (R220). -/
theorem State.takeConfigGet_of_id {u : State} {id : Byte} {data : List Byte} (h : paramOfId id.toNat = none) :
    u.takeConfigGet (id :: data) = .now u [stValue, id] := by
  simp [State.takeConfigGet, byteAt, h]

theorem State.takeConfigGet_of_param (u : State) (p : Param) (data : List Byte) :
    u.takeConfigGet (byte (paramRow p).id :: data) = .now u ([stOk, byte (paramRow p).id] ++ be32 (u.par p) ++ be32 (paramRow p).lo ++
      be32 (paramRow p).hi ++ be32 (paramRow p).dflt ++ [(paramRow p).accessByte]) := by
  have hid : (byte (paramRow p).id).toNat = (paramRow p).id := by cases p <;> rfl
  simp [State.takeConfigGet, byteAt, hid, paramOfId_id]

section
variable {s : State} {i : Fin 4} {tag kind : Byte} {c : Instr} {owner : State → Taken} {payload : List Byte}

/-- A request that its owner answers from the state, in every mode but PARKED. -/
theorem reads_readable (h : s.Hears i) (hc : exec c s = s.powered (State.readable tag kind true owner))
    (ho : owner (s.afterSlot i tag kind) = .now (s.afterSlot i tag kind) payload) :
    ∃ t, exec c s = .next t ∧ Answered tag kind payload i s t ∧ OnlyChanges [.hli] s t :=
  ⟨_, hc.trans (State.powered_on h.powered _), State.readable_reads h ho⟩

/-- A request that its owner answers from the state, in a live mode. -/
theorem reads_plain (h : s.Accepts i) (hc : exec c s = s.powered (State.plain tag kind true owner))
    (ho : owner (s.afterSlot i tag kind) = .now (s.afterSlot i tag kind) payload) :
    ∃ t, exec c s = .next t ∧ Answered tag kind payload i s t ∧ OnlyChanges [.hli] s t :=
  ⟨_, hc.trans (State.powered_on h.powered _), State.plain_reads h ho⟩

end

/-- A stored report has at most 10 bytes. -/
theorem NodeTable.storedBytes_length_le (t : NodeTable) (n : NodeAddr) : (t.storedBytes n).length ≤ 10 := by
  have fits {α : Type} (o : Option α) (f : α → List Byte) (hf : ∀ a, (f a).length ≤ 10) : ((o.map f).getD []).length ≤ 10 := by
    cases o with
    | none => simp
    | some a => simpa using hf a
  cases n
  case eng => exact fits _ _ fun a => by simp [EngReport.encode, be16]
  case inv => exact fits _ _ fun a => by simp [InvReport.encode, be16]
  case bat => exact fits _ _ fun a => by simp [BatReport.encode, be16]
  case bkf => exact fits _ _ fun a => by simp [BrkReport.encode, be16]
  case bkr => exact fits _ _ fun a => by simp [BrkReport.encode, be16]
  all_goals exact Nat.zero_le _

theorem State.recordBytes_length (s : State) (n : NodeAddr) : (s.recordBytes n).length = 20 := by
  have := s.nodes.storedBytes_length_le n
  simp [State.recordBytes, padded, be16]
  omega

theorem State.statusReply_length (s : State) : s.statusReply.length = 179 := by
  simp [State.statusReply, be16, be32, allNodes, State.recordBytes_length]

/-- Four bytes read back as the number they were sent for. -/
theorem unsigned_be32 (v : BitVec 32) : unsigned (be32 v.toNat) = v.toNat := by
  have := v.isLt
  simp only [unsigned, be32, byte, List.foldl_cons, List.foldl_nil, BitVec.toNat_ofNat]
  omega

/-- EVENTS answers from the log (R116, R117). -/
theorem State.takeEvents_be32 (u : State) (start : BitVec 32) : u.takeEvents (be32 start.toNat) =
    .now u ([okOrClamped (u.log.select start).2, byte (u.log.select start).1.length] ++ be32 u.log.oldest.toNat ++
      be32 u.log.next.toNat ++ be32 u.log.overwritten.toNat ++ [byte (bit u.log.current.isSome)] ++
      (u.log.select start).1.flatMap EventRecord.encode) := by
  simp only [State.takeEvents, unsigned_be32, BitVec.ofNat_toNat, BitVec.setWidth_eq]

/-- Settles O26. -/
theorem readingRequestsChangeNothing : Obligations.ReadingRequestsChangeNothing := by
  intro tag s i h reads flags brake stored record
  have hstored : ∀ n, s.nodes.storedBytes n = stored n := by intro n; cases n <;> rfl
  have hrecord : ∀ n, s.recordBytes n = record n := fun n => by
    simp only [State.recordBytes, padded, hstored, record, List.append_assoc]
  refine ⟨reads_readable h rfl (congrArg (Taken.now _) ?_), s.statusReply_length, reads_readable h rfl rfl, reads_readable h rfl rfl,
    reads_readable h rfl rfl, fun hm => ?_⟩
  · show s.statusReply = _
    simp only [State.statusReply, allNodes, List.flatMap_cons, List.flatMap_nil, List.append_nil, List.append_assoc, hrecord]
    rfl
  · have ha : s.Accepts i := ⟨h, hm⟩
    exact ⟨reads_plain ha rfl rfl, reads_plain ha rfl rfl, reads_plain ha rfl rfl,
      fun p => reads_plain ha rfl (State.takeConfigGet_of_param _ p []), fun id hid => reads_plain ha rfl (State.takeConfigGet_of_id hid),
      fun start => reads_plain ha rfl (State.takeEvents_be32 _ start)⟩


/-! ## 3. FAULT_CLEAR and RESPONSE_SET (O30, O31) -/

theorem faultOfCode_none {n : Nat} (h : n = 0 ∨ 16 < n) : faultOfCode n = none := by
  refine List.find?_eq_none.mpr fun k _ => ?_
  have hk : 1 ≤ k.code ∧ k.code ≤ 16 := by cases k <;> decide
  simp only [beq_iff_eq]
  omega

section
variable {s : State} {k : FaultKind}

/-- What the removal of an entry leaves (R193, R196, R198). -/
theorem State.removeFault_spec (s : State) (k : FaultKind) :
    (s.removeFault k).faults = { s.faults with active := s.faults.active.filter (fun x => x.kind != k) } ∧
      Noted .faultCleared k.code s (s.removeFault k) ∧
      ((s.removeFault k).level = s.level → (s.removeFault k).factor = s.factor →
        (s.removeFault k).noticeOf .restriction = s.noticeOf .restriction) ∧
      ((s.removeFault k).level ≠ s.level ∨ (s.removeFault k).factor ≠ s.factor →
        Noted .restriction (s.removeFault k).level.code s (s.removeFault k)) := by
  let u := (s.setFaults (s.faults.remove k)).notify .faultCleared k.code
  have hr : s.removeFault k = if u.level = s.level ∧ u.factor = s.factor then u else u.notify .restriction u.level.code := rfl
  have hcleared : Noted .faultCleared k.code s u := State.noticeOf_notify_same (s.setFaults (s.faults.remove k)) .faultCleared k.code
  have hother : u.noticeOf .restriction = s.noticeOf .restriction :=
    State.noticeOf_notify_other (s.setFaults (s.faults.remove k)) k.code (by decide)
  by_cases hc : u.level = s.level ∧ u.factor = s.factor
  · rw [hr, if_pos hc]
    exact ⟨rfl, hcleared, fun _ _ => hother, fun h => absurd hc (by tauto)⟩
  · rw [hr, if_neg hc]
    refine ⟨rfl, ?_, fun hl hf => absurd ⟨hl, hf⟩ hc, fun _ => ?_⟩
    · exact (State.noticeOf_notify_other u _ (by decide)).trans hcleared
    · exact (State.noticeOf_notify_same u _ _).trans (by rw [hother]; rfl)

/-- The list's part of a reply rests on the fault list alone. -/
theorem OnlyChanges.faultClearReply {bs : List Block} {t : State} (h : OnlyChanges bs s t) (hb : .faults ∉ bs) (status code : Byte) :
    t.faultClearReply status code = s.faultClearReply status code := by
  unfold State.faultClearReply
  rw [h.level hb, h.factor hb, show t.faults = s.faults from h _ hb]

theorem OnlyChanges.responseReply {bs : List Block} {t : State} (h : OnlyChanges bs s t) (hb : .faults ∉ bs) (status code : Byte) :
    t.responseReply status code = s.responseReply status code := by
  unfold State.responseReply
  rw [show t.faults = s.faults from h _ hb]

end

/-- Settles O30. -/
theorem faultClearRemovesEndedLatchedEntries : Obligations.FaultClearRemovesEndedLatchedEntries := by
  intro tag code s i h
  let u := s.afterSlot i tag 0x0D
  let owner := State.takeFaultClear [code]
  refine ⟨s.plain tag 0x0D true owner, State.powered_on h.powered _, ?_⟩
  intro reply
  have run {v : State} {status : Byte} (ho : owner u = .now v (v.faultClearReply status code)) {bs : List Block} (hv : OnlyChanges bs u v)
      (hb : .hli ∉ bs) : reply status ∧ OnlyChanges (.hli :: bs) s (s.plain tag 0x0D true owner) := by
    obtain ⟨ha, hc⟩ := State.answers_plain_run h ho hv hb
    refine ⟨?_, hc⟩
    rw [← (State.onlyChanges_plain_run h ho).faultClearReply (by decide)] at ha
    exact ha
  have stays {status : Byte} (ho : owner u = .now u (u.faultClearReply status code)) :
      reply status ∧ OnlyChanges [.hli] s (s.plain tag 0x0D true owner) := run ho (.refl [] u) (by decide)
  refine ⟨fun hcode => stays (by simp [owner, State.takeFaultClear, byteAt, faultOfCode_none hcode]), fun k hk => ?_⟩
  have hkind : faultOfCode code.toNat = some k := by rw [← hk, faultOfCode_code]
  refine ⟨fun he => stays ?_, fun e he hl hp => ?_, fun e he hlp => stays ?_⟩
  · have heu : u.faults.entry k = none := he
    simp [owner, State.takeFaultClear, byteAt, hkind, heu]
  · have heu : u.faults.entry k = some e := he
    have ho : owner u = .now (u.removeFault k) ((u.removeFault k).faultClearReply stOk code) := by
      simp [owner, State.takeFaultClear, byteAt, hkind, heu, hl, hp]
    obtain ⟨hreply, honly⟩ := run ho (by simp : OnlyChanges [.faults, .notices] u (u.removeFault k)) (by decide)
    obtain ⟨hfaults, hnoted, hsame, hmoved⟩ := State.removeFault_spec u k
    have ht := State.onlyChanges_plain_run h ho
    have hlevel := ht.level (by decide)
    have hfactor := ht.factor (by decide)
    have hnotice (j) := ht.noticeOf (by decide) j
    refine ⟨hreply, (ht .faults (by decide)).trans hfaults, (hnotice _).trans hnoted, fun hl hf => ?_, fun hm => ?_, honly⟩
    · exact (hnotice _).trans (hsame (hlevel.symm.trans hl) (hfactor.symm.trans hf))
    · have hn : Noted .restriction _ u _ := hmoved (by rwa [hlevel, hfactor] at hm)
      exact (hnotice _).trans (by rw [hlevel]; exact hn)
  · have heu : u.faults.entry k = some e := he
    have hne : ¬(k.latched = true ∧ e.causePresent = false) := by
      rintro ⟨hl, hp⟩
      rcases hlp with hx | hx <;> simp_all
    simp [owner, State.takeFaultClear, byteAt, hkind, heu, hne]

/-! ### RESPONSE_SET -/

theorem levelOfCode_none {n : Nat} (h : n = 0 ∨ 4 < n) : levelOfCode n = none := by
  unfold levelOfCode
  split <;> first | omega | rfl

/-- The higher of a level and a minimum. -/
theorem Level.max_eq (a b : Level) : a.max b = if b.code < a.code then a else b := by cases a <;> cases b <;> rfl

theorem clampResponse_eq (k : FaultKind) (l : Level) (factor : Byte) :
    clampResponse k l factor.toNat = ⟨if l.code < k.minLevel.code then k.minLevel else l, max 64 factor.toNat⟩ := by
  have := factor.isLt
  rw [clampResponse, Level.max_eq, Nat.min_eq_right (by omega)]

/-- An accepted response is reported CLAMPED where the minimum or the bound has moved it (R190). -/
theorem clampResponse_moved (k : FaultKind) (l : Level) (factor : Byte) :
    ((clampResponse k l factor.toNat).level != l || (clampResponse k l factor.toNat).factor != factor.toNat) =
      (decide (l.code < k.minLevel.code) || decide (factor.toNat < 64)) := by
  have hlevel : ((if l.code < k.minLevel.code then k.minLevel else l) != l) = decide (l.code < k.minLevel.code) := by
    split
    · next hlt =>
      have hne : k.minLevel ≠ l := by rintro he; rw [he] at hlt; exact absurd hlt (by omega)
      simpa [hlt] using hne
    · next hlt => simp [hlt]
  have hfactor : (max 64 factor.toNat != factor.toNat) = decide (factor.toNat < 64) := by
    by_cases hlt : factor.toNat < 64
    · have : max 64 factor.toNat ≠ factor.toNat := by omega
      simpa [hlt] using this
    · have : max 64 factor.toNat = factor.toNat := by omega
      simp [hlt, this]
  rw [clampResponse_eq]
  simp only [hlevel, hfactor]

/-- Settles O31. -/
theorem responseSetHoldsTheMinimum : Obligations.ResponseSetHoldsTheMinimum := by
  intro tag code level factor s i h
  let u := s.afterSlot i tag 0x0E
  let owner := State.takeResponseSet [code, level, factor]
  refine ⟨s.plain tag 0x0E true owner, State.powered_on h.powered _, ?_⟩
  intro refused
  have refuses {status : Byte} (ho : owner u = .now u (u.responseReply status code)) : refused status := State.plain_reads h ho
  refine ⟨fun hm => refuses ?_, fun hm ha => refuses ?_, fun hm ha => ⟨fun hbad => refuses ?_, fun k l hk hl => ⟨fun he => refuses ?_,
    fun he => ?_⟩⟩⟩
  · exact if_pos hm
  · have hau : u.hli.access ≠ .service := by rw [show u.hli.access = .drive from ha]; decide
    exact (if_neg (not_not.mpr hm)).trans (if_pos hau)
  all_goals have hrest : owner u = match faultOfCode code.toNat, levelOfCode level.toNat with
      | some k, some l => if (u.faults.entry k).isSome then .now u (u.responseReply stActive code)
        else .now (u.setFaults (u.faults.setResponse k (clampResponse k l factor.toNat)))
          ((u.setFaults (u.faults.setResponse k (clampResponse k l factor.toNat))).responseReply
            (okOrClamped ((clampResponse k l factor.toNat).level != l || (clampResponse k l factor.toNat).factor != factor.toNat)) code)
      | none, _ => .now u (u.responseReply stValue code)
      | some _, none => .now u (u.responseReply stValue code) :=
    (if_neg (not_not.mpr hm)).trans ((if_neg (not_not.mpr ha)).trans rfl)
  · rw [hrest]
    rcases (show (code.toNat = 0 ∨ 16 < code.toNat) ∨ (level.toNat = 0 ∨ 4 < level.toNat) by omega) with hc | hl
    · rw [faultOfCode_none hc]
    · rw [levelOfCode_none hl]
      split
      · next heq => exact absurd heq (by simp)
      · rfl
      · rfl
  · rw [hrest, ← hk, faultOfCode_code, hl]
    exact if_pos (Option.isSome_iff_ne_none.mpr he)
  · let v := u.setFaults (u.faults.setResponse k (clampResponse k l factor.toNat))
    have ho : owner u = .now v (v.responseReply
        (okOrClamped (decide (l.code < k.minLevel.code) || decide (factor.toNat < 64))) code) := by
      rw [hrest, ← hk, faultOfCode_code, hl, ← clampResponse_moved]
      exact if_neg (by rw [show u.faults.entry k = none from he]; simp)
    obtain ⟨hreply, honly⟩ := State.answers_plain_run h ho (bs := [.faults]) (by simp [v, u])
    have ht := State.onlyChanges_plain_run h ho
    rw [← ht.responseReply (by decide)] at hreply
    have hfaults : (s.plain tag 0x0E true owner).faults = s.faults.setResponse k (clampResponse k l factor.toNat) := ht .faults (by decide)
    refine ⟨fun j => ?_, by rw [hfaults]; rfl, by rw [hfaults]; rfl, hreply, honly⟩
    rw [hfaults]
    split
    · next hj => rw [hj, FaultUnit.response_set_same, clampResponse_eq]
    · next hj => exact FaultUnit.response_set_other _ _ hj

/-! ## 4. ACCESS and TUNNEL FETCH (O32, O34) -/

section
variable {s : State} {i : Fin 4} {tag kind : Byte} {owner : State → Taken} {payload : List Byte}

/-- An owner that sets the access level and answers (R216). -/
theorem State.replied_setAccess (h : s.Accepts i) {a : Access}
    (ho : owner (s.afterSlot i tag kind) = .now ((s.afterSlot i tag kind).setAccess a) payload) :
    Replied [] tag kind payload i s (s.plain tag kind true owner) ∧ (s.plain tag kind true owner).hli.access = a ∧
      OnlyChanges [.hli] s (s.plain tag kind true owner) := by
  have hrun := State.plain_run h ho
  have hord : ((s.afterSlot i tag kind).setAccess a).hli.ordered := h.ordered
  obtain ⟨hl, ho', hs, hf, ha, hfe, hce⟩ := State.ready_spec ⟨tag, kind, payload, some i⟩ ((s.afterSlot i tag kind).setAccess a) hord
  rw [← hrun] at hl ho' hs hf ha hfe hce
  have honly : OnlyChanges [.hli] s ((s.afterSlot i tag kind).setAccess a) := by
    rw [State.frame_setAccess _ (by decide)]
    exact State.onlyChanges_afterSlot
  exact ⟨⟨hl.trans (by simp [State.setAccess, State.afterSlot, State.takeSlot, HostLink.line]), hs, hf, ho', hfe, hce⟩, ha,
    honly.trans (State.onlyChanges_plain_run h ho)⟩

end

/-- The checks of ACCESS SERVICE at DRIVE level (R216). -/
theorem State.takeAccessService_drive {u : State} (ha : u.hli.access = .drive) : u.takeAccessService =
    if u.mode ≠ .standby then .now u [stMode, 0] else if u.demand.motion ≠ .standstill then .now u [stMode, 0]
    else if u.svc = false then .now u [stLevel, 0] else .now (u.setAccess .service) [stOk, 1] := by
  simp only [State.takeAccessService, Taken.access, ha]
  rfl

/-- Settles O32. -/
theorem accessRequestsSetTheLevel : Obligations.AccessRequestsSetTheLevel := by
  intro tag s i h
  let u := s.afterSlot i tag 0x0F
  let t := s.plain tag 0x0F true State.takeAccessService
  have asked (ha : s.hli.access = .drive) := State.takeAccessService_drive (u := u) ha
  have reads {payload : List Byte} (ho : u.takeAccessService = .now u payload) : Answered tag 0x0F payload i s t :=
    (State.plain_reads h ho).1
  refine ⟨⟨s.plain tag 0x0F true State.takeAccessDrive, State.powered_on h.powered _, State.replied_setAccess h rfl⟩,
    ⟨t, State.powered_on h.powered _, ?_, fun ha => reads ?_, fun ha hm hs hv => ?_, fun ha hm => reads ?_, fun ha hm hs hv => reads ?_⟩⟩
  · obtain ⟨v, payload, ho, hv⟩ : ∃ v payload, u.takeAccessService = .now v payload ∧ OnlyChanges [.hli] u v := by
      unfold State.takeAccessService Taken.access
      split_ifs <;> exact ⟨_, _, rfl, by simp⟩
    exact State.onlyChanges_afterSlot.trans (hv.trans (State.onlyChanges_plain_run h ho))
  · have hau : u.hli.access = .service := ha
    simp [State.takeAccessService, Taken.access, hau, Access.code]
  · have hmu : u.mode = .standby := hm
    have hsu : u.demand.motion = .standstill := hs
    have hvu : u.svc = true := hv
    have ho : u.takeAccessService = .now (u.setAccess .service) [stOk, 1] := by
      rw [asked ha, hmu, hsu, hvu]
      rfl
    obtain ⟨hr, hacc, -⟩ := State.replied_setAccess h ho
    exact ⟨hr, hacc⟩
  · rw [asked ha]
    rcases hm with hm | hm
    · exact if_pos hm
    · have hsu : u.demand.motion ≠ .standstill := by rw [show u.demand.motion = .moving from hm]; decide
      rw [if_pos hsu, ite_self]
  · have hmu : u.mode = .standby := hm
    have hsu : u.demand.motion = .standstill := hs
    have hvu : u.svc = false := hv
    rw [asked ha, hmu, hsu, hvu]
    rfl

/-- Settles O34. -/
theorem tunnelFetchReturnsTheOldestFrame : Obligations.TunnelFetchReturnsTheOldestFrame := by
  intro tag s i h
  refine ⟨s.plain tag 0x10 true State.takeTunnelFetch, State.powered_on h.powered _, fun hi => ?_, fun f rest hi => ?_⟩
  · have hiu : (s.afterSlot i tag 0x10).nlc.inbox = [] := hi
    exact State.plain_reads h (by simp only [State.takeTunnelFetch, hiu])
  · have hiu : (s.afterSlot i tag 0x10).nlc.inbox = f :: rest := hi
    have ho : State.takeTunnelFetch (s.afterSlot i tag 0x10) = .now ((s.afterSlot i tag 0x10).setNlc { s.nlc with inbox := rest })
        ([stOk, 1, byte (nodeCode f.source), byte rest.length, byte f.payload.length] ++ f.payload) := by
      simp only [State.takeTunnelFetch, hiu]
      rfl
    obtain ⟨ha, hc⟩ := State.answers_plain_run h ho (bs := [.nlc]) (by simp)
    exact ⟨ha, (State.onlyChanges_plain_run h ho) .nlc (by decide), hc⟩


/-! ## 5. WEAR_RESET (O28) -/

section
variable {s u : State} {k : WearKind}

@[simp] theorem State.putWear_wear (s : State) (k : WearKind) (w : WearItem) : (s.putWear k w).wear = (s.setWearItem k w).wear := by
  unfold State.putWear
  split <;> rfl

@[simp] theorem WearUnit.items_trigger (w : WearUnit) (t : Triggers) : (w.trigger t).items = w.items := by
  unfold WearUnit.trigger
  split <;> rfl

theorem WearUnit.trigger_starts {w : WearUnit} {t : Triggers} (hs : w.save = none) (hl : w.load ≠ .inFlight) :
    w.trigger t = w.startSave t := by
  simp [WearUnit.trigger, hs, hl]

theorem WearUnit.trigger_waits {w : WearUnit} {t : Triggers} (h : w.save ≠ none ∨ w.load = .inFlight) :
    w.trigger t = { w with waiting := some ((w.waiting.getD .none).merge t) } := by
  refine if_neg ?_
  rintro ⟨hs, hl⟩
  rcases h with h | h
  · exact h (Option.isNone_iff_eq_none.mp hs)
  · exact hl h

/-- The item that an accepted WEAR_RESET leaves (R178). -/
def State.resetItem (s : State) (k : WearKind) (value : Nat) : WearItem :=
  ⟨value, 0, s.wearStateFor k value, min 65535 ((s.wearItem k).resets + 1)⟩

theorem State.resetWear_wear (s : State) (k : WearKind) (value : Nat) :
    (s.resetWear k value).wear = (s.setWearItem k (s.resetItem k value)).wear.trigger ⟨true, false, false⟩ := by
  let v := (s.putWear k (s.resetItem k value)).saveTrigger ⟨true, false, false⟩
  have hv : v.wear = (s.setWearItem k (s.resetItem k value)).wear.trigger ⟨true, false, false⟩ := by
    simp [v, State.saveTrigger]
  have hend : OnlyChanges [.faults, .notices] v (if v.anyUnknown then v else v.endCause .storeBad) := by simp
  exact (hend .wear (by decide)).trans hv

theorem State.resetWear_only (s : State) (k : WearKind) (value : Nat) :
    OnlyChanges [.wear, .faults, .notices] s (s.resetWear k value) := by simp

/-- An item rests on the item list alone. -/
theorem State.wearItem_of_items {s t : State} (h : t.wear.items = s.wear.items) (k : WearKind) : t.wearItem k = s.wearItem k := by
  unfold State.wearItem
  rw [h]

theorem State.wearItem_resetWear (s : State) (k j : WearKind) (value : Nat) :
    (s.resetWear k value).wearItem j = if j = k then s.resetItem k value else s.wearItem j := by
  have hitems : (s.resetWear k value).wear.items = (s.setWearItem k (s.resetItem k value)).wear.items := by
    rw [State.resetWear_wear, WearUnit.items_trigger]
  rw [State.wearItem_of_items hitems]
  split
  · next hj => rw [hj, State.wearItem_setWearItem_same]
  · next hj => exact State.wearItem_setWearItem_other _ _ hj

theorem wearOfCode_none {n : Nat} (h : 5 < n) : wearOfCode n = none := by
  unfold wearOfCode
  split <;> first | omega | rfl

end

/-- The operands of a WEAR_RESET are read back as they were sent. -/
theorem State.takeWearReset_eq (u : State) (item : Byte) (expected new : BitVec 32) :
    u.takeWearReset (item :: be32 expected.toNat ++ be32 new.toNat) =
      if u.mode ≠ .standby then .now u [stMode, item]
      else if u.hli.access ≠ .service then .now u [stLevel, item]
      else match wearOfCode item.toNat with
        | none => .now u [stValue, item]
        | some k =>
          if u.wear.load = .inFlight then .now u [stBusy, item]
          else if (u.wearItem k).value ≠ expected.toNat then .now u (u.wearResetReply stMismatch k)
          else .now (u.resetWear k new.toNat) ((u.resetWear k new.toNat).wearResetReply stOk k) := by
  have hexp : unsigned (field (item :: be32 expected.toNat ++ be32 new.toNat) 1 4) = expected.toNat := unsigned_be32 expected
  have hnew : unsigned (field (item :: be32 expected.toNat ++ be32 new.toNat) 5 4) = new.toNat := unsigned_be32 new
  simp only [State.takeWearReset, hexp, hnew]
  rfl

/-- Settles O28. -/
theorem wearResetComparesBeforeItReplaces : Obligations.WearResetComparesBeforeItReplaces := by
  intro tag expected new s i h
  let u := s.afterSlot i tag 0x09
  have ran (item : Byte) : exec (.wearReset tag (item :: be32 expected.toNat ++ be32 new.toNat)) s =
      .next (s.plain tag 0x09 true (State.takeWearReset (item :: be32 expected.toNat ++ be32 new.toNat))) := State.powered_on h.powered _
  have hdrive (ha : s.hli.access = .drive) : u.hli.access ≠ .service := by
    rw [show u.hli.access = .drive from ha]; decide
  refine ⟨fun item hitem => ⟨_, ran item, ?_⟩, fun k => ?_⟩
  · have ho : u.takeWearReset (item :: be32 expected.toNat ++ be32 new.toNat) =
        .now u [if s.mode ≠ .standby then stMode else if s.hli.access = .drive then stLevel else stValue, item] := by
      rw [State.takeWearReset_eq, wearOfCode_none hitem]
      by_cases hm : s.mode = .standby
      · have hmu : ¬u.mode ≠ .standby := not_not.mpr hm
        rw [if_neg hmu, if_neg (not_not.mpr hm)]
        cases ha : s.hli.access with
        | drive => exact if_pos (hdrive ha)
        | service => exact if_neg (not_not.mpr ha)
      · have hmu : u.mode ≠ .standby := hm
        rw [if_pos hmu, if_pos hm]
    obtain ⟨ha, hc⟩ := State.plain_reads h ho
    exact ⟨hc, ha⟩
  · intro item w
    have hk : wearOfCode item.toNat = some k := by
      have : item.toNat = k.code := by cases k <;> rfl
      rw [this, wearOfCode_code]
    have asked := State.takeWearReset_eq u item expected new
    rw [hk] at asked
    have reads {payload : List Byte} (ho : u.takeWearReset (item :: be32 expected.toNat ++ be32 new.toNat) = .now u payload) :=
      State.plain_reads h ho
    refine ⟨_, ran item, fun hm => reads ?_, fun hm ha => reads ?_, fun hm ha hl => reads ?_, fun hm ha hl hv => reads ?_,
      fun hm ha hl hv => ?_⟩
    · exact asked.trans (if_pos hm)
    · exact asked.trans ((if_neg (not_not.mpr hm)).trans (if_pos (hdrive ha)))
    · exact asked.trans ((if_neg (not_not.mpr hm)).trans ((if_neg (not_not.mpr ha)).trans (if_pos hl)))
    · exact asked.trans ((if_neg (not_not.mpr hm)).trans ((if_neg (not_not.mpr ha)).trans ((if_neg hl).trans (if_pos hv))))
    · let v := u.resetWear k new.toNat
      have ho : u.takeWearReset (item :: be32 expected.toNat ++ be32 new.toNat) = .now v (v.wearResetReply stOk k) :=
        asked.trans ((if_neg (not_not.mpr hm)).trans ((if_neg (not_not.mpr ha)).trans
          ((if_neg hl).trans (if_neg (not_not.mpr hv)))))
      obtain ⟨hreply, honly⟩ := State.answers_plain_run h ho (State.resetWear_only u k new.toNat)
      have ht := State.onlyChanges_plain_run h ho
      generalize s.plain tag 0x09 true (State.takeWearReset (item :: be32 expected.toNat ++ be32 new.toNat)) = t at hreply honly ht ⊢
      have hitem (j : WearKind) : t.wearItem j = if j = k then s.resetItem k new.toNat else s.wearItem j :=
        (ht.wearItem (by decide) j).trans (State.wearItem_resetWear u k j new.toNat)
      have hself : t.wearItem k = s.resetItem k new.toNat := (hitem k).trans (if_pos rfl)
      have hwear : t.wear = (s.setWearItem k (s.resetItem k new.toNat)).wear.trigger ⟨true, false, false⟩ :=
        (ht .wear (by decide)).trans (State.resetWear_wear u k new.toNat)
      refine ⟨hself, fun j hj => (hitem j).trans (if_neg hj), fun hs => ?_, fun hs => ?_, ?_, honly⟩
      · replace hwear := hwear.trans (WearUnit.trigger_starts (w := (s.setWearItem k (s.resetItem k new.toNat)).wear) hs hl)
        rw [hwear]
        exact ⟨rfl, rfl⟩
      · replace hwear := hwear.trans (WearUnit.trigger_waits (w := (s.setWearItem k (s.resetItem k new.toNat)).wear) (.inl hs))
        rw [hwear]
        exact ⟨rfl, by simp [Triggers.merge]⟩
      · have hvalue : v.wearResetReply stOk k = [stOk, item] ++ be32 new.toNat ++ [(t.wearItem k).state.code] ++ be16 (t.wearItem k).resets := by
          have hvk : v.wearItem k = t.wearItem k := (ht.wearItem (by decide) k).symm
          unfold State.wearResetReply
          rw [hvk, hself]
          rfl
        rw [← hvalue]
        exact hreply


/-! ## 6. The computations (O50, O51) -/

section
variable {p : Params} {i : BlendInputs}

/-- A forced restriction leaves no recovery (R93). -/
theorem BlendInputs.fRestr_of_forced (h : i.slip = true ∨ i.nodeLost = true ∨ i.level = .safeStop ∨ i.reverse = true ∨ i.held = true) :
    i.fRestr p = 0 := by
  have hne : i.forcing ≠ .none := by
    unfold BlendInputs.forcing
    split
    · decide
    · next hz =>
      split
      · decide
      · next hs =>
        have hl : i.level = .safeStop := by
          simp only [Bool.or_eq_true, not_or] at hz
          tauto
        simp [hl]
  exact if_neg hne

/-- The candidate is within each of its four bounds (R94). -/
theorem BlendInputs.fCand_le : i.fCand p ≤ i.fDem ∧ i.fCand p ≤ i.fStab p ∧ i.fCand p ≤ i.fRamp p ∧ i.fCand p ≤ i.fRestr p := by
  unfold BlendInputs.fCand
  omega

end

/-- Settles O50. -/
theorem recoveryStaysWithinItsBounds : Obligations.RecoveryStaysWithinItsBounds := by
  intro p trigger i
  obtain ⟨hdem, hstab, hramp, hrestr⟩ := BlendInputs.fCand_le (p := p) (i := i)
  have hreg : i.fReg p ≤ i.fCand p := BlendInputs.fReg_le_fCand p i
  refine ⟨hreg.trans hdem, hreg.trans hstab, hreg.trans hramp, hreg.trans hrestr, fun hf => ?_⟩
  have hcand : i.fCand p = 0 := Nat.le_zero.mp (hrestr.trans (BlendInputs.fRestr_of_forced hf).le)
  have hzero : i.fReg p = 0 := Nat.le_zero.mp (hreg.trans hcand.le)
  have htorque : i.tReg p = 0 := by simp [BlendInputs.tReg, hcand, motorTorque]
  have hsum := BlendInputs.forces_sum p i
  refine ⟨hzero, htorque, ?_⟩
  show i.fFront p + i.fRear p = i.fDem
  omega

section
variable {p : Params} {i : SplitInputs}

/-- The torque of the wheel force of a torque is no more than it (R127, R133). -/
theorem motorTorque_wheelForce_le (g r torque : Nat) : motorTorque g r (wheelForce g r torque) ≤ torque := by
  unfold motorTorque wheelForce
  calc torque * g * 10 / r * r / (g * 10) ≤ torque * g * 10 / (g * 10) := Nat.div_le_div_right (Nat.div_mul_le_self _ _)
    _ ≤ torque := by rw [Nat.mul_assoc]; exact Nat.div_le_of_le_mul (Nat.le_of_eq (Nat.mul_comm _ _))

theorem motorTorque_mono {g r a b : Nat} (h : a ≤ b) : motorTorque g r a ≤ motorTorque g r b :=
  Nat.div_le_div_right (Nat.mul_le_mul_right r h)

theorem SplitInputs.fReq_le (p : Params) (i : SplitInputs) : i.fReq p ≤ i.traction := by
  unfold SplitInputs.fReq
  split <;> omega

/-- The split of the request (R130). -/
theorem SplitInputs.split_sum (p : Params) (i : SplitInputs) :
    i.fE p + i.fEng p + i.fShort p = i.fReq p ∧ i.fE p ≤ i.fECap p ∧ i.fEng p ≤ i.fEngCap p := by
  unfold SplitInputs.fShort SplitInputs.fEng SplitInputs.fE
  split <;> omega

/-- Charge-sustaining force is added in RUN alone, with no electric force, within engine and recovery (R129, R130, R131). -/
theorem SplitInputs.fCs_bounds (p : Params) (i : SplitInputs) :
    i.fCs p ≤ i.fEngCap p - i.fEng p ∧ i.fCs p ≤ i.fGen p ∧
      (0 < i.fCs p → i.fE p = 0 ∧ i.machine = .run ∧ i.reverse = false) := by
  unfold SplitInputs.fCs
  split
  · next h =>
    simp only [SplitInputs.sustaining, Bool.and_eq_true, beq_iff_eq, Bool.not_eq_true'] at h
    obtain ⟨⟨⟨⟨⟨hrun, -⟩, -⟩, -⟩, hrev⟩, he⟩ := h
    exact ⟨by omega, by omega, fun _ => ⟨he, hrun, hrev⟩⟩
  · exact ⟨Nat.zero_le _, Nat.zero_le _, fun h => absurd h (by omega)⟩

theorem SplitInputs.fGen_le (p : Params) (i : SplitInputs) :
    i.fGen p ≤ wheelForce (getParam p .gearG) (getParam p .wheelR) i.tGen := Nat.min_le_left _ _

theorem SplitInputs.fECap_le (h : i.factor ≤ 256) : i.fECap p ≤ i.fMotD p := by
  unfold SplitInputs.fECap
  refine Nat.div_le_of_le_mul ?_
  calc min (i.fMotD p) (i.fBatD p) * i.factor ≤ i.fMotD p * 256 := Nat.mul_le_mul (Nat.min_le_left _ _) h
    _ = 256 * i.fMotD p := Nat.mul_comm _ _

end

/-- Settles O51. -/
theorem splitAllocatesTheWholeRequest : Obligations.SplitAllocatesTheWholeRequest := by
  intro p i
  obtain ⟨hsum, hecap, hengcap⟩ := i.split_sum p
  obtain ⟨hcs, hgen, hadds⟩ := i.fCs_bounds p
  have hdrive (h : i.fCs p = 0) : i.tInv p = (motorTorque (getParam p .gearG) (getParam p .wheelR) (i.fE p) : Int) := by
    simp [SplitInputs.tInv, h]
  have hcharge (h : 0 < i.fCs p) : i.tInv p = -(motorTorque (getParam p .gearG) (getParam p .wheelR) (i.fCs p) : Int) := by
    have he := (hadds h).1
    have hnot : ¬i.fCs p ≤ i.fE p := by omega
    rw [SplitInputs.tInv, if_neg hnot, he, Nat.sub_zero]
  have hmot (h : i.factor ≤ 256) : motorTorque (getParam p .gearG) (getParam p .wheelR) (i.fE p) ≤ i.tMot :=
    (motorTorque_mono (hecap.trans (SplitInputs.fECap_le h))).trans (motorTorque_wheelForce_le _ _ _)
  have hback : motorTorque (getParam p .gearG) (getParam p .wheelR) (i.fCs p) ≤ i.tGen :=
    (motorTorque_mono (hgen.trans (i.fGen_le p))).trans (motorTorque_wheelForce_le _ _ _)
  have hcap : i.fEng p + i.fCs p ≤ i.fEngCap p := by omega
  refine ⟨hsum, i.fReq_le p, fun hl => by show i.fReq p = 0; simp [SplitInputs.fReq, hl], hecap, hcap, hadds, hdrive, hcharge, fun h => ?_,
    fun h => ?_, ?_, fun hf => ?_, rfl, Nat.div_le_div_right hcap⟩
  · show 0 ≤ i.tInv p
    rw [hdrive h]; omega
  · show i.tInv p ≤ 0
    rw [hcharge h]; omega
  · show -(i.tGen : Int) ≤ i.tInv p
    rcases Nat.eq_zero_or_pos (i.fCs p) with h | h
    · rw [hdrive h]; omega
    · rw [hcharge h]; omega
  · show i.tInv p ≤ (i.tMot : Int)
    have := hmot hf
    rcases Nat.eq_zero_or_pos (i.fCs p) with h | h
    · rw [hdrive h]; omega
    · rw [hcharge h]; omega

end Sys2Proof.Machine

/-! # What the engine machine does, said once

The entries to its states, the stop causes and the evaluation points, each by what it leaves in the ESC, in the queue, in the STARTS item
and in the notice set (R140 to R155). -/

namespace Sys2Proof.Machine

-- In order: proofs elaborated side by side wait for one another in too many threads.
set_option Elab.async false

/-! ## 1. Carrying a fact over a change elsewhere -/

section
variable {s s' t v : State} {bs : List Block}

theorem Noted.after {k : NoticeKind} {d : Nat} (h : Noted k d s v) (hv : OnlyChanges bs v t) (hb : .notices ∉ bs := by decide) :
    Noted k d s t := (hv.noticeOf hb k).trans h

theorem Noted.before {k : NoticeKind} {d : Nat} (h : Noted k d v t) (hv : OnlyChanges bs s v) (hb : .notices ∉ bs := by decide) :
    Noted k d s t := h.trans (by rw [hv.noticeOf hb k])

theorem Queued.after {n : NodeAddr} {k : EntryKind} {p : List Byte} {o : Origin} (h : Queued n k p o v) (hv : OnlyChanges bs v t)
    (hb : .nlc ∉ bs := by decide) : Queued n k p o t := by
  unfold Queued
  rw [show t.nlc = v.nlc from hv .nlc hb]
  exact h

theorem Offered.after {n : NodeAddr} {k : EntryKind} {p : List Byte} {o : Origin} (h : Offered s n k p o v) (hv : OnlyChanges bs v t)
    (hb : .nlc ∉ bs := by decide) : Offered s n k p o t := fun ht => (h ht).after hv hb

theorem Offered.before {n : NodeAddr} {k : EntryKind} {p : List Byte} {o : Origin} (h : Offered v n k p o t) (hv : OnlyChanges bs s v)
    (hb : .nodes ∉ bs := by decide) : Offered s n k p o t := fun ht => h ((hv.takes hb n).trans ht)

theorem Offered.offer {n m : NodeAddr} {k j : EntryKind} {p q : List Byte} {o o' : Origin} (h : Offered s n k p o v)
    (hne : m ≠ n ∨ j ≠ k) : Offered s n k p o (v.offer m j q o') := fun ht => (h ht).offerAt hne _ _

theorem State.offered_offer (n : NodeAddr) (k : EntryKind) (p : List Byte) (o : Origin) (s : State) :
    Offered s n k p o (s.offer n k p o) := State.offered_offerAt n k p _ o _ s

theorem State.offer_only (n : NodeAddr) (k : EntryKind) (p : List Byte) (o : Origin) (s : State) :
    OnlyChanges [.nlc] s (s.offer n k p o) := by simp

end

/-! ## 2. Changes of the machine state (R140) -/

section
variable {s : State} {m : EngineState}

/-- From a state other than FAULT to one that ends no wait, the change sets the state and gives its notice. -/
theorem State.setEngine_of_ne (hne : s.esc.machine ≠ m) (hf : s.esc.machine ≠ .fault) (hm : m ≠ .off) (hm' : m ≠ .fault) :
    s.setEngine m = (s.setEsc { s.esc with machine := m }).notify .engine m.code := by
  have hw (u : State) : u.waitsForEngine m = false := by simp [State.waitsForEngine, hm, hm']
  simp [State.setEngine, hne, hf, hm, hw]

theorem State.setEngine_only (hne : s.esc.machine ≠ m) (hf : s.esc.machine ≠ .fault) (hm : m ≠ .off) (hm' : m ≠ .fault) :
    OnlyChanges [.esc, .notices] s (s.setEngine m) := by
  rw [State.setEngine_of_ne hne hf hm hm']
  simp

/-- The end of a cause gives notice of the list and of the restriction alone (R193, R196). -/
theorem State.noticeOf_endCause (k : FaultKind) {j : NoticeKind} (h1 : j ≠ .faultCleared) (h2 : j ≠ .restriction) (s : State) :
    (s.endCause k).noticeOf j = s.noticeOf j := by
  have hremove : (s.removeFault k).noticeOf j = s.noticeOf j := by
    unfold State.removeFault State.noteRestriction
    split
    · exact State.noticeOf_notify_other _ _ h1
    · exact (State.noticeOf_notify_other _ _ h2).trans (State.noticeOf_notify_other _ _ h1)
  unfold State.endCause
  split
  · rfl
  · split
    · rfl
    · split
      · rfl
      · exact hremove

theorem State.noticeOf_endCauses (ks : List FaultKind) {j : NoticeKind} (h1 : j ≠ .faultCleared) (h2 : j ≠ .restriction) (s : State) :
    (s.endCauses ks).noticeOf j = s.noticeOf j := by
  unfold State.endCauses
  induction ks generalizing s with
  | nil => rfl
  | cons k ks ih => rw [List.foldl_cons, ih, State.noticeOf_endCause k h1 h2]

/-- Every change of the machine state gives its notice once (R140). -/
theorem State.setEngine_noted (hne : s.esc.machine ≠ m) : Noted .engine m.code s (s.setEngine m) := by
  have hend (u : State) : (if s.esc.machine = .fault then u.endCauses [.crankFail, .stopFail] else u).noticeOf .engine = u.noticeOf .engine := by
    split
    · exact State.noticeOf_endCauses _ (by decide) (by decide) u
    · rfl
  have hwait (u : State) : (if u.waitsForEngine m then u.endEngineWait else u).noticeOf .engine = u.noticeOf .engine := by
    split
    · exact (by unfold State.endEngineWait; simp (disch := decide) : OnlyChanges [.progress, .wear] u u.endEngineWait).noticeOf (by decide) _
    · rfl
  unfold State.setEngine
  dsimp only
  rw [if_neg hne]
  exact (hwait _).trans ((hend _).trans (State.noticeOf_notify_same _ _ _))

end

/-! ## 3. Entries that stop the engine (R151, R152) -/

/-- An entry to STOPPING from a state other than FAULT. -/
structure StopsEngine (s t : State) : Prop where
  esc : t.esc = { s.esc with machine := .stopping, cooldownTimer := none, crankTimer := none, restTimer := none,
                             stopTimer := some (s.par .tStop), stopExpiries := 0 }
  stop : Offered s .eng .command [2] .engine t
  force : s.esc.machine.inService = true → Offered s .eng .force [0, 0] .engine t
  noted : Noted .engine 6 s t
  only : OnlyChanges [.nlc, .esc, .notices] s t

section
variable {s : State} {c : StopCause}

theorem forcePayload_zero : forcePayload 0 = [0, 0] := by decide

/-- The offers of an entry to STOPPING. -/
theorem State.stopOffered_offers (s : State) : Offered s .eng .command [2] .engine s.stopOffered ∧
    (s.esc.machine.inService = true → Offered s .eng .force [0, 0] .engine s.stopOffered) := by
  let u := if s.esc.machine.inService then s.offerNoForce else s
  let x : EngineUnit := { u.esc with cooldownTimer := none, crankTimer := none, restTimer := none }
  have hu : OnlyChanges [.nlc] s u := by simp [u]
  have hx : OnlyChanges [.esc] u (u.setEsc x) := by simp
  have hlast : OnlyChanges [.esc] ((u.setEsc x).offer .eng .command stopPayload .engine) s.stopOffered := by
    unfold State.stopOffered
    simp [u, x, State.offerStop]
  refine ⟨?_, fun hin => ?_⟩
  · exact ((((State.offered_offer .eng .command [2] .engine (u.setEsc x)).before hx).before hu)).after hlast
  · have hforce : Offered s .eng .force [0, 0] .engine u := by
      simp only [u, hin, if_true]
      exact forcePayload_zero ▸ State.offered_offer .eng .force (forcePayload 0) .engine s
    exact ((hforce.after hx).offer (.inr (by decide))).after hlast

/-- An entry to STOPPING leaves what is queued for other nodes and kinds. -/
theorem Queued.enterStopping {n : NodeAddr} {k : EntryKind} {p : List Byte} {o : Origin} (h : Queued n k p o s)
    (hk : n ≠ .eng ∨ (k ≠ .command ∧ (k ≠ .force ∨ s.esc.machine.inService = false))) (hne : s.esc.machine ≠ .stopping)
    (hf : s.esc.machine ≠ .fault) : Queued n k p o s.enterStopping := by
  have hm : s.stopOffered.esc.machine = s.esc.machine := by rw [State.stopOffered_esc]
  have hset := State.setEngine_only (s := s.stopOffered) (m := .stopping) (hm ▸ hne) (hm ▸ hf) (by decide) (by decide)
  let u := if s.esc.machine.inService then s.offerNoForce else s
  have hu : Queued n k p o u := by
    by_cases hin : s.esc.machine.inService = true
    · simp only [u, hin, if_true]
      exact h.offerAt (by grind) _ _
    · rw [show u = s from if_neg hin]
      exact h
  let v := u.setEsc { u.esc with cooldownTimer := none, crankTimer := none, restTimer := none }
  have hv : Queued n k p o v := hu.after (bs := [.esc]) (by simp [v])
  have hstop : Queued n k p o v.offerStop := hv.offerAt (by grind) _ _
  have hlast : Queued n k p o s.stopOffered := hstop.after (bs := [.esc]) (by unfold State.stopOffered; simp [u, v])
  rw [State.enterStopping_eq]
  exact hlast.after hset

theorem State.enterStopping_spec (hne : s.esc.machine ≠ .stopping) (hf : s.esc.machine ≠ .fault) : StopsEngine s s.enterStopping := by
  have hm : s.stopOffered.esc.machine = s.esc.machine := by rw [State.stopOffered_esc]
  have hset := State.setEngine_only (s := s.stopOffered) (m := .stopping) (hm ▸ hne) (hm ▸ hf) (by decide) (by decide)
  obtain ⟨hstop, hforce⟩ := s.stopOffered_offers
  rw [State.enterStopping_eq]
  refine ⟨?_, hstop.after hset, fun hin => (hforce hin).after hset, ?_, ?_⟩
  · simp [State.setEngine_esc, State.stopOffered_esc]
  · exact (State.setEngine_noted (hm ▸ hne)).before s.stopOffered_only
  · exact (s.stopOffered_only.mono (by decide)).trans (hset.mono (by decide))

/-- An entry to COOLDOWN that stays there (R151). -/
structure CoolsEngine (c : StopCause) (s t : State) : Prop where
  esc : t.esc = { s.esc with machine := .cooldown, stopCause := some c, cooldownTimer := some (s.par .tCool * 1000) }
  force : Offered s .eng .force [0, 0] .engine t
  noted : Noted .engine 5 s t
  only : OnlyChanges [.nlc, .esc, .notices] s t

theorem EngineState.ne_of_inService {m : EngineState} (h : m.inService = true) : m ≠ .cooldown ∧ m ≠ .stopping ∧ m ≠ .fault ∧ m ≠ .off := by
  cases m <;> simp_all [EngineState.inService]

/-- The first part of an entry to COOLDOWN, whatever t_cool is. -/
theorem State.cooled_spec (h : s.esc.machine.inService = true) : CoolsEngine c s
    ((s.offerNoForce.setEsc { s.offerNoForce.esc with
        stopCause := some c, cooldownTimer := some (s.offerNoForce.par .tCool * 1000) }).setEngine .cooldown) := by
  obtain ⟨hcool, -, hfault, -⟩ := EngineState.ne_of_inService h
  have he : s.offerNoForce.esc = s.esc := State.offer_esc ..
  have hp : s.offerNoForce.par .tCool = s.par .tCool := State.offer_par ..
  rw [he, hp]
  let u := s.offerNoForce.setEsc { s.esc with stopCause := some c, cooldownTimer := some (s.par .tCool * 1000) }
  have hforce : Offered s .eng .force [0, 0] .engine s.offerNoForce :=
    forcePayload_zero ▸ State.offered_offer .eng .force (forcePayload 0) .engine s
  have hu : OnlyChanges [.esc] s.offerNoForce u := by simp [u]
  have hset := State.setEngine_only (s := u) (m := .cooldown) hcool hfault (by decide) (by decide)
  have hoffer : OnlyChanges [.nlc] s s.offerNoForce := by simp
  refine ⟨?_, (hforce.after hu).after hset, ?_, ?_⟩
  · simp [State.setEngine_esc]
  · exact ((State.setEngine_noted (s := u) (m := .cooldown) hcool).before hu).before hoffer
  · exact (hoffer.mono (by decide)).trans ((hu.mono (by decide)).trans (hset.mono (by decide)))

theorem State.enterCooldown_cools (h : s.esc.machine.inService = true) (ht : 0 < s.par .tCool) : CoolsEngine c s (s.enterCooldown c) := by
  have hc := State.cooled_spec (c := c) h
  have heq : s.enterCooldown c = (s.offerNoForce.setEsc { s.offerNoForce.esc with
      stopCause := some c, cooldownTimer := some (s.offerNoForce.par .tCool * 1000) }).setEngine .cooldown :=
    if_neg (by rw [hc.only.par (by decide)]; omega)
  rw [heq]
  exact hc

/-- With a t_cool of 0 the engine goes straight on to STOPPING (R152). -/
theorem State.enterCooldown_stops (h : s.esc.machine.inService = true) (ht : s.par .tCool = 0) :
    (s.enterCooldown c).esc = { s.esc with machine := .stopping, stopCause := some c, cooldownTimer := none, crankTimer := none,
                                           restTimer := none, stopTimer := some (s.par .tStop), stopExpiries := 0 } ∧
      Offered s .eng .command [2] .engine (s.enterCooldown c) ∧ Offered s .eng .force [0, 0] .engine (s.enterCooldown c) ∧
      OnlyChanges [.nlc, .esc, .notices] s (s.enterCooldown c) := by
  have hc := State.cooled_spec (c := c) h
  let u := (s.offerNoForce.setEsc { s.offerNoForce.esc with
      stopCause := some c, cooldownTimer := some (s.offerNoForce.par .tCool * 1000) }).setEngine .cooldown
  have hcu : CoolsEngine c s u := hc
  have heq : s.enterCooldown c = u.enterStopping := if_pos (by rw [hc.only.par (by decide), ht])
  have hm : u.esc.machine = .cooldown := by rw [hcu.esc]
  have hs := State.enterStopping_spec (s := u) (by rw [hm]; decide) (by rw [hm]; decide)
  rw [heq]
  refine ⟨?_, hs.stop.before hcu.only, ?_, hcu.only.trans hs.only⟩
  · rw [hs.esc, hcu.esc, hcu.only.par (by decide)]
  · exact fun ht => (hcu.force ht).enterStopping (.inr ⟨by decide, .inr (by rw [hm]; rfl)⟩) (by rw [hm]; decide) (by rw [hm]; decide)

/-- A crank that is abandoned (R151). -/
theorem State.abandonCrank_spec (h : s.esc.machine = .cranking ∨ s.esc.machine = .retryWait) :
    (s.abandonCrank c).esc = { s.esc with machine := .stopping, crankCause := none, stopCause := some c, cooldownTimer := none,
                                          crankTimer := none, restTimer := none, stopTimer := some (s.par .tStop), stopExpiries := 0 } ∧
      Offered s .eng .command [2] .engine (s.abandonCrank c) ∧ Noted .engine 6 s (s.abandonCrank c) ∧
      OnlyChanges [.nlc, .esc, .notices] s (s.abandonCrank c) := by
  let u := s.setEsc { s.esc with crankCause := none, stopCause := some c }
  have hu : OnlyChanges [.esc] s u := by simp [u]
  have hs := State.enterStopping_spec (s := u) (by rcases h with h | h <;> simp [u, h]) (by rcases h with h | h <;> simp [u, h])
  exact ⟨hs.esc, hs.stop.before hu, hs.noted.before hu, (hu.mono (by decide)).trans hs.only⟩

end


/-! ## 4. Entries that start the engine (R145, R151) -/

section
variable {s t : State} {c : CrankCause}

theorem State.returnToRun_spec (h : s.esc.machine = .cooldown) :
    s.returnToRun.esc = { s.esc with machine := .run, cooldownTimer := none, stopCause := none } ∧
      Noted .engine 4 s s.returnToRun ∧ OnlyChanges [.esc, .notices] s s.returnToRun := by
  let u := s.setEsc { s.esc with cooldownTimer := none, stopCause := none }
  have hu : OnlyChanges [.esc] s u := by simp [u]
  have hne : u.esc.machine ≠ .run := by simp [u, h]
  have hset := State.setEngine_only (s := u) hne (by simp [u, h]) (by decide) (by decide)
  refine ⟨?_, (State.setEngine_noted (s := u) hne).before hu, (hu.mono (by decide)).trans hset⟩
  show (u.setEngine .run).esc = _
  simp [State.setEngine_esc, u]

/-- An increment of a wear item leaves the others (R173). -/
theorem State.wearItem_startWear (s : State) (k : WearKind) : s.startWear.wearItem k =
    if k = .starts then s.refound .starts { s.wearItem .starts with
      value := satAdd max32 (s.wearItem .starts).value (startsIncrement s.nodes.coolantSeen) } else s.wearItem k := by
  unfold State.startWear State.accrue
  split
  · next h => rw [h, State.wearItem_putWear_same]
  · next h => rw [State.wearItem_putWear_other _ _ h]

theorem State.refound_value (s : State) (k : WearKind) (w : WearItem) : (s.refound k w).value = w.value := by
  unfold State.refound
  split <;> rfl

theorem State.startWear_only (s : State) : OnlyChanges [.wear, .notices] s s.startWear := by simp

/-- A wear state that changes gives notice WEAR alone (R167). -/
theorem State.noticeOf_putWear (s : State) (k : WearKind) (w : WearItem) {j : NoticeKind} (h : j ≠ .wear) :
    (s.putWear k w).noticeOf j = s.noticeOf j := by
  unfold State.putWear
  split
  · rfl
  · exact State.noticeOf_notify_other _ _ h

/-- START that is taken is queued and counted (R145, R159). -/
theorem State.offerStart_spec (h : s.takes .eng = true) : Queued .eng .command [1] .engine s.offerStart ∧
    (∀ k, s.offerStart.wearItem k = s.startWear.wearItem k) ∧ s.offerStart.noticeOf .engine = s.noticeOf .engine ∧
    OnlyChanges [.nlc, .wear, .notices] s s.offerStart := by
  let u := s.offer .eng .command startPayload .engine
  have hu : OnlyChanges [.nlc] s u := State.offer_only _ _ _ _ s
  have heq : s.offerStart = u.startWear := by simp [State.offerStart, h, u]
  have hq : Queued .eng .command [1] .engine u := State.offered_offer .eng .command [1] .engine s h
  rw [heq]
  refine ⟨hq.after u.startWear_only, fun k => ?_, ?_, (hu.mono (by decide)).trans (u.startWear_only.mono (by decide))⟩
  · have hnodes : u.nodes = s.nodes := hu .nodes (by decide)
    have hpar := hu.par (by decide)
    have hitem := hu.wearItem (by decide)
    have hstate (v : Nat) : u.wearStateFor .starts v = s.wearStateFor .starts v := by
      unfold State.wearStateFor
      simp only [hpar]
    simp only [State.wearItem_startWear, State.refound, hitem, hnodes, hstate]
  · exact (State.noticeOf_putWear _ _ _ (by decide)).trans (hu.noticeOf (by decide) _)

/-- An entry to CRANKING for a first attempt, from a state other than CRANKING and FAULT (R145, R159). -/
theorem State.enterCranking_spec (h : s.takes .eng = true) (hm : s.esc.machine ≠ .cranking) (hf : s.esc.machine ≠ .fault) :
    Started s (s.enterCranking c) c ∧ (∀ k, k ≠ .starts → (s.enterCranking c).wearItem k = s.wearItem k) ∧
      OnlyChanges [.nlc, .esc, .wear, .notices] s (s.enterCranking c) := by
  obtain ⟨hq, hitem, hnotice, honly⟩ := State.offerStart_spec h
  let v := s.offerStart
  have hesc : v.esc = s.esc := honly .esc (by decide)
  let u := v.setEsc { v.esc with attempts := 1, crankCause := some c, crankTimer := some (v.par .tCrank), schedule := none,
                                 latch := none, stopCause := none }
  have hu : OnlyChanges [.esc] v u := by simp [u]
  have hmu : u.esc.machine = s.esc.machine := by simp [u, hesc]
  have hset := State.setEngine_only (s := u) (m := .cranking) (hmu ▸ hm) (hmu ▸ hf) (by decide) (by decide)
  have hwear : ∀ k, (s.enterCranking c).wearItem k = s.startWear.wearItem k := fun k =>
    (hset.wearItem (by decide) k).trans ((hu.wearItem (by decide) k).trans (hitem k))
  refine ⟨⟨?_, (hq.after hu).after hset, ?_, ?_⟩, fun k hk => ?_, ?_⟩
  · have hpar : v.par .tCrank = s.par .tCrank := honly.par (by decide) _
    show (u.setEngine .cranking).esc = _
    simp [State.setEngine_esc, u, hesc, hpar]
  · have hn : Noted .engine 1 u (u.setEngine .cranking) := State.setEngine_noted (hmu ▸ hm)
    exact hn.trans (by rw [hu.noticeOf (by decide), hnotice])
  · rw [hwear, State.wearItem_startWear, if_pos rfl, State.refound_value]
    rfl
  · rw [hwear, State.wearItem_startWear, if_neg hk]
  · exact (honly.mono (by decide)).trans ((hu.mono (by decide)).trans (hset.mono (by decide)))

end

/-! ## 5. Evaluation points (R144, R151) -/

section
variable {s : State}

theorem State.socLow_iff : s.socLow = true ↔ s.esc.auto = true ∧ ∃ soc, s.nodes.socSeen = some soc ∧ soc < s.par .socStart := by
  unfold State.socLow
  cases hs : s.nodes.socSeen <;> simp

theorem State.demandStands_iff : s.demandStands = true ↔ s.esc.auto = true ∧ s.par .tDem * 1000 ≤ s.psu.above := by
  simp [State.demandStands]

theorem State.scheduledStands_iff : s.scheduledStands = true ↔ s.esc.schedule.map Schedule.phase = some .due := by
  unfold State.scheduledStands
  cases s.esc.schedule <;> simp

theorem State.autoStands_iff : s.AutoStands s.psu.above ↔ s.socLow = true ∨ s.demandStands = true := by
  rw [State.socLow_iff, State.demandStands_iff]
  exact and_or_left

/-- The first cause that stands (R144). -/
theorem State.standingCause_iff {c : CrankCause} :
    s.standingCause = some c ↔ s.FirstCause s.psu.above s.esc.schedule c := by
  unfold State.FirstCause
  simp only [State.autoStands_iff, ← State.socLow_iff, ← State.scheduledStands_iff]
  unfold State.standingCause
  cases s.socLow <;> cases s.demandStands <;> cases s.scheduledStands <;> cases c <;> simp

theorem State.standingCause_none : s.standingCause = none ↔ ∀ c, ¬s.FirstCause s.psu.above s.esc.schedule c := by
  simp only [← State.standingCause_iff, Option.eq_none_iff_forall_ne_some, ne_eq]

theorem State.dwellNeeded_eq : s.dwellNeeded = s.par .tOffMin * 1000 *
    (if (s.wearItem .starts).state = .warn ∨ (s.wearItem .starts).state = .unknown then 2 else 1) := by
  unfold State.dwellNeeded
  cases (s.wearItem .starts).state <;> simp <;> omega

theorem State.startAllowed_iff : s.startAllowed = true ↔ s.demand.zone = false ∧ s.StartFits s.level := by
  unfold State.StartFits
  rw [← State.dwellNeeded_eq]
  simp only [State.startAllowed, Bool.and_eq_true, beq_iff_eq, bne_iff_ne, Bool.not_eq_true', decide_eq_true_eq]
  tauto

theorem StopCause.returnable_iff {c : Option StopCause} : StopCause.returnable c = true ↔ c = some .auto ∨ c = some .host := by
  cases c with
  | none => simp [StopCause.returnable]
  | some c => cases c <;> simp [StopCause.returnable]

theorem State.autoReturns_iff : s.autoReturns = true ↔ s.demand.zone = false ∧ s.Returns s.psu.above s.level := by
  unfold State.Returns
  rw [State.autoStands_iff, ← StopCause.returnable_iff]
  simp only [State.autoReturns, Bool.and_eq_true, Bool.or_eq_true, beq_iff_eq, bne_iff_ne, Bool.not_eq_true']
  tauto

theorem State.takes_of_engReady (h : s.engReady = true) : s.takes .eng = true := by
  have hp : s.nodes.eng.presence = .present := by
    simp only [State.engReady, Bool.and_eq_true, beq_iff_eq] at h
    exact h.1
  have hn : (s.node .eng).presence = .present := hp
  simp [State.takes, hn, Presence.gone]

/-- In OFF the first cause that stands cranks the engine where a start is allowed (R144, R145). -/
theorem State.evaluateStart_starts {c : CrankCause} (hm : s.esc.machine = .off) (hc : s.FirstCause s.psu.above s.esc.schedule c)
    (ha : s.startAllowed = true) : s.evaluateStart = s.enterCranking c ∧ Started s s.evaluateStart c ∧
      (∀ k, k ≠ .starts → s.evaluateStart.wearItem k = s.wearItem k) ∧ OnlyChanges [.nlc, .esc, .wear, .notices] s s.evaluateStart := by
  have heq : s.evaluateStart = s.enterCranking c := by
    simp [State.evaluateStart, hm, State.standingCause_iff.mpr hc, ha]
  have ht : s.takes .eng = true := by
    obtain ⟨-, -, hr, -⟩ := State.startAllowed_iff.mp ha
    exact State.takes_of_engReady hr
  exact ⟨heq, heq ▸ State.enterCranking_spec ht (by rw [hm]; decide) (by rw [hm]; decide)⟩

theorem State.evaluateStart_off (hm : s.esc.machine = .off)
    (h : s.startAllowed = false ∨ ∀ c, ¬s.FirstCause s.psu.above s.esc.schedule c) : s.evaluateStart = s := by
  rcases h with h | h
  · simp only [State.evaluateStart, hm]
    split <;> simp [h]
  · simp [State.evaluateStart, hm, State.standingCause_none.mpr h]

theorem State.evaluateStart_returns (hm : s.esc.machine = .cooldown) (h : s.autoReturns = true) : s.evaluateStart = s.returnToRun := by
  simp [State.evaluateStart, hm, h]

theorem State.evaluateStart_cooldown (hm : s.esc.machine = .cooldown) (h : s.autoReturns = false) : s.evaluateStart = s := by
  simp [State.evaluateStart, hm, h]

theorem State.evaluateStart_other (h1 : s.esc.machine ≠ .off) (h2 : s.esc.machine ≠ .cooldown) : s.evaluateStart = s := by
  unfold State.evaluateStart
  split <;> first | rfl | contradiction

end

/-! ## 6. Stop causes (R150, R151) -/

section
variable {s : State} {c : StopCause} {immediate : Bool}

theorem State.stopCause_inService (h : s.esc.machine.inService = true) : s.stopCause c immediate = s.stopRunning c immediate := by
  unfold State.stopCause
  split <;> simp_all [EngineState.inService]

theorem State.stopCause_crank (h : s.esc.machine = .cranking ∨ s.esc.machine = .retryWait) : s.stopCause c immediate = s.stopCranking c := by
  rcases h with h | h <;> simp [State.stopCause, h]

theorem State.stopCause_cooldown (h : s.esc.machine = .cooldown) : s.stopCause c immediate = s.stopCooling c immediate := by
  simp [State.stopCause, h]

theorem State.stopCause_stopping (h : s.esc.machine = .stopping) : s.stopCause c immediate = s.stopStopping c := by
  simp [State.stopCause, h]

theorem State.stopCause_rest (h : s.esc.machine = .off ∨ s.esc.machine = .fault) : s.stopCause c immediate = s := by
  rcases h with h | h <;> simp [State.stopCause, h]

/-- A stop cause that is not immediate sends a running engine into COOLDOWN. -/
theorem State.stopRunning_cools (h : immediate = false ∨ c ≠ .host) : s.stopRunning c immediate = s.enterCooldown c :=
  if_neg (by grind)

end


/-! ## 7. ENGINE requests (O17 to O20) -/

section
variable {s v t : State} {i : Fin 4} {tag kind : Byte} {owner : State → Taken} {status sub : Byte} {bs : List Block}

theorem OnlyChanges.engineReply (h : OnlyChanges bs v t) (hb : .esc ∉ bs) (status : Byte) :
    t.engineReply status = v.engineReply status := by
  unfold State.engineReply
  rw [show t.esc = v.esc from h _ hb]

theorem OnlyChanges.routeReply (h : OnlyChanges bs v t) (hb : .esc ∉ bs) (hd : .demand ∉ bs) (status sub : Byte) :
    t.routeReply status sub = v.routeReply status sub := by
  unfold State.routeReply
  rw [show t.esc = v.esc from h _ hb, show t.demand = v.demand from h _ hd]

/-- What an accepted request makes of the state that its owner leaves: the host link takes the reply (R209). -/
structure Served (bs : List Block) (tag kind : Byte) (payload : List Byte) (i : Fin 4) (s v t : State) : Prop where
  answered : Answered tag kind payload i s t
  only : OnlyChanges (.hli :: bs) s t
  rest : OnlyChanges [.hli] v t

theorem State.served_plain {payload : List Byte} (h : s.Accepts i) (ho : owner (s.afterSlot i tag kind) = .now v payload)
    (hv : OnlyChanges bs (s.afterSlot i tag kind) v) (hb : .hli ∉ bs := by decide) :
    Served bs tag kind payload i s v (s.plain tag kind true owner) := by
  obtain ⟨ha, hc⟩ := State.answers_plain_run h ho hv hb
  exact ⟨ha, hc, State.onlyChanges_plain_run h ho⟩

/-- An ENGINE request is answered from the state it leaves. -/
theorem State.served_engine (h : s.Accepts i) (ho : owner (s.afterSlot i tag kind) = .engine v status)
    (hv : OnlyChanges bs (s.afterSlot i tag kind) v) (hb : .hli ∉ bs := by decide) :
    Served bs tag kind ((s.plain tag kind true owner).engineReply status) i s v (s.plain tag kind true owner) := by
  have hs := State.served_plain h ho hv hb
  rw [hs.rest.engineReply (by decide)]
  exact hs

/-- A ROUTE request is answered from the state it leaves. -/
theorem State.served_route (h : s.Accepts i) (ho : owner (s.afterSlot i tag kind) = .route v status sub)
    (hv : OnlyChanges bs (s.afterSlot i tag kind) v) (hb : .hli ∉ bs := by decide) :
    Served bs tag kind ((s.plain tag kind true owner).routeReply status sub) i s v (s.plain tag kind true owner) := by
  have hs := State.served_plain h ho hv hb
  rw [hs.rest.routeReply (by decide) (by decide)]
  exact hs

end

/-! ### RESET_FAULT (O20) -/

section
variable {s : State}

theorem State.dropCause_kinds (f : FaultUnit) (k : FaultKind) :
    (f.dropCause k).active.map ActiveFault.kind = f.active.map ActiveFault.kind := by
  simp only [FaultUnit.dropCause, List.map_map]
  refine List.map_congr_left fun e _ => ?_
  simp only [Function.comp_apply]
  split <;> rfl

/-- The end of a latched kind's cause, in a mode that takes it (R193). -/
theorem State.endCause_latched {k : FaultKind} (hk : k.latched = true) (hm : s.mode ≠ .halted) :
    (s.endCause k).faults.active.map ActiveFault.kind = s.faults.active.map ActiveFault.kind ∧
      (∀ e ∈ (s.endCause k).faults.active, (e.kind = k → e.causePresent = false) ∧
        ∃ e' ∈ s.faults.active, e'.kind = e.kind ∧ (e'.causePresent = false → e.causePresent = false)) := by
  unfold State.endCause
  rw [if_neg hm]
  split
  · next hnone =>
    refine ⟨rfl, fun e he => ⟨fun hek => ?_, e, he, rfl, id⟩⟩
    have hno := List.find?_eq_none.mp hnone e he
    simp [hek] at hno
  · rw [if_pos hk]
    refine ⟨State.dropCause_kinds _ k, fun e he => ?_⟩
    obtain ⟨e', he', rfl⟩ := List.mem_map.mp (show e ∈ (s.faults.dropCause k).active from he)
    split
    · exact ⟨fun _ => rfl, e', he', rfl, fun _ => rfl⟩
    · next hne => exact ⟨fun h => absurd h hne, e', he', rfl, id⟩

/-- As FAULT is left outside HALTED the causes of CRANK_FAIL and STOP_FAIL have ended, and both stay in the list (R154, R193). -/
theorem State.endCauses_engine (hm : s.mode ≠ .halted) :
    let t := s.endCauses [.crankFail, .stopFail]
    (∀ e ∈ t.faults.active, e.kind = .crankFail ∨ e.kind = .stopFail → e.causePresent = false) ∧
      t.faults.active.map ActiveFault.kind = s.faults.active.map ActiveFault.kind := by
  obtain ⟨hkinds, hcrank⟩ := State.endCause_latched (s := s) (k := .crankFail) rfl hm
  have hmode : (s.endCause .crankFail).mode = s.mode :=
    (by simp : OnlyChanges [.faults, .notices] s (s.endCause .crankFail)) .mode (by decide)
  obtain ⟨hkinds', hstop⟩ := State.endCause_latched (s := s.endCause .crankFail) (k := .stopFail) rfl (hmode ▸ hm)
  refine ⟨fun e he hk => ?_, hkinds'.trans hkinds⟩
  obtain ⟨hself, e', he', hkind, hdown⟩ := hstop e he
  rcases hk with hk | hk
  · exact hdown ((hcrank e' he').1 (hkind.trans hk))
  · exact hself hk

/-- The machine leaves FAULT outside SHUTDOWN and HALTED (R154). -/
theorem State.leaveFault_spec {m : EngineState} (hf : s.esc.machine = .fault) (hm : m ≠ .fault) (hmode : s.mode ≠ .halted) :
    (∀ e ∈ (s.leaveFault m).faults.active, e.kind = .crankFail ∨ e.kind = .stopFail → e.causePresent = false) ∧
      (s.leaveFault m).faults.active.map ActiveFault.kind = s.faults.active.map ActiveFault.kind := by
  let u := s.setEsc { s.esc with attempts := 0, stopExpiries := 0 }
  let v := (u.setEsc { u.esc with machine := m, offDwell := if m = .off then 0 else u.esc.offDwell }).notify .engine m.code
  let w := v.endCauses [.crankFail, .stopFail]
  have hu : u.esc.machine = .fault := hf
  have heq : s.leaveFault m = if w.waitsForEngine m then w.endEngineWait else w := by
    show u.setEngine m = _
    unfold State.setEngine
    simp only [hu, Ne.symm hm, if_false, if_true]
    rfl
  have hend : OnlyChanges [.progress, .wear] w (s.leaveFault m) := by
    rw [heq]
    unfold State.endEngineWait
    simp (disch := decide)
  obtain ⟨hcause, hkinds⟩ := State.endCauses_engine (s := v) hmode
  rw [show (s.leaveFault m).faults = w.faults from hend .faults (by decide)]
  exact ⟨hcause, hkinds⟩

end

/-- Settles O20. -/
theorem resetFaultLeavesFault : Obligations.ResetFaultLeavesFault := by
  intro tag flags s i h
  let u := s.afterSlot i tag 0x03
  let t := s.plain tag 0x03 true State.takeResetFault
  have unchanged {status : Byte} (ho : u.takeResetFault = .engine u status) :
      Answered tag 0x03 (s.engineReply status) i s t ∧ OnlyChanges [.hli] s t := State.plain_reads h ho
  refine ⟨t, State.powered_on h.powered _, fun hm hf hseen => ?_, fun hm hf hoff hrun => unchanged ?_, fun hm hf => unchanged ?_,
    fun hm => unchanged ?_⟩
  · let m : EngineState := if s.nodes.engineSeen = .off then .off else .run
    have hfu : u.esc.machine = .fault := hf
    have hmf : m ≠ .fault := by simp only [m]; split <;> decide
    have hhalt : u.mode ≠ .halted := Mode.not_halted_of_live h.live
    have ho : u.takeResetFault = .engine (u.leaveFault m) stOk := by
      have hseenu : u.nodes.engineSeen = .off ∨ u.nodes.engineSeen = .running := hseen
      have hmu : m = if u.nodes.engineSeen = .off then .off else .run := rfl
      rw [State.takeResetFault, if_neg (show u.mode ≠ .shutdown from hm), if_pos hfu, hmu]
      rcases hseenu with hs | hs <;> rw [hs] <;> rfl
    have hframe : OnlyChanges [.esc, .faults, .notices] u (u.leaveFault m) := by
      have hset := State.setEngine_only_outside_shutdown (s := u.setEsc { u.esc with attempts := 0, stopExpiries := 0 }) (m := m) hm
      exact (by simp (disch := decide) : OnlyChanges [.esc, .faults, .notices] u (u.setEsc { u.esc with attempts := 0, stopExpiries := 0 })).trans
        (hset.mono (by decide))
    have hs := State.served_engine h ho hframe
    obtain ⟨hcause, hkinds⟩ := State.leaveFault_spec (s := u) hfu hmf hhalt
    have hfaults : t.faults = (u.leaveFault m).faults := hs.rest .faults (by decide)
    refine ⟨?_, by rw [hfaults]; exact hcause, by rw [hfaults]; exact hkinds, hs.answered, hs.only⟩
    have hesc : t.esc = (u.leaveFault m).esc := hs.rest .esc (by decide)
    rw [hesc, State.leaveFault, State.setEngine_esc]
    have hne : EngineState.fault ≠ m := Ne.symm hmf
    simp only [State.setEsc_esc, hfu, hne, ne_eq, not_false_eq_true, true_and]
    have hm_off : m = .off ↔ s.nodes.engineSeen = .off := by
      simp only [m]; split <;> simp_all
    simp only [hm_off]
    rfl
  · have hoffu : u.nodes.engineSeen ≠ .off := hoff
    have hrunu : u.nodes.engineSeen ≠ .running := hrun
    rw [State.takeResetFault, if_neg (show u.mode ≠ .shutdown from hm), if_pos (show u.esc.machine = .fault from hf)]
    split <;> first | contradiction | rfl
  · rw [State.takeResetFault, if_neg (show u.mode ≠ .shutdown from hm), if_neg (show u.esc.machine ≠ .fault from hf)]
  · rw [State.takeResetFault, if_pos (show u.mode = .shutdown from hm)]


/-! ### START and STOP (O17, O18) -/

/-- What holds of the state a request's owner is handed holds of the state before it, and what holds of the owner's state holds once its
reply is due: START counted. -/
theorem Started.served {s u v t : State} {c : CrankCause} (h : Started u v c) (hu : OnlyChanges [.hli] s u) (ht : OnlyChanges [.hli] v t) :
    Started s t c where
  esc := by
    rw [show t.esc = v.esc from ht .esc (by decide), h.esc, show u.esc = s.esc from hu .esc (by decide), hu.par (by decide)]
  start := h.start.after ht
  noted := (h.noted.before hu).after ht
  worn := by
    rw [ht.wearItem (by decide), h.worn, hu.wearItem (by decide), show u.nodes = s.nodes from hu .nodes (by decide)]

/-- ENGINE START once mode, level and zone allow it (R148). -/
theorem State.takeEngineStart_eq {u : State} (flags : Byte) (hm : u.mode = .ready) (hl : u.level ≠ .safeStop)
    (hz : u.demand.zone = false ∨ flags.getLsbD 0 = true) : u.takeEngineStart [flags] = u.hostStart (flags.getLsbD 0) := by
  have hzone : ¬(u.demand.zone = true ∧ flags.getLsbD 0 = false) := by
    rintro ⟨h1, h2⟩
    rcases hz with h | h
    · exact absurd (h1.symm.trans h) (by decide)
    · exact absurd (h2.symm.trans h) (by decide)
  unfold State.takeEngineStart
  exact (if_neg (not_not.mpr hm)).trans ((if_neg hl).trans (if_neg hzone))

/-- Settles O17. -/
theorem hostStartCranksTheEngine : Obligations.HostStartCranksTheEngine := by
  intro tag flags s i h override
  let u := s.afterSlot i tag 0x03
  have hu : OnlyChanges [.hli] s u := State.onlyChanges_afterSlot
  let t := s.plain tag 0x03 true (State.takeEngineStart [flags])
  have ran : exec (.engineStart tag [flags]) s = .next t := State.powered_on h.powered _
  have unchanged {status : Byte} (ho : u.takeEngineStart [flags] = .engine u status) :
      Answered tag 0x03 (s.engineReply status) i s t ∧ OnlyChanges [.hli] s t := State.plain_reads h ho
  refine ⟨fun hm hl hz hoff hr => ?_, fun hm hl hz hov => ⟨t, ran, unchanged ?_⟩, fun hml => ⟨t, ran, unchanged ?_⟩,
    fun hm hl hz => ⟨t, ran, ?_⟩⟩
  · have hru : u.engReady = true := hr
    have hoffu : u.esc.machine = .off := hoff
    have ho : u.takeEngineStart [flags] = .engine (u.enterCranking (hostCause override)) stOk := by
      rw [State.takeEngineStart_eq (u := u) flags hm hl hz]
      simp only [State.hostStart, hoffu, hru, if_true]
      rfl
    obtain ⟨hstart, hitems, honly⟩ := State.enterCranking_spec (c := hostCause override) (State.takes_of_engReady hru)
      (by rw [hoffu]; decide) (by rw [hoffu]; decide)
    have hs := State.served_engine h ho honly
    have hst : Started s t (hostCause override) := hstart.served hu hs.rest
    exact ⟨t, ran, hst.esc, hst.start, hst.worn, fun k hk => (hs.rest.wearItem (by decide) k).trans (hitems k hk), hst.noted,
      hs.answered, hs.only⟩
  · have hzone : u.demand.zone = true ∧ flags.getLsbD 0 = false := ⟨hz, hov⟩
    unfold State.takeEngineStart
    exact (if_neg (not_not.mpr hm)).trans ((if_neg hl).trans (if_pos hzone))
  · unfold State.takeEngineStart
    rcases hml with hm | hl
    · exact if_pos hm
    · by_cases hm : u.mode = .ready
      · exact (if_neg (not_not.mpr hm)).trans (if_pos hl)
      · exact if_pos hm
  · have asked := State.takeEngineStart_eq (u := u) flags hm hl hz
    intro unch
    have hold {m : EngineState} (hmach : s.esc.machine = m) : u.esc.machine = m := hmach
    refine ⟨fun hoff hr => unchanged ?_, fun hmem => unchanged ?_, fun hc hstop => ?_, fun hc hstop => unchanged ?_, fun hc hstop => unchanged ?_,
      fun hc hstop => unchanged ?_, fun hs => ?_, fun hf => unchanged ?_⟩
    · have hru : u.engReady = false := hr
      rw [asked]
      simp [State.hostStart, hold hoff, hru]
    · rw [asked]
      simp only [List.mem_cons, List.not_mem_nil, or_false] at hmem
      rcases hmem with hx | hx | hx | hx <;> simp [State.hostStart, hold hx]
    · have hret : StopCause.returnable u.esc.stopCause = true := StopCause.returnable_iff.mpr hstop
      obtain ⟨hesc, -, honly⟩ := State.returnToRun_spec (hold hc)
      have hs := State.served_engine h (show u.takeEngineStart [flags] = .engine u.returnToRun stOk by
        rw [asked]; simp [State.hostStart, hold hc, hret]) honly
      exact ⟨(hs.rest .esc (by decide)).trans hesc, hs.answered, hs.only⟩
    · rw [asked]
      simp [State.hostStart, hold hc, show u.esc.stopCause = some .zone from hstop, StopCause.returnable, cooldownRefusal]
    · rw [asked]
      simp [State.hostStart, hold hc, show u.esc.stopCause = some .safe from hstop, StopCause.returnable, cooldownRefusal]
    · rw [asked]
      have hstopu : u.esc.stopCause = some .mode ∨ u.esc.stopCause = some .shutdown := hstop
      rcases hstopu with hx | hx <;> simp [State.hostStart, hold hc, hx, StopCause.returnable, cooldownRefusal]
    · have hs' := State.served_engine (bs := [.esc]) h (show u.takeEngineStart [flags] =
          .engine (u.setEsc { u.esc with latch := some (flags.getLsbD 0) }) stOk by
        rw [asked]; simp [State.hostStart, hold hs]) (by simp [u])
      exact ⟨hs'.rest .esc (by decide), hs'.answered, hs'.only⟩
    · rw [asked]
      simp [State.hostStart, hold hf]

/-- An immediate HOST stop of an engine in service or in COOLDOWN (R151, R152). -/
theorem State.stopCause_immediate {u : State} (h : u.esc.machine.inService = true ∨ u.esc.machine = .cooldown) :
    StopsEngine (u.setEsc { u.esc with stopCause := some .host }) (u.stopCause .host true) := by
  have heq : u.stopCause .host true = (u.setEsc { u.esc with stopCause := some .host }).enterStopping := by
    rcases h with h | h
    · exact State.stopCause_inService h
    · exact State.stopCause_cooldown h
  rw [heq]
  refine State.enterStopping_spec ?_ ?_
  · rcases h with h | h
    · exact (EngineState.ne_of_inService h).2.1
    · simp [h]
  · rcases h with h | h
    · exact (EngineState.ne_of_inService h).2.2.1
    · simp [h]

theorem EngineState.inService_iff {m : EngineState} : m.inService = true ↔ m = .run ∨ m = .warmup := by
  cases m <;> simp [EngineState.inService]

/-- Settles O18. -/
theorem hostStopStopsTheEngine : Obligations.HostStopStopsTheEngine := by
  intro tag flags s i h
  let u := s.afterSlot i tag 0x03
  have hu : OnlyChanges [.hli] s u := State.onlyChanges_afterSlot
  let v := u.stopCause .host (flags.getLsbD 0)
  have ho : u.takeEngineStop [flags] = .engine v stOk := rfl
  let t := s.plain tag 0x03 true (State.takeEngineStop [flags])
  have hs : Served engineBlocks tag 0x03 (t.engineReply stOk) i s v t := State.served_engine h ho (by simp (disch := decide) [v, u])
  have only {bs : List Block} (hv : OnlyChanges bs u v) : OnlyChanges (.hli :: bs) s t :=
    (hu.mono (by simp)).trans ((hv.mono (by simp)).trans (hs.rest.mono (by simp)))
  have hesc : t.esc = v.esc := hs.rest .esc (by decide)
  have hset : OnlyChanges [.esc] u (u.setEsc { u.esc with stopCause := some .host }) := by simp
  refine ⟨t, State.powered_on h.powered _, hs.answered, fun hm hi ht => ?_, fun hm hit => ?_, fun hm => ?_, fun hm hi => ?_, fun hm => ?_,
    fun hm => ?_⟩
  · have hin : u.esc.machine.inService = true := EngineState.inService_iff.mpr hm
    have hv : v = u.enterCooldown .host := (State.stopCause_inService hin).trans (State.stopRunning_cools (.inl hi))
    have hc : CoolsEngine .host u v := hv ▸ State.enterCooldown_cools hin ht
    exact ⟨hesc.trans hc.esc, (hc.force.before hu).after hs.rest, (hc.noted.before hu).after hs.rest, only hc.only⟩
  · have hin : u.esc.machine.inService = true := EngineState.inService_iff.mpr hm
    by_cases hi : flags.getLsbD 0 = true
    · have hst : StopsEngine (u.setEsc { u.esc with stopCause := some .host }) v := by
        simp only [v, hi]
        exact State.stopCause_immediate (.inl hin)
      have he := hesc.trans hst.esc
      rw [he]
      exact ⟨rfl, rfl, rfl, rfl, rfl, ((hst.stop.before hset).before hu).after hs.rest, only ((hset.mono (by decide)).trans hst.only)⟩
    · have ht : u.par .tCool = 0 := hit.resolve_left hi
      have hv : v = u.enterCooldown .host :=
        (State.stopCause_inService hin).trans (State.stopRunning_cools (.inl (Bool.eq_false_iff.mpr hi)))
      obtain ⟨hc, hstop, -, honly⟩ := State.enterCooldown_stops (c := .host) hin ht
      rw [← hv] at hc hstop honly
      have he := hesc.trans hc
      rw [he]
      exact ⟨rfl, rfl, rfl, rfl, rfl, (hstop.before hu).after hs.rest, only honly⟩
  · have hv : v = u.abandonCrank .host := State.stopCause_crank hm
    obtain ⟨hc, -, -, honly⟩ := State.abandonCrank_spec (s := u) (c := .host) hm
    rw [← hv] at hc honly
    have he := hesc.trans hc
    rw [he]
    exact ⟨rfl, rfl, rfl, rfl, rfl, rfl, only honly⟩
  · have hst : StopsEngine (u.setEsc { u.esc with stopCause := some .host }) v := by
      simp only [v, hi]
      exact State.stopCause_immediate (.inr hm)
    have he := hesc.trans hst.esc
    rw [he]
    exact ⟨rfl, rfl, rfl⟩
  · have hv : v = u.setEsc { u.esc with stopCause := some .host, latch := none } := State.stopCause_stopping hm
    exact ⟨hesc.trans (by rw [hv]; rfl), only (by rw [hv]; simp)⟩
  · have hv : v = u := by
      rcases hm with hm | hm | ⟨hm, hi⟩
      · exact State.stopCause_rest (.inl hm)
      · exact State.stopCause_rest (.inr hm)
      · simp only [v, hi]
        exact State.stopCause_cooldown (s := u) hm
    exact only (bs := []) (by rw [hv]; exact .refl [] u)

/-! ### AUTO_ON and AUTO_OFF (O19) -/

/-- An evaluation point leaves AUTO as it is, and stays within the ESC, the queue and the STARTS item. -/
theorem State.evaluateStart_spec (s : State) :
    OnlyChanges [.nlc, .esc, .wear, .notices] s s.evaluateStart ∧ s.evaluateStart.esc.auto = s.esc.auto := by
  by_cases hoff : s.esc.machine = .off
  · by_cases hstart : s.startAllowed = true ∧ ∃ c, s.FirstCause s.psu.above s.esc.schedule c
    · obtain ⟨ha, c, hc⟩ := hstart
      obtain ⟨-, hst, -, honly⟩ := State.evaluateStart_starts hoff hc ha
      exact ⟨honly, by rw [hst.esc]⟩
    · rw [State.evaluateStart_off hoff (by grind)]
      exact ⟨.refl _ s, rfl⟩
  · by_cases hcool : s.esc.machine = .cooldown
    · by_cases hr : s.autoReturns = true
      · obtain ⟨hesc, -, honly⟩ := State.returnToRun_spec hcool
        rw [State.evaluateStart_returns hcool hr]
        exact ⟨honly.mono (by decide), by rw [hesc]⟩
      · rw [State.evaluateStart_cooldown hcool (Bool.eq_false_iff.mpr hr)]
        exact ⟨.refl _ s, rfl⟩
    · rw [State.evaluateStart_other hoff hcool]
      exact ⟨.refl _ s, rfl⟩

/-- The first cause, from what each of the three is. -/
theorem State.firstCause_iff {s : State} {n : Nat} {sch : Option Schedule} {low above due : Prop}
    (hlow : (s.esc.auto = true ∧ ∃ soc, s.nodes.socSeen = some soc ∧ soc < s.par .socStart) ↔ low)
    (hstands : s.AutoStands n ↔ low ∨ above) (hdue : sch.map Schedule.phase = some .due ↔ due) (c : CrankCause) :
    s.FirstCause n sch c ↔ (c = .socLow ∧ low) ∨ (c = .demand ∧ ¬low ∧ above) ∨ (c = .scheduled ∧ ¬low ∧ ¬above ∧ due) := by
  unfold State.FirstCause
  simp only [hlow, hstands, hdue]
  tauto

/-- Settles O19. -/
theorem autoSettingFollowsItsRequests : Obligations.AutoSettingFollowsItsRequests := by
  intro tag flags s i h
  let u := s.afterSlot i tag 0x03
  have hu : OnlyChanges [.hli] s u := State.onlyChanges_afterSlot
  refine ⟨?_, ?_⟩
  · let w := u.setEsc { u.esc with auto := true }
    let v := w.evaluateStart
    let t := s.plain tag 0x03 true State.takeAutoOn
    have hw : OnlyChanges [.esc] u w := by simp [w]
    obtain ⟨hv, hauto⟩ := w.evaluateStart_spec
    have hs : Served [.nlc, .esc, .wear, .notices] tag 0x03 (t.engineReply stOk) i s v t :=
      State.served_engine h (owner := State.takeAutoOn) rfl ((hw.mono (by decide)).trans hv)
    have hesc : t.esc = v.esc := hs.rest .esc (by decide)
    refine ⟨t, State.powered_on h.powered _, by rw [hesc]; exact hauto, hs.answered, hs.only, ?_⟩
    intro stays low above due dwell free
    have stay (hvw : v = w) : stays := by
      refine ⟨hesc.trans (by rw [hvw]; rfl), (hu.mono (by decide)).trans ((hw.mono (by decide)).trans ?_)⟩
      rw [← hvw]
      exact hs.rest.mono (by decide)
    have hcause (c : CrankCause) : w.FirstCause w.psu.above w.esc.schedule c ↔
        (c = .socLow ∧ low) ∨ (c = .demand ∧ ¬low ∧ above) ∨ (c = .scheduled ∧ ¬low ∧ ¬above ∧ due) := by
      have hlow : (w.esc.auto = true ∧ ∃ soc, w.nodes.socSeen = some soc ∧ soc < w.par .socStart) ↔ low :=
        ⟨fun h => h.2, fun h => ⟨rfl, h⟩⟩
      have hstands : w.AutoStands w.psu.above ↔ low ∨ above := ⟨fun h => h.2, fun h => ⟨rfl, h⟩⟩
      have hdue : w.esc.schedule.map Schedule.phase = some .due ↔ due := Option.map_eq_some_iff
      exact State.firstCause_iff hlow hstands hdue c
    have hallowed : w.startAllowed = true ↔ free ∧ s.engReady = true ∧ dwell ≤ s.esc.offDwell := by
      rw [State.startAllowed_iff]
      exact ⟨fun ⟨hz, hm, hr, hl, hd⟩ => ⟨⟨hm, hl, hz⟩, hr, hd⟩, fun ⟨⟨hm, hl, hz⟩, hr, hd⟩ => ⟨hz, hm, hr, hl, hd⟩⟩
    have hreturns : w.autoReturns = true ↔ (low ∨ above) ∧ free ∧ (s.esc.stopCause = some .auto ∨ s.esc.stopCause = some .host) := by
      rw [State.autoReturns_iff]
      exact ⟨fun ⟨hz, hm, hl, ha, hc⟩ => ⟨ha.2, ⟨hm, hl, hz⟩, hc⟩, fun ⟨ha, ⟨hm, hl, hz⟩, hc⟩ => ⟨hz, hm, hl, ⟨rfl, ha⟩, hc⟩⟩
    refine ⟨fun hoff => ⟨fun c hc hf hr hd => ?_, fun hno => stay (State.evaluateStart_off hoff ?_)⟩, fun hcool => ⟨fun ha hf hc => ?_, fun hno =>
      stay (State.evaluateStart_cooldown hcool ?_)⟩, fun hoff hcool => stay (State.evaluateStart_other hoff hcool)⟩
    · obtain ⟨-, hst, -⟩ := State.evaluateStart_starts (s := w) hoff ((hcause c).mpr hc) (hallowed.mpr ⟨hf, hr, hd⟩)
      exact ⟨hesc.trans hst.esc, hst.start.after hs.rest, (((hst.noted.before hw).before hu)).after hs.rest,
        by rw [hs.rest.wearItem (by decide)]; exact hst.worn⟩
    · rcases hno with hno | hno
      · obtain ⟨hl, ha, hd⟩ := hno
        refine .inr fun c hc => ?_
        rcases (hcause c).mp hc with ⟨-, hx⟩ | ⟨-, -, hx⟩ | ⟨-, -, -, hx⟩
        · exact hl hx
        · exact ha hx
        · exact hd hx
      · refine .inl (Bool.eq_false_iff.mpr fun ha => ?_)
        obtain ⟨hf, hr, hd⟩ := hallowed.mp ha
        rcases hno with hx | hx | hx
        · exact hx hf
        · exact absurd (hr.symm.trans hx) (by decide)
        · omega
    · obtain ⟨he, hn, honly⟩ := State.returnToRun_spec (s := w) hcool
      have hvr : v = w.returnToRun := State.evaluateStart_returns hcool (hreturns.mpr ⟨ha, hf, hc⟩)
      rw [← hvr] at he hn honly
      exact ⟨hesc.trans he, ((hn.before hw).before hu).after hs.rest, (hu.mono (by decide)).trans
        ((hw.mono (by decide)).trans ((honly.mono (by decide)).trans (hs.rest.mono (by decide))))⟩
    · refine Bool.eq_false_iff.mpr fun hr => ?_
      obtain ⟨ha, hf, hc⟩ := hreturns.mp hr
      rcases hno with ⟨hl, hab⟩ | hx | ⟨hx, hy⟩
      · exact ha.elim hl hab
      · exact hx hf
      · exact hc.elim hx hy
  · have hs := State.served_engine (bs := [.esc]) (tag := tag) (kind := 0x03) h (owner := State.takeAutoOff) rfl (by simp)
    exact ⟨_, State.powered_on h.powered _, hs.rest .esc (by decide), hs.answered, hs.only⟩

/-! ## 8. SCHEDULE and CANCEL (O16) -/

section
variable {s : State} {i : Fin 4} {tag : Byte}

/-- A schedule that is not DUE is taken as it stands (R160). -/
theorem State.putSchedule_waits {sch : Schedule} (h : sch.phase ≠ .due) : s.putSchedule sch = s.setEsc { s.esc with schedule := some sch } :=
  if_neg h

theorem State.putSchedule_due {sch : Schedule} (h : sch.phase = .due) :
    s.putSchedule sch = (s.setEsc { s.esc with schedule := some sch }).scheduleDue := if_pos h

/-- A schedule that becomes DUE with the engine OFF cranks it where a start is allowed, and stands otherwise (R162). -/
theorem State.scheduleDue_off (hoff : s.esc.machine = .off) : s.scheduleDue = s.evaluateStart := by
  simp [State.scheduleDue, hoff]

/-- With the engine not OFF it is cleared, and the entry is an evaluation point (R162). -/
theorem State.scheduleDue_on (hoff : s.esc.machine ≠ .off) :
    s.scheduleDue = (s.setEsc { s.esc with schedule := none }).evaluateStart := by
  simp [State.scheduleDue, hoff]

theorem phaseOf_eq (n m : Nat) (h : 0 < n + m) : phaseOf n m = if 0 < n then .countStops else .countDistance := by
  unfold phaseOf
  split
  · rfl
  · exact if_pos (by omega)

/-- SCHEDULE in READY: the clamped counts (R160). -/
theorem State.takeSchedule_ready {u : State} {stops hi lo : Byte} (hm : u.mode = .ready) :
    let n := min 15 stops.toNat
    let m := min 10000 (hi.toNat * 256 + lo.toNat)
    u.takeSchedule [stops, hi, lo] = .route (u.putSchedule ⟨phaseOf n m, n, m⟩)
      (okOrClamped (decide (15 < stops.toNat) || decide (10000 < hi.toNat * 256 + lo.toNat))) 2 := by
  have hd : unsigned (field [stops, hi, lo] 1 2) = hi.toNat * 256 + lo.toNat := by simp [unsigned, field]
  simp only [State.takeSchedule, hd]
  exact if_neg (not_not.mpr hm)

/-- A DUE schedule of an engine that is OFF stands as a cause. -/
theorem State.exists_cause_of_due (h : s.esc.schedule.map Schedule.phase = some .due) : ∃ c, s.FirstCause s.psu.above s.esc.schedule c := by
  by_contra hno
  have hnone := State.standingCause_none.mpr (not_exists.mp hno)
  have hsched : s.scheduledStands = true := State.scheduledStands_iff.mpr h
  unfold State.standingCause at hnone
  rw [hsched] at hnone
  split at hnone
  · cases hnone
  · split at hnone <;> cases hnone

end

/-- Settles O16. -/
theorem scheduleIsTakenInReady : Obligations.ScheduleIsTakenInReady := by
  intro tag stops hi lo s i h n m st
  let u := s.afterSlot i tag 0x02
  have hu : OnlyChanges [.hli] s u := State.onlyChanges_afterSlot
  refine ⟨?_, ?_⟩
  · let sch : Schedule := ⟨phaseOf n m, n, m⟩
    let w := u.setEsc { u.esc with schedule := some sch }
    let x := w.setEsc { w.esc with schedule := none }
    let v := u.putSchedule sch
    let t := s.plain tag 0x02 true (State.takeSchedule [stops, hi, lo])
    have hw : OnlyChanges [.esc] u w := by simp [w]
    have hx : OnlyChanges [.esc] u x := by simp [x, w]
    have served {bs : List Block} (hm : s.mode = .ready) (hv : OnlyChanges bs u v) (hb : .hli ∉ bs) :
        Served bs tag 0x02 (t.routeReply st 2) i s v t := State.served_route h (State.takeSchedule_ready hm) hv hb
    have reply (hd : t.demand = s.demand) : t.routeReply st 2 = [st, 2, byte (bit s.demand.zone)] ++ scheduleBytes t.esc.schedule := by
      unfold State.routeReply
      rw [hd]
    have due (hz : n + m = 0) : sch = ⟨.due, 0, 0⟩ := by
      have h1 : n = 0 := by omega
      have h2 : m = 0 := by omega
      simp [sch, h1, h2, phaseOf]
    have turnsDue (hz : n + m = 0) : v = w.scheduleDue := State.putSchedule_due (by rw [due hz])
    refine ⟨t, State.powered_on h.powered _, fun hm hz => ?_, fun hm hz hoff hret => ?_, fun hm hz hcool hret => ?_, fun hm hz hoff hno => ?_,
      fun hm hz hoff hyes => ?_, fun hm => ?_⟩
    · have hphase := phaseOf_eq n m hz
      have hv : v = w := State.putSchedule_waits (by show phaseOf n m ≠ .due; rw [hphase]; split <;> decide)
      have hs := served (bs := [.esc]) hm (hv ▸ hw) (by decide)
      have hesc : t.esc = v.esc := hs.rest .esc (by decide)
      refine ⟨hesc.trans ?_, reply (hs.only .demand (by decide)) ▸ hs.answered, hs.only⟩
      rw [hv, ← hphase]
      rfl
    · have hv : v = x := by
        rw [turnsDue hz, State.scheduleDue_on (s := w) hoff]
        by_cases hc : s.esc.machine = .cooldown
        · exact State.evaluateStart_cooldown hc (hret.resolve_left (not_not.mpr hc))
        · exact State.evaluateStart_other hoff hc
      have hs := served (bs := [.esc]) hm (hv ▸ hx) (by decide)
      have hesc : t.esc = x.esc := (hs.rest .esc (by decide)).trans (by rw [hv])
      have hr := reply (hs.only .demand (by decide))
      rw [hesc] at hr
      exact ⟨hesc, hr ▸ hs.answered, hs.only⟩
    · have hv : v = x.returnToRun := by
        rw [turnsDue hz, State.scheduleDue_on (by show s.esc.machine ≠ .off; rw [hcool]; decide)]
        exact State.evaluateStart_returns hcool hret
      obtain ⟨he, hn, honly⟩ := State.returnToRun_spec (s := x) hcool
      rw [← hv] at he hn honly
      have hs := served (bs := [.esc, .notices]) hm ((hx.mono (by decide)).trans honly) (by decide)
      have hesc : t.esc = _ := (hs.rest .esc (by decide)).trans he
      have hr := reply (hs.only .demand (by decide))
      rw [hesc] at hr
      exact ⟨hesc, ((hn.before hx).before hu).after hs.rest, hr ▸ hs.answered, hs.only⟩
    · have hv : v = w := by
        rw [turnsDue hz, State.scheduleDue_off (s := w) hoff]
        exact State.evaluateStart_off hoff (.inl hno)
      have hs := served (bs := [.esc]) hm (hv ▸ hw) (by decide)
      have hesc : t.esc = { s.esc with schedule := some ⟨.due, 0, 0⟩ } := by
        rw [← due hz]
        exact (hs.rest .esc (by decide)).trans (by rw [hv]; rfl)
      have hr := reply (hs.only .demand (by decide))
      rw [hesc] at hr
      exact ⟨hesc, hr ▸ hs.answered, hs.only⟩
    · have hsched : w.esc.schedule.map Schedule.phase = some .due := by
        show some sch.phase = _
        rw [due hz]
      obtain ⟨c, hc⟩ := State.exists_cause_of_due hsched
      obtain ⟨-, hst, -, honly⟩ := State.evaluateStart_starts (s := w) hoff hc hyes
      have hv : v = w.evaluateStart := by rw [turnsDue hz, State.scheduleDue_off (s := w) hoff]
      rw [← hv] at hst honly
      have hs := served (bs := [.nlc, .esc, .wear, .notices]) hm ((hw.mono (by decide)).trans honly) (by decide)
      have hesc : t.esc = _ := (hs.rest .esc (by decide)).trans hst.esc
      have hr := reply (hs.only .demand (by decide))
      rw [hesc] at hr
      exact ⟨by rw [hesc], by rw [hesc], hst.start.after hs.rest, hr ▸ hs.answered, hs.only⟩
    · exact State.plain_reads h (if_pos hm)
  · let t := s.plain tag 0x02 true State.takeCancel
    have hs : Served [.esc] tag 0x02 (t.routeReply stOk 3) i s (u.setEsc { u.esc with schedule := none }) t :=
      State.served_route h (owner := State.takeCancel) rfl (by simp [u])
    have hesc : t.esc = { s.esc with schedule := none } := hs.rest .esc (by decide)
    have hr : t.routeReply stOk 3 = [stOk, 3, byte (bit s.demand.zone)] ++ scheduleBytes none := by
      unfold State.routeReply
      rw [hesc, show t.demand = s.demand from hs.only .demand (by decide)]
    exact ⟨t, State.powered_on h.powered _, hesc, hr ▸ hs.answered, hs.only⟩

end Sys2Proof.Machine

/-! # MODE requests (O21 to O25) -/

namespace Sys2Proof.Machine

-- In order: proofs elaborated side by side wait for one another in too many threads.
set_option Elab.async false

/-! ## 1. What a stop of the engine leaves alone -/

section
variable {s t : State} {c : StopCause} {immediate : Bool} {n : NodeAddr} {k : EntryKind} {p : List Byte} {o : Origin} {j : NoticeKind}

/-- A step of the engine machine that leaves FAULT alone: it offers to ENG alone and gives notice ENGINE alone. -/
structure EngineOnly (s t : State) : Prop where
  only : OnlyChanges [.nlc, .esc, .notices] s t
  queued : ∀ {n k p o}, n ≠ .eng → Queued n k p o s → Queued n k p o t
  notices : ∀ j, j ≠ .engine → t.noticeOf j = s.noticeOf j

theorem EngineOnly.refl (s : State) : EngineOnly s s := ⟨.refl _ s, fun _ h => h, fun _ _ => rfl⟩

theorem EngineOnly.trans {u : State} (h : EngineOnly s t) (h' : EngineOnly t u) : EngineOnly s u :=
  ⟨h.only.trans h'.only, fun hn hq => h'.queued hn (h.queued hn hq), fun j hj => (h'.notices j hj).trans (h.notices j hj)⟩

theorem EngineOnly.of_esc (h : OnlyChanges [.esc] s t) : EngineOnly s t :=
  ⟨h.mono (by decide), fun _ hq => hq.after h, fun j _ => h.noticeOf (by decide) j⟩

theorem EngineOnly.setEsc (s : State) (x : EngineUnit) : EngineOnly s (s.setEsc x) := .of_esc (by simp)

theorem EngineOnly.offer (s : State) (k : EntryKind) (p : List Byte) (o : Origin) : EngineOnly s (s.offer .eng k p o) :=
  ⟨(State.offer_only _ _ _ _ s).mono (by decide), fun hn hq => hq.offerAt (.inl hn.symm) _ _,
    fun j _ => (State.offer_only _ _ _ _ s).noticeOf (by decide) j⟩

theorem EngineOnly.setEngine {m : EngineState} (hf : s.esc.machine ≠ .fault) (hm : m ≠ .off) (hm' : m ≠ .fault) :
    EngineOnly s (s.setEngine m) := by
  by_cases hne : s.esc.machine = m
  · have heq : s.setEngine m = s := by simp [State.setEngine, hne]
    rw [heq]
    exact .refl s
  · have honly := State.setEngine_only hne hf hm hm'
    refine ⟨honly.mono (by decide), fun _ hq => hq.after honly, fun j hj => ?_⟩
    rw [State.setEngine_of_ne hne hf hm hm']
    exact State.noticeOf_notify_other _ _ hj

theorem EngineOnly.enterStopping (hf : s.esc.machine ≠ .fault) : EngineOnly s s.enterStopping := by
  have hoffers : EngineOnly s s.stopOffered := by
    unfold State.stopOffered State.offerNoForce State.offerStop
    dsimp only
    split
    · exact (((EngineOnly.offer _ _ _ _).trans (.setEsc _ _)).trans (.offer _ _ _ _)).trans (.setEsc _ _)
    · exact ((EngineOnly.setEsc _ _).trans (.offer _ _ _ _)).trans (.setEsc _ _)
  rw [State.enterStopping_eq]
  exact hoffers.trans (.setEngine (by rw [State.stopOffered_esc]; exact hf) (by decide) (by decide))

theorem EngineOnly.enterCooldown (hf : s.esc.machine ≠ .fault) : EngineOnly s (s.enterCooldown c) := by
  have he : s.offerNoForce.esc = s.esc := State.offer_esc ..
  let u := (s.offerNoForce.setEsc { s.offerNoForce.esc with
      stopCause := some c, cooldownTimer := some (s.offerNoForce.par .tCool * 1000) }).setEngine .cooldown
  have hu : EngineOnly s u := ((EngineOnly.offer _ _ _ _).trans (.setEsc _ _)).trans
    (.setEngine (by rw [State.setEsc_esc, he]; exact hf) (by decide) (by decide))
  have hmach : u.esc.machine = .cooldown := by simp [u, State.setEngine_esc]
  have heq : s.enterCooldown c = if u.par .tCool = 0 then u.enterStopping else u := rfl
  rw [heq]
  split
  · exact hu.trans (.enterStopping (by rw [hmach]; decide))
  · exact hu

theorem EngineOnly.abandonCrank (hf : s.esc.machine ≠ .fault) : EngineOnly s (s.abandonCrank c) :=
  (EngineOnly.setEsc _ _).trans (.enterStopping hf)

/-- Every stop cause, by the machine state it finds (R151). -/
theorem EngineOnly.stopCause (s : State) (c : StopCause) (immediate : Bool) : EngineOnly s (s.stopCause c immediate) := by
  have running (hf : s.esc.machine ≠ .fault) : EngineOnly s (s.stopRunning c immediate) := by
    unfold State.stopRunning
    split
    · exact (EngineOnly.setEsc _ _).trans (.enterStopping hf)
    · exact .enterCooldown hf
  have cranking (hf : s.esc.machine ≠ .fault) : EngineOnly s (s.stopCranking c) := by
    unfold State.stopCranking
    split
    case h_5 => split <;> first | exact .refl s | exact .abandonCrank hf
    case h_6 => exact .refl s
    all_goals exact .abandonCrank hf
  unfold State.stopCause
  split
  · next h => exact running (by rw [h]; decide)
  · next h => exact running (by rw [h]; decide)
  · next h => exact cranking (by rw [h]; decide)
  · next h => exact cranking (by rw [h]; decide)
  · next h =>
    unfold State.stopCooling
    split
    case h_5 =>
      split
      · exact (EngineOnly.setEsc _ _).trans (.enterStopping (by rw [State.setEsc_esc, h]; decide))
      · exact .refl s
    case h_6 => exact .refl s
    all_goals exact .setEsc _ _
  · exact .setEsc _ _
  · exact .refl s
  · exact .refl s

end

/-! ## 2. Replies of a MODE request -/

/-- The host link from `s` to `t` but for the access level: replies have joined the line. -/
structure LineGrows (due : List Reply) (s t : State) : Prop where
  line : t.hli.line = s.hli.line ++ due
  ordered : t.hli.ordered
  slots : t.hli.slots = s.hli.slots
  framer : t.hli.framer = s.hli.framer
  framingErrors : t.hli.framingErrors = s.hli.framingErrors
  crcErrors : t.hli.crcErrors = s.hli.crcErrors

section
variable {s t v : State} {i : Fin 4} {tag kind : Byte} {owner : State → Taken} {payload : List Byte} {due : List Reply} {bs : List Block}

theorem LineGrows.refl (h : s.hli.ordered) : LineGrows [] s s := ⟨by simp, h, rfl, rfl, rfl, rfl⟩

theorem LineGrows.of_eq (h : s.hli.ordered) (he : t.hli = s.hli) : LineGrows [] s t := by
  refine ⟨?_, ?_, ?_, ?_, ?_, ?_⟩ <;> simp [he, h]
  exact he ▸ h

theorem LineGrows.after (h : LineGrows due s v) (hv : OnlyChanges bs v t) (hb : .hli ∉ bs := by decide) : LineGrows due s t := by
  have he : t.hli = v.hli := hv .hli hb
  exact ⟨he ▸ h.line, he ▸ h.ordered, he ▸ h.slots, he ▸ h.framer, he ▸ h.framingErrors, he ▸ h.crcErrors⟩

theorem LineGrows.access (h : LineGrows due s v) (a : Access) (he : t.hli = { v.hli with access := a }) : LineGrows due s t := by
  refine ⟨?_, ?_, ?_, ?_, ?_, ?_⟩ <;> rw [he]
  · exact h.line
  · exact h.ordered
  · exact h.slots
  · exact h.framer
  · exact h.framingErrors
  · exact h.crcErrors

/-- The reply of a request joins the line behind what its owner has put there. -/
theorem State.replied_run (h : s.Accepts i) (ho : owner (s.afterSlot i tag kind) = .now v payload)
    (hv : LineGrows due (s.afterSlot i tag kind) v) : Replied due tag kind payload i s (s.plain tag kind true owner) ∧
      (s.plain tag kind true owner).hli.access = v.hli.access := by
  rw [State.plain_run h ho]
  obtain ⟨hl, ho', hs, hf, ha, hfe, hce⟩ := State.ready_spec ⟨tag, kind, payload, some i⟩ v hv.ordered
  refine ⟨⟨?_, hs.trans hv.slots, hf.trans hv.framer, ho', hfe.trans hv.framingErrors, hce.trans hv.crcErrors⟩, ha⟩
  rw [hl, hv.line]
  rfl

theorem State.only_run (h : s.Accepts i) (ho : owner (s.afterSlot i tag kind) = .now v payload)
    (hv : OnlyChanges bs (s.afterSlot i tag kind) v) (hb : .hli ∈ bs := by decide) : OnlyChanges bs s (s.plain tag kind true owner) :=
  (State.onlyChanges_afterSlot.mono (by simpa using hb)).trans
    (hv.trans ((State.onlyChanges_plain_run h ho).mono (by simpa using hb)))

end

/-! ## 3. MODE READY (O21) -/

/-- Settles O21. -/
theorem modeReadyExaminesSixConditions : Obligations.ModeReadyExaminesSixConditions := by
  intro tag s i h
  let u := s.afterSlot i tag 0x04
  let t := s.plain tag 0x04 true State.takeModeReady
  refine ⟨t, State.powered_on h.powered _, ?_⟩
  intro here refused
  have reads {payload : List Byte} (ho : u.takeModeReady = .now u payload) :
      Answered tag 0x04 payload i s t ∧ OnlyChanges [.hli] s t := State.plain_reads h ho
  have standby (hm : s.mode = .standby) {r : Reason} (hr : u.readyObstacle = some r) : u.takeModeReady = .refusedFor u r := by
    have hmu : u.mode = .standby := hm
    simp [State.takeModeReady, hmu, hr]
  have refuse (hm : s.mode = .standby) {r : Reason} (hr : u.readyObstacle = some r) : refused r.code := reads (standby hm hr)
  refine ⟨fun hm => ⟨fun hinv hbat hbkf hbkr hload hlevel => ?_, fun hinv => refuse (r := .invNotPresent) hm ?_,
    fun hinv hbat => refuse (r := .batNotPresent) hm ?_, fun hinv hbat hbkf => refuse (r := .bkfNotPresent) hm ?_,
    fun hinv hbat hbkf hbkr => refuse (r := .bkrNotPresent) hm ?_,
    fun hinv hbat hbkf hbkr hload => refuse (r := .storeLoading) hm ?_,
    fun hinv hbat hbkf hbkr hload hlevel => refuse (r := .safeStop) hm ?_⟩, fun hm => reads ?_, fun hm => reads ?_⟩
  · have hmu : u.mode = .standby := hm
    have hnone : u.readyObstacle = none :=
      (if_neg (not_not.mpr hinv)).trans ((if_neg (not_not.mpr hbat)).trans ((if_neg (not_not.mpr hbkf)).trans
        ((if_neg (not_not.mpr hbkr)).trans ((if_neg hload).trans (if_neg hlevel)))))
    let w := u.setDemand { u.demand with freshness := some (u.par .tFresh), firstInReady := true }
    let v := w.enterMode .ready
    have ho : u.takeModeReady = .now v [stOk, 2, 0] := by
      simp only [State.takeModeReady, hmu, hnone]
      rfl
    obtain ⟨hmode, hnoted, hhli⟩ := State.enterMode_spec .ready w
    have hw : LineGrows [] u w := LineGrows.of_eq h.ordered rfl
    have hgrows : LineGrows [] u v := hw.access .drive hhli
    have hframe : OnlyChanges [.mode, .hli, .demand, .notices] u v := by simp (disch := decide) [v, w]
    obtain ⟨hreplied, haccess⟩ := State.replied_run h ho hgrows
    have hrest := State.onlyChanges_plain_run h ho
    have hdemand : v.demand = w.demand :=
      (by simp (disch := decide) [v] : OnlyChanges [.mode, .hli, .notices] w v) .demand (by decide)
    have hnotedu : Noted .mode 2 w v := hnoted
    refine ⟨(hrest .mode (by decide)).trans hmode, (hrest .demand (by decide)).trans hdemand, haccess.trans ?_, hnotedu.after hrest, hreplied,
      State.only_run h ho hframe⟩
    rw [hhli]
    rfl
  · exact if_pos hinv
  · exact (if_neg (not_not.mpr hinv)).trans (if_pos hbat)
  · exact (if_neg (not_not.mpr hinv)).trans ((if_neg (not_not.mpr hbat)).trans (if_pos hbkf))
  · exact (if_neg (not_not.mpr hinv)).trans ((if_neg (not_not.mpr hbat)).trans ((if_neg (not_not.mpr hbkf)).trans (if_pos hbkr)))
  · exact (if_neg (not_not.mpr hinv)).trans ((if_neg (not_not.mpr hbat)).trans ((if_neg (not_not.mpr hbkf)).trans
      ((if_neg (not_not.mpr hbkr)).trans (if_pos hload))))
  · exact (if_neg (not_not.mpr hinv)).trans ((if_neg (not_not.mpr hbat)).trans ((if_neg (not_not.mpr hbkf)).trans
      ((if_neg (not_not.mpr hbkr)).trans ((if_neg hload).trans (if_pos hlevel)))))
  · have hmu : u.mode = .ready := hm
    simp only [State.takeModeReady, hmu, Taken.carried, Taken.mode]
    rfl
  · have hmu : u.mode = .shutdown := hm
    simp only [State.takeModeReady, hmu, Taken.refusedFor, Taken.mode, hm]
    rfl


/-! ## 4. Leaving READY (R5, R83, R120) -/

section
variable {s t : State} {c : StopCause}

/-- Leaving braking resets the BBU's working values and closes the event (R83). -/
theorem State.leaveBraking_spec (reason : EndReason) (s : State) :
    (s.leaveBraking reason).bbu = { s.bbu with prev := 0, result := .initial, saturated := false, braking := false } ∧
      (s.leaveBraking reason).log.current = none ∧
      (∀ j, j ≠ .event → j ≠ .faultCleared → j ≠ .restriction → (s.leaveBraking reason).noticeOf j = s.noticeOf j) ∧
      OnlyChanges [.bbu, .log, .faults, .notices] s (s.leaveBraking reason) := by
  let u := (s.setBbu { s.bbu with prev := 0 }).closeEvent reason
  let v := if u.bbu.saturated then (u.setBbu { u.bbu with saturated := false }).endCause .frictionSaturated else u
  have hu : OnlyChanges [.log, .notices] (s.setBbu { s.bbu with prev := 0 }) u := by simp [u]
  have hbu : u.bbu = { s.bbu with prev := 0 } := hu .bbu (by decide)
  have hvl : v.log = u.log := (by simp (disch := decide) [v] : OnlyChanges [.bbu, .faults, .notices] u v) .log (by decide)
  have hvb : v.bbu = { s.bbu with prev := 0, saturated := false } := by
    by_cases hsat : u.bbu.saturated = true
    · have hv : v = (u.setBbu { u.bbu with saturated := false }).endCause .frictionSaturated := if_pos hsat
      have hend : OnlyChanges [.faults, .notices] (u.setBbu { u.bbu with saturated := false }) v := by rw [hv]; simp
      rw [show v.bbu = _ from hend .bbu (by decide), State.setBbu_bbu, hbu]
    · rw [show v = u from if_neg hsat, hbu]
      rw [hbu] at hsat
      simpa using hsat
  have heq : s.leaveBraking reason = v.setBbu { v.bbu with result := .initial, braking := false } := rfl
  refine ⟨?_, ?_, fun j h1 h2 h3 => ?_, by simp⟩
  · rw [heq, State.setBbu_bbu, hvb]
  · rw [heq]
    show v.log.current = none
    rw [hvl]
    exact State.closeEvent_current _ _
  · have hclose : u.noticeOf j = s.noticeOf j := by
      simp only [u]
      unfold State.closeEvent
      split
      · rfl
      · exact State.noticeOf_notify_other _ _ h1
    have hend : v.noticeOf j = u.noticeOf j := by
      simp only [v]
      split
      · exact State.noticeOf_endCause _ h2 h3 _
      · rfl
    exact hend.trans hclose

theorem torquePayload_zero : torquePayload 0 = [0, 0] := by decide

/-- The release of the drive and of both brakes enters the queue (R5, R6). -/
theorem State.offerRelease_spec (s : State) : Offered s .inv .torque [0, 0] .mode s.offerRelease ∧
    Offered s .bkf .pressure [0, 0, 0] .mode s.offerRelease ∧ Offered s .bkr .pressure [0, 0, 0] .mode s.offerRelease ∧
    OnlyChanges [.nlc] s s.offerRelease := by
  let u := s.offer .inv .torque (torquePayload 0) .mode
  let v := u.offer .bkf .pressure releasePayload .mode
  have hu : OnlyChanges [.nlc] s u := State.offer_only _ _ _ _ s
  have hv : OnlyChanges [.nlc] u v := State.offer_only _ _ _ _ u
  have htorque : Offered s .inv .torque [0, 0] .mode u := torquePayload_zero ▸ State.offered_offer .inv .torque (torquePayload 0) .mode s
  have hfront : Offered s .bkf .pressure [0, 0, 0] .mode v := (State.offered_offer .bkf .pressure releasePayload .mode u).before hu
  have hrear : Offered s .bkr .pressure [0, 0, 0] .mode s.offerRelease :=
    (State.offered_offer .bkr .pressure releasePayload .mode v).before (hu.trans hv)
  exact ⟨(htorque.offer (.inl (by decide))).offer (.inl (by decide)), hfront.offer (.inl (by decide)), hrear,
    (hu.trans hv).trans (State.offer_only _ _ _ _ v)⟩

/-- What READY leaves behind, in the state after the mode change (R5, R83, R120). -/
structure LeavesReady (c : StopCause) (s t : State) : Prop where
  demand : t.demand = { s.demand with stale := false }
  bbu : t.bbu = { s.bbu with prev := 0, result := .initial, saturated := false, braking := false }
  psu : t.psu = .initial
  event : t.log.current = none
  torque : Offered s .inv .torque [0, 0] .mode t
  front : Offered s .bkf .pressure [0, 0, 0] .mode t
  rear : Offered s .bkr .pressure [0, 0, 0] .mode t
  esc : ∃ u, OnlyChanges [.nlc, .bbu, .psu, .log, .faults, .notices] s u ∧ t.esc = { (u.stopCause c false).esc with schedule := none }
  notices : ∀ j, j ≠ .event → j ≠ .faultCleared → j ≠ .restriction → j ≠ .engine → t.noticeOf j = s.noticeOf j
  only : OnlyChanges [.demand, .nlc, .bbu, .psu, .esc, .log, .faults, .notices] s t

theorem State.leaveReady_spec (c : StopCause) (s : State) : LeavesReady c s (s.leaveReady c) := by
  let a := s.leaveBraking .mode
  let b := a.resetSplit
  let d := b.offerRelease
  let e := d.stopCause c false
  let f := e.setEsc { e.esc with schedule := none }
  let g := f.setDemand { f.demand with stale := false }
  obtain ⟨hbbu, hlog, hnotice, ha⟩ := State.leaveBraking_spec .mode s
  obtain ⟨htorque, hfront, hrear, hd⟩ := b.offerRelease_spec
  have hb : OnlyChanges [.psu] a b := by simp [b, State.resetSplit]
  have hstop := EngineOnly.stopCause d c false
  have he : OnlyChanges [.nlc, .esc, .notices] d e := hstop.only
  have hf : OnlyChanges [.esc] e f := by simp [f]
  have hg : OnlyChanges [.demand] f g := by simp [g]
  have heq : s.leaveReady c = if f.demand.stale then g.endCause .demandStale else g := rfl
  have hend : OnlyChanges [.faults, .notices] g (s.leaveReady c) := by rw [heq]; simp (disch := decide)
  have hsa : OnlyChanges [.bbu, .psu, .log, .faults, .notices] s b := (ha.mono (by decide)).trans (hb.mono (by decide))
  have hsd : OnlyChanges [.nlc, .bbu, .psu, .log, .faults, .notices] s d := (hsa.mono (by decide)).trans (hd.mono (by decide))
  have hse : OnlyChanges [.nlc, .bbu, .psu, .esc, .log, .faults, .notices] s e := (hsd.mono (by decide)).trans (he.mono (by decide))
  have hbt : OnlyChanges [.demand, .nlc, .esc, .faults, .notices] b (s.leaveReady c) :=
    (hd.mono (by decide)).trans ((he.mono (by decide)).trans ((hf.mono (by decide)).trans ((hg.mono (by decide)).trans (hend.mono (by decide)))))
  have survives {n k p o} (hn : n ≠ .eng) (ho : Offered b n k p o d) : Offered s n k p o (s.leaveReady c) := fun ht =>
    (((hstop.queued hn ((ho.before hsa) ht)).after hf).after hg).after hend
  refine ⟨?_, ?_, ?_, ?_, survives (by decide) htorque, survives (by decide) hfront, survives (by decide) hrear, ⟨d, hsd, ?_⟩,
    fun j h1 h2 h3 h4 => ?_, ?_⟩
  · rw [show (s.leaveReady c).demand = g.demand from hend .demand (by decide)]
    show ({ f.demand with stale := false } : DemandUnit) = _
    rw [show f.demand = s.demand from (hf .demand (by decide)).trans (hse .demand (by decide))]
  · exact (hbt .bbu (by decide)).trans ((hb .bbu (by decide)).trans hbbu)
  · exact hbt .psu (by decide)
  · rw [show (s.leaveReady c).log = a.log from (hbt .log (by decide)).trans (hb .log (by decide))]
    exact hlog
  · rw [show (s.leaveReady c).esc = f.esc from (hend .esc (by decide)).trans (hg .esc (by decide))]
    rfl
  · have hlast : (s.leaveReady c).noticeOf j = g.noticeOf j := by
      rw [heq]
      split
      · exact State.noticeOf_endCause _ h2 h3 _
      · rfl
    rw [hlast, hg.noticeOf (by decide), hf.noticeOf (by decide), hstop.notices j h4, hd.noticeOf (by decide), hb.noticeOf (by decide),
      hnotice j h1 h2 h3]
  · exact (hse.mono (by decide)).trans ((hf.mono (by decide)).trans ((hg.mono (by decide)).trans (hend.mono (by decide))))

/-- A running engine cools down under a stop cause other than an immediate HOST stop (R151). -/
theorem State.stopCause_cools (h : s.esc.machine.inService = true) (ht : 0 < s.par .tCool) : CoolsEngine c s (s.stopCause c false) := by
  rw [State.stopCause_inService h, State.stopRunning_cools (.inl rfl)]
  exact State.enterCooldown_cools h ht

end

/-- Settles O22. -/
theorem modeStandbyLeavesReady : Obligations.ModeStandbyLeavesReady := by
  intro tag s i h
  let u := s.afterSlot i tag 0x04
  have hu : OnlyChanges [.hli] s u := State.onlyChanges_afterSlot
  let t := s.plain tag 0x04 true State.takeModeStandby
  have reads {payload : List Byte} (ho : u.takeModeStandby = .now u payload) :
      Answered tag 0x04 payload i s t ∧ OnlyChanges [.hli] s t := State.plain_reads h ho
  let w := u.enterMode .standby
  obtain ⟨hwmode, hwnoted, hwhli⟩ := State.enterMode_spec .standby u
  have hw : OnlyChanges [.mode, .notices] u w := by
    have : w = (u.setMode .standby).notify .mode 1 := rfl
    rw [this]; simp
  refine ⟨t, State.powered_on h.powered _, fun hm hs => ?_, fun hm hs => reads ?_, fun hm hp => ?_, fun hm hp => reads ?_, fun hm => reads ?_⟩
  · have hmu : u.mode = .ready := hm
    have hsu : u.demand.motion = .standstill := hs
    let v := w.leaveReady .mode
    have hl : LeavesReady .mode w v := State.leaveReady_spec .mode w
    have hvmode : v.mode = .standby := (hl.only .mode (by decide)).trans hwmode
    have ho : u.takeModeStandby = .now v [stOk, 1, 0] := by
      have hcarried : u.takeModeStandby = .carried v := by simp only [State.takeModeStandby, hmu, hsu, if_true]; rfl
      rw [hcarried, Taken.carried, Taken.mode, hvmode]
      rfl
    have hv : OnlyChanges [.mode, .demand, .nlc, .bbu, .psu, .esc, .log, .faults, .notices] u v := (hw.mono (by decide)).trans (hl.only.mono (by decide))
    have hserved := State.served_plain h ho hv
    have hr := hserved.rest
    have hsw : OnlyChanges [.hli, .mode, .notices] s w := (hu.mono (by decide)).trans (hw.mono (by decide))
    refine ⟨(hr .mode (by decide)).trans hvmode, ?_, ?_, (hr .psu (by decide)).trans hl.psu, ?_, ?_, (hl.torque.before hsw).after hr,
      (hl.front.before hsw).after hr, (hl.rear.before hsw).after hr, ?_, fun hrun ht => ?_, hserved.answered,
      hserved.only.mono (by decide)⟩
    · rw [show t.demand = v.demand from hr .demand (by decide), hl.demand, show w.demand = s.demand from hsw .demand (by decide)]
    · rw [show t.bbu = v.bbu from hr .bbu (by decide), hl.bbu, show w.bbu = s.bbu from hsw .bbu (by decide)]
    · rw [show t.log = v.log from hr .log (by decide)]; exact hl.event
    · obtain ⟨x, -, hesc⟩ := hl.esc
      rw [show t.esc = v.esc from hr .esc (by decide), hesc]
    · have hn : Noted .mode 1 u v := (hl.notices .mode (by decide) (by decide) (by decide) (by decide)).trans hwnoted
      exact (hn.before hu).after hr
    · obtain ⟨x, hx, hesc⟩ := hl.esc
      have hsx : OnlyChanges [.mode, .hli, .nlc, .bbu, .psu, .log, .faults, .notices] s x := (hsw.mono (by decide)).trans (hx.mono (by decide))
      have hcool := State.stopCause_cools (s := x) (c := .mode) (by rw [show x.esc = s.esc from hsx .esc (by decide), hrun]; rfl)
        (by rw [hsx.par (by decide)]; exact ht)
      rw [show t.esc = v.esc from hr .esc (by decide), hesc, hcool.esc]
      exact ⟨rfl, rfl⟩
  · have hmu : u.mode = .ready := hm
    have hsu : u.demand.motion ≠ .standstill := by rw [show u.demand.motion = .moving from hs]; decide
    simp only [State.takeModeStandby, hmu, hsu, if_false, Taken.refusedFor, Taken.mode]
    rfl
  · have hmu : u.mode = .shutdown := hm
    have hpu : u.progress ≠ .saving := hp
    let v := w.setProgress .idle
    have ho : u.takeModeStandby = .now v [stOk, 1, 0] := by
      simp only [State.takeModeStandby, hmu, hpu, if_false]
      rfl
    have hlast : OnlyChanges [.progress] w v := by simp [v]
    have hserved := State.served_plain (bs := [.mode, .progress, .notices]) h ho ((hw.mono (by decide)).trans (hlast.mono (by decide)))
    have hr := hserved.rest
    exact ⟨(hr .mode (by decide)).trans hwmode, hr .progress (by decide), ((Noted.after hwnoted hlast).before hu).after hr, hserved.answered,
      hserved.only.mono (by decide)⟩
  · have hmu : u.mode = .shutdown := hm
    have hpu : u.progress = .saving := hp
    simp only [State.takeModeStandby, hmu, hpu, if_true, Taken.mode]
    rfl
  · have hmu : u.mode = .standby := hm
    simp only [State.takeModeStandby, hmu, Taken.carried, Taken.mode]
    rfl


/-! ## 5. MODE SHUTDOWN (O23) -/

section
variable {s t : State}

/-- What a shutdown leaves ahead of its wait for the engine, in the state after the mode change (R5, R6). -/
structure Releases (s t : State) : Prop where
  torque : Offered s .inv .torque [0, 0] .mode t
  front : Offered s .bkf .pressure [0, 0, 0] .mode t
  rear : Offered s .bkr .pressure [0, 0, 0] .mode t
  engine : ∃ u, OnlyChanges [.nlc, .bbu, .psu, .log, .faults, .notices] s u ∧
    t.esc.machine = (u.stopCause .shutdown false).esc.machine ∧ t.esc.stopCause = (u.stopCause .shutdown false).esc.stopCause
  noted : t.noticeOf .mode = s.noticeOf .mode
  only : OnlyChanges [.demand, .nlc, .bbu, .psu, .esc, .log, .faults, .notices] s t

theorem LeavesReady.releases (h : LeavesReady .shutdown s t) : Releases s t :=
  ⟨h.torque, h.front, h.rear, let ⟨u, hu, hesc⟩ := h.esc; ⟨u, hu, by rw [hesc], by rw [hesc]⟩,
    h.notices .mode (by decide) (by decide) (by decide) (by decide), h.only⟩

theorem State.offerRelease_stop_releases (s : State) : Releases s (s.offerRelease.stopCause .shutdown false) := by
  obtain ⟨htorque, hfront, hrear, honly⟩ := s.offerRelease_spec
  have hstop := EngineOnly.stopCause s.offerRelease .shutdown false
  have survives {n k p o} (hn : n ≠ .eng) (ho : Offered s n k p o s.offerRelease) :
      Offered s n k p o (s.offerRelease.stopCause .shutdown false) := fun ht => hstop.queued hn (ho ht)
  exact ⟨survives (by decide) htorque, survives (by decide) hfront, survives (by decide) hrear,
    ⟨s.offerRelease, honly.mono (by decide), rfl, rfl⟩, (hstop.notices _ (by decide)).trans (honly.noticeOf (by decide) _),
    (honly.mono (by decide)).trans (hstop.only.mono (by decide))⟩

/-- The engine machine after a shutdown's stop cause, by the state it found (R151). -/
theorem Releases.rests (h : Releases s t) (hm : s.esc.machine = .off ∨ s.esc.machine = .fault) :
    t.esc.machine = .off ∨ t.esc.machine = .fault := by
  obtain ⟨u, hu, hmach, -⟩ := h.engine
  have hesc : u.esc = s.esc := hu .esc (by decide)
  rw [hmach, State.stopCause_rest (hesc ▸ hm), hesc]
  exact hm

theorem Releases.cools (h : Releases s t) (hm : s.esc.machine = .run ∨ s.esc.machine = .warmup) (ht : 0 < s.par .tCool) :
    t.esc.machine = .cooldown ∧ t.esc.stopCause = some .shutdown := by
  obtain ⟨u, hu, hmach, hcause⟩ := h.engine
  have hcool : CoolsEngine .shutdown u (u.stopCause .shutdown false) :=
    State.stopCause_cools (by rw [show u.esc = s.esc from hu .esc (by decide)]; rcases hm with hm | hm <;> rw [hm] <;> rfl)
      (by rw [hu.par (by decide)]; exact ht)
  rw [hmach, hcause, hcool.esc]
  exact ⟨rfl, rfl⟩

theorem State.beginEngineWait_rests (h : s.esc.machine = .off ∨ s.esc.machine = .fault) :
    s.beginEngineWait.progress = .saving ∧ s.beginEngineWait.wear = s.wear.trigger ⟨false, true, false⟩ := by
  rw [show s.beginEngineWait = s.endEngineWait from if_pos h]
  exact ⟨rfl, rfl⟩

theorem State.beginEngineWait_waits (h : s.esc.machine ≠ .off) (h' : s.esc.machine ≠ .fault) :
    s.beginEngineWait = s.setProgress .engineWait := if_neg (not_or.mpr ⟨h, h'⟩)

end

/-- Settles O23. -/
theorem modeShutdownWaitsForTheEngine : Obligations.ModeShutdownWaitsForTheEngine := by
  intro tag s i h
  let u := s.afterSlot i tag 0x04
  have hu : OnlyChanges [.hli] s u := State.onlyChanges_afterSlot
  let t := s.plain tag 0x04 true State.takeModeShutdown
  have reads {payload : List Byte} (ho : u.takeModeShutdown = .now u payload) :
      Answered tag 0x04 payload i s t ∧ OnlyChanges [.hli] s t := State.plain_reads h ho
  let w := u.enterMode .shutdown
  obtain ⟨hwmode, hwnoted, hwhli⟩ := State.enterMode_spec .shutdown u
  have hw : OnlyChanges [.mode, .hli, .notices] u w := by simp [w]
  have hsw : OnlyChanges [.mode, .hli, .notices] s w := (hu.mono (by decide)).trans hw
  -- Both ways in share all but what READY leaves behind.
  let x := if s.mode = .ready then w.leaveReady .shutdown else w.offerRelease.stopCause .shutdown false
  have hready (hm : s.mode = .ready) : x = w.leaveReady .shutdown := if_pos hm
  have hx : Releases w x := by
    simp only [x]
    split
    · exact (State.leaveReady_spec .shutdown w).releases
    · exact w.offerRelease_stop_releases
  refine ⟨t, State.powered_on h.powered _, fun hm hs => ?_, fun hm hs => reads ?_, fun hm => reads ?_⟩
  · let v := x.beginEngineWait
    have hv : OnlyChanges [.progress, .wear] x v := by simp [v]
    have hvmode : v.mode = .shutdown := (hv .mode (by decide)).trans ((hx.only .mode (by decide)).trans hwmode)
    have ho : u.takeModeShutdown = .now v [stOk, 3, 0] := by
      have hsu : u.demand.motion = .standstill := hs
      have hcarried : u.takeModeShutdown = .carried v := by
        rcases hm with hm | hm
        · have hmu : u.mode = .standby := hm
          have hne : s.mode ≠ .ready := by rw [hm]; decide
          simp only [State.takeModeShutdown, hmu, hsu, if_true, v, x, if_neg hne]; rfl
        · have hmu : u.mode = .ready := hm
          simp only [State.takeModeShutdown, hmu, hsu, if_true, v, hready hm]; rfl
      rw [hcarried, Taken.carried, Taken.mode, hvmode]
      rfl
    have hwv : OnlyChanges [.progress, .demand, .nlc, .bbu, .psu, .esc, .log, .wear, .faults, .notices] w v :=
      (hx.only.mono (by decide)).trans (hv.mono (by decide))
    have huv : OnlyChanges [.mode, .progress, .hli, .demand, .nlc, .bbu, .psu, .esc, .log, .wear, .faults, .notices] u v :=
      (hw.mono (by decide)).trans (hwv.mono (by decide))
    have hgrows : LineGrows [] u v := by
      refine (LineGrows.refl (s := u) h.ordered).access .drive ?_
      rw [show v.hli = w.hli from hwv .hli (by decide), hwhli]
      rfl
    obtain ⟨hreplied, haccess⟩ := State.replied_run h ho hgrows
    have hr := State.onlyChanges_plain_run h ho
    have hwesc : w.esc = s.esc := hsw .esc (by decide)
    have hxwear : x.wear = s.wear := (hx.only .wear (by decide)).trans (hsw .wear (by decide))
    have htwear : t.wear = v.wear := hr .wear (by decide)
    have htprog : t.progress = v.progress := hr .progress (by decide)
    have htesc : t.esc = x.esc := (hr .esc (by decide)).trans (hv .esc (by decide))
    have survives {n k p o} (ho : Offered w n k p o x) : Offered s n k p o t := ((ho.before hsw).after hv).after hr
    refine ⟨(hr .mode (by decide)).trans hvmode, haccess.trans ?_, ?_, fun hrest => ?_, fun hrun ht => ?_, fun hm => ?_,
      survives hx.torque, survives hx.front, survives hx.rear, hreplied, State.only_run h ho huv⟩
    · rw [show v.hli = w.hli from hwv .hli (by decide), hwhli]
      rfl
    · have hn : Noted .mode 3 u x := hx.noted.trans hwnoted
      exact ((hn.before hu).after hv).after hr
    · obtain ⟨hprog, hwear⟩ := State.beginEngineWait_rests (hx.rests (hwesc.symm ▸ hrest))
      refine ⟨htprog.trans hprog, fun hs hl => ?_⟩
      rw [htwear, hwear, hxwear, WearUnit.trigger_starts hs hl]
      exact ⟨rfl, rfl⟩
    · obtain ⟨hmach, hcause⟩ := hx.cools (hwesc.symm ▸ hrun) (by rw [hsw.par (by decide)]; exact ht)
      have heq : v = x.setProgress .engineWait :=
        State.beginEngineWait_waits (by rw [hmach]; decide) (by rw [hmach]; decide)
      exact ⟨htprog.trans (by rw [heq]; rfl), htesc ▸ hmach, htesc ▸ hcause, htwear.trans (by rw [heq]; exact hxwear)⟩
    · have hl : LeavesReady .shutdown w x := by
        rw [hready hm]
        exact State.leaveReady_spec .shutdown w
      obtain ⟨y, -, hesc⟩ := hl.esc
      refine ⟨?_, ?_, ?_, ?_⟩
      · rw [show t.psu = x.psu from (hr .psu (by decide)).trans (hv .psu (by decide)), hl.psu]
      · rw [show t.bbu = x.bbu from (hr .bbu (by decide)).trans (hv .bbu (by decide)), hl.bbu]
      · rw [show t.log = x.log from (hr .log (by decide)).trans (hv .log (by decide)), hl.event]
      · rw [htesc, hesc]
  · have hsu : u.demand.motion ≠ .standstill := by rw [show u.demand.motion = .moving from hs]; decide
    rcases hm with hm | hm
    · have hmu : u.mode = .standby := hm
      simp only [State.takeModeShutdown, hmu, hsu, if_false, Taken.refusedFor, Taken.mode, hm]
      rfl
    · have hmu : u.mode = .ready := hm
      simp only [State.takeModeShutdown, hmu, hsu, if_false, Taken.refusedFor, Taken.mode, hm]
      rfl
  · have hmu : u.mode = .shutdown := hm
    simp only [State.takeModeShutdown, hmu, Taken.carried, Taken.mode]
    rfl


/-! ## 6. The replies that the entries to PARKED and to HALTED release (R74, R77) -/

section
variable {s t v : State} {due due' : List Reply}

theorem LineGrows.trans (h : LineGrows due s t) (h' : LineGrows due' t v) : LineGrows (due ++ due') s v :=
  ⟨by rw [h'.line, h.line, List.append_assoc], h'.ordered, h'.slots.trans h.slots, h'.framer.trans h.framer,
    h'.framingErrors.trans h.framingErrors, h'.crcErrors.trans h.crcErrors⟩

/-- The reply owed to an entry that is aborted. -/
def Entry.abortedReply (e : Entry) : Option Reply :=
  match e.reply with
  | .confirmed tag slot =>
    some ⟨tag, 0x10, [stLinkFail, 0, byte e.tunnelNumber, byte (nodeCode e.target), Completion.aborted.code, 0xFF], some slot⟩
  | .none => none
  | .posted => none

theorem State.abortedReplies_eq (s : State) :
    s.abortedReplies = (s.nlc.queue.filter (fun e => !e.inFlight)).filterMap Entry.abortedReply := rfl

/-- One aborted entry: its deferred reply joins the line, and the access level stands. -/
theorem State.releaseReply_grows (h : s.hli.ordered) (e : Entry) :
    LineGrows e.abortedReply.toList s (s.releaseReply stLinkFail (some .aborted) e) ∧
      (s.releaseReply stLinkFail (some .aborted) e).hli.access = s.hli.access := by
  cases hr : e.reply with
  | confirmed tag slot =>
    let r : Reply := ⟨tag, 0x10, [stLinkFail, 0, byte e.tunnelNumber, byte (nodeCode e.target), Completion.aborted.code, 0xFF], some slot⟩
    have howed : e.abortedReply = some r := by simp only [Entry.abortedReply, hr]; rfl
    have hready : s.releaseReply stLinkFail (some .aborted) e = s.ready r := by simp only [State.releaseReply, hr]; rfl
    obtain ⟨hl, ho, hs, hf, ha, hfe, hce⟩ := State.ready_spec r s h
    rw [howed, hready]
    exact ⟨⟨hl, ho, hs, hf, hfe, hce⟩, ha⟩
  | none | posted =>
    have howed : e.abortedReply = none := by simp only [Entry.abortedReply, hr]
    have hready : s.releaseReply stLinkFail (some .aborted) e = s := by simp only [State.releaseReply, hr]
    rw [howed, hready]
    exact ⟨.refl h, rfl⟩

theorem releaseReplies_grow (l : List Entry) (h : s.hli.ordered) :
    LineGrows (l.filterMap Entry.abortedReply) s (l.foldl (fun u e => u.releaseReply stLinkFail (some .aborted) e) s) ∧
      (l.foldl (fun u e => u.releaseReply stLinkFail (some .aborted) e) s).hli.access = s.hli.access := by
  induction l generalizing s with
  | nil => exact ⟨.refl h, rfl⟩
  | cons e l ih =>
    obtain ⟨hgrow, hacc⟩ := s.releaseReply_grows h e
    obtain ⟨hgrow', hacc'⟩ := ih hgrow.ordered
    refine ⟨?_, hacc'.trans hacc⟩
    have heq : (e :: l).filterMap Entry.abortedReply = e.abortedReply.toList ++ l.filterMap Entry.abortedReply := by
      cases hr : e.abortedReply <;> simp [hr]
    rw [heq]
    exact hgrow.trans hgrow'

/-- The waiting entries go, each with its reply; the one in flight makes its last attempt. -/
theorem State.lastAttempts_spec (link : Link) (s : State) (h : s.hli.ordered) :
    LineGrows s.abortedReplies s (s.lastAttempts link) ∧ (s.lastAttempts link).hli.access = s.hli.access ∧
      (s.lastAttempts link).nlc = { s.nlc with queue := lastAttempt (s.nlc.queue.filter (fun e => e.inFlight)), link := link } ∧
      OnlyChanges [.hli, .nlc] s (s.lastAttempts link) := by
  let d := s.dropWaiting (fun _ => true) (fun _ => some .aborted)
  let emptied := s.setNlc { s.nlc with queue := s.nlc.queue.filter (fun e => !(true && !e.inFlight)) }
  have hgone : s.nlc.queue.filter (fun e => true && !e.inFlight) = s.nlc.queue.filter (fun e => !e.inFlight) := by simp
  obtain ⟨hgrow, hacc⟩ := releaseReplies_grow (s := emptied) (s.nlc.queue.filter (fun e => true && !e.inFlight)) h
  rw [hgone] at hgrow hacc
  have hd : d = (s.nlc.queue.filter (fun e => !e.inFlight)).foldl (fun u e => u.releaseReply stLinkFail (some .aborted) e) emptied := by
    simp only [d, State.dropWaiting, hgone]
    rfl
  have hnlc : d.nlc = { s.nlc with queue := s.nlc.queue.filter (fun e => e.inFlight) } := by
    rw [State.dropWaiting_nlc]
    simp
  have hlast : s.lastAttempts link = d.setNlc { d.nlc with queue := lastAttempt d.nlc.queue, link := link } := rfl
  have hset : OnlyChanges [.nlc] d (s.lastAttempts link) := by rw [hlast]; simp
  have honly : OnlyChanges [.hli, .nlc] s d := by simp [d]
  refine ⟨?_, ?_, ?_, honly.trans (hset.mono (by decide))⟩
  · rw [← hd] at hgrow
    exact LineGrows.after (due := s.abortedReplies) ⟨hgrow.line, hgrow.ordered, hgrow.slots, hgrow.framer, hgrow.framingErrors, hgrow.crcErrors⟩
      hset
  · rw [show (s.lastAttempts link).hli = d.hli from rfl, hd]
    exact hacc
  · rw [hlast, State.setNlc_nlc, hnlc]

end

/-! ## 7. MODE PARK (O24) -/

section
variable {s t : State}

theorem State.reserve_endCause (s : State) (k : FaultKind) : (s.endCause k).faults.reserve = s.faults.reserve := by
  unfold State.endCause State.removeFault State.noteRestriction
  repeat' split
  all_goals rfl

/-- An occupied slot keeps the clock (R211). -/
theorem State.slowDown_of_slot {x : InboxRequest} {i : Fin 4} (h : s.hli.slots[i] = some x) : s.slowDown = s := by
  refine if_neg ?_
  rintro ⟨-, -, hset⟩
  rw [((HostLink.settled_iff _).mp hset).2] at h
  revert h
  fin_cases i <;> exact nofun

theorem Fate.withoutRetry_eq (f : Fate) : f.withoutRetry = if f = .nodeLost then .nodeLost else .final := by
  cases f <;> rfl

theorem lastAttempt_of_inFlight {q : List Entry} (h : ∀ e ∈ q, e.inFlight = true) :
    lastAttempt q = q.map (fun e => { e with fate := if e.fate = .nodeLost then .nodeLost else .final }) :=
  List.map_congr_left fun e he => by rw [if_pos (h e he), Fate.withoutRetry_eq]

theorem State.linkCheck_only (s : State) : OnlyChanges [.nlc] s s.linkCheck := by simp

theorem State.linkCheck_leaves (hl : s.nlc.link = .leaving) (hb : s.nlc.breakDue = false) (ht : s.nlc.tx = .idle) :
    s.linkCheck.nlc.link = .away := by
  simp [State.linkCheck, hl, hb, ht]

theorem State.linkCheck_silences (hl : s.nlc.link = .halting) (hb : s.nlc.breakDue = false) (ht : s.nlc.tx = .idle)
    (hq : s.nlc.queue = []) : s.linkCheck.nlc.link = .silent := by
  simp [State.linkCheck, hl, hb, ht, hq, Tx.quiet]

theorem State.parkLink_spec (h : s.hli.ordered) : LineGrows s.abortedReplies s s.parkLink ∧ s.parkLink.hli.access = s.hli.access ∧
    s.parkLink.nlc.queue = lastAttempt (s.nlc.queue.filter (fun e => e.inFlight)) ∧
    (s.nlc.tx = .idle → s.nlc.breakDue = false → s.parkLink.nlc.link = .away) ∧ OnlyChanges [.hli, .nlc] s s.parkLink := by
  obtain ⟨hgrow, hacc, hnlc, hb⟩ := State.lastAttempts_spec .leaving s h
  have hc := State.linkCheck_only (s.lastAttempts .leaving)
  rw [State.parkLink_eq]
  refine ⟨hgrow.after hc, ?_, ?_, fun ht hbr => ?_, hb.trans (hc.mono (by decide))⟩
  · rw [← hacc]
    exact congrArg HostLink.access (hc .hli (by decide))
  · rw [State.linkCheck_queue, hnlc]
  · exact State.linkCheck_leaves (by rw [hnlc]) (by rw [hnlc]; exact hbr) (by rw [hnlc]; exact ht)

/-- What PARKED entry does to the units behind the link (R45, R63, R81, R197, R200). -/
def State.parkUnits (s : State) : State :=
  let s := s.parkNodes
  let s := (s.setDemand s.demand.park).setBbu s.bbu.park
  (s.endCause .frictionSaturated).endReserve

structure ParksUnits (s t : State) : Prop where
  nodes : t.nodes = .initial
  demand : t.demand = s.demand.park
  bbu : t.bbu = s.bbu.park
  reserve : t.faults.reserve = false
  entry : s.mode ≠ .halted → t.faults.entry .zoneReserve = none
  noted : t.noticeOf .mode = s.noticeOf .mode
  only : OnlyChanges [.demand, .nodes, .bbu, .faults, .notices] s t

theorem State.parkNodes_spec (s : State) : s.parkNodes.nodes = .initial ∧ s.parkNodes.noticeOf .mode = s.noticeOf .mode ∧
    OnlyChanges [.nodes, .faults, .notices] s s.parkNodes :=
  have hset : OnlyChanges [.nodes] s (s.setNodes .initial) := by simp
  have hend : OnlyChanges [.faults, .notices] (s.setNodes .initial) s.parkNodes := by
    unfold State.parkNodes
    simp
  ⟨hend .nodes (by decide), (State.noticeOf_endCauses _ (by decide) (by decide) _).trans (hset.noticeOf (by decide) _),
    (hset.mono (by decide)).trans (hend.mono (by decide))⟩

theorem State.parkUnits_spec (s : State) : ParksUnits s s.parkUnits := by
  obtain ⟨hnodes, hnoted, hd⟩ := s.parkNodes_spec
  unfold State.parkUnits
  dsimp only
  generalize s.parkNodes = d at hnodes hnoted hd
  have hdemand : ((d.setDemand d.demand.park).setBbu d.bbu.park).demand = d.demand.park := rfl
  have hbbu : ((d.setDemand d.demand.park).setBbu d.bbu.park).bbu = d.bbu.park := rfl
  have he : OnlyChanges [.demand, .bbu] d ((d.setDemand d.demand.park).setBbu d.bbu.park) := by simp
  generalize (d.setDemand d.demand.park).setBbu d.bbu.park = e at hdemand hbbu he
  have hf : OnlyChanges [.faults, .notices] e (e.endCause .frictionSaturated) := by simp
  have hfnoted := State.noticeOf_endCause .frictionSaturated (j := .mode) (by decide) (by decide) e
  generalize e.endCause .frictionSaturated = f at hf hfnoted
  have hr : OnlyChanges [.faults] f (f.setFaults { f.faults with reserve := false }) := by simp
  have hreserve : (f.setFaults { f.faults with reserve := false }).faults.reserve = false := rfl
  unfold State.endReserve
  generalize f.setFaults { f.faults with reserve := false } = r at hr hreserve
  have hg : OnlyChanges [.faults, .notices] r (r.endCause .zoneReserve) := by simp
  have heg : OnlyChanges [.faults, .notices] e (r.endCause .zoneReserve) := (hf.trans (hr.mono (by decide))).trans hg
  have hdr : OnlyChanges [.demand, .bbu, .faults, .notices] d r :=
    (he.mono (by decide)).trans ((hf.mono (by decide)).trans (hr.mono (by decide)))
  have hsr : OnlyChanges [.demand, .nodes, .bbu, .faults, .notices] s r := (hd.mono (by decide)).trans (hdr.mono (by decide))
  refine ⟨?_, ?_, ?_, ?_, fun hm => State.entry_endCause_self ?_ rfl, ?_, hsr.trans (hg.mono (by decide))⟩
  · rw [heg .nodes (by decide), he .nodes (by decide)]
    exact hnodes
  · rw [heg .demand (by decide), hdemand, hd .demand (by decide)]
  · rw [heg .bbu (by decide), hbbu, hd .bbu (by decide)]
  · rw [State.reserve_endCause, hreserve]
  · rw [hsr .mode (by decide)]
    exact hm
  · rw [State.noticeOf_endCause _ (by decide) (by decide), hr.noticeOf (by decide), hfnoted, he.noticeOf (by decide), hnoted]

theorem State.setHli_hunt (h : s.hli.framer = .hunt) : s.setHli { s.hli with framer := .hunt } = s := by
  have hh : ({ s.hli with framer := .hunt } : HostLink) = s.hli := by rw [← h]
  rw [hh]
  rfl

/-- PARKED as a request in an inbox slot enters it (R8). -/
theorem State.enterParked_eq {x : InboxRequest} {i : Fin 4} (hf : s.hli.framer = .hunt) (hx : s.hli.slots[i] = some x)
    (ho : s.hli.ordered) :
    s.enterParked = (((s.enterMode .parked).setProgress .idle).parkLink.parkUnits).setKeep false := by
  have hstages : s.enterParked =
      (let g := ((s.enterMode .parked).setProgress .idle).parkLink.parkUnits
       ((g.setHli { g.hli with framer := .hunt }).setKeep false).slowDown) := by
    simp only [State.enterParked, State.parkUnits]
  have hahli : ((s.enterMode .parked).setProgress .idle).hli = { s.hli with access := .drive } := (State.enterMode_spec .parked s).2.2
  rw [hstages]
  generalize (s.enterMode .parked).setProgress .idle = a at hahli
  have hgrow : LineGrows a.abortedReplies a a.parkLink.parkUnits :=
    (State.parkLink_spec (s := a) (by rw [hahli]; exact ho)).1.after (State.parkUnits_spec _).only
  generalize a.parkLink.parkUnits = g at hgrow
  have hframer : g.hli.framer = .hunt := by rw [hgrow.framer, hahli]; exact hf
  have hslot : (g.setKeep false).hli.slots[i] = some x := by
    show g.hli.slots[i] = some x
    rw [hgrow.slots, hahli]
    exact hx
  calc ((g.setHli { g.hli with framer := .hunt }).setKeep false).slowDown = (g.setKeep false).slowDown := by
        rw [State.setHli_hunt hframer]
    _ = g.setKeep false := State.slowDown_of_slot hslot

/-- The entry to PARKED by a request (R8, R45, R81, R197). -/
structure EntersParked (s t : State) : Prop where
  mode : t.mode = .parked
  progress : t.progress = .idle
  keep : t.keep = false
  nodes : t.nodes = .initial
  demand : t.demand = s.demand.park
  bbu : t.bbu = s.bbu.park
  queue : t.nlc.queue = lastAttempt (s.nlc.queue.filter (fun e => e.inFlight))
  link : s.nlc.tx = .idle → s.nlc.breakDue = false → t.nlc.link = .away
  reserve : t.faults.reserve = false
  entry : t.faults.entry .zoneReserve = none
  access : t.hli.access = .drive
  noted : Noted .mode 0 s t
  grows : LineGrows s.abortedReplies s t
  only : OnlyChanges [.mode, .progress, .keep, .hli, .demand, .nlc, .nodes, .bbu, .faults, .notices] s t

theorem State.enterParked_spec {x : InboxRequest} {i : Fin 4} (hf : s.hli.framer = .hunt) (hx : s.hli.slots[i] = some x)
    (ho : s.hli.ordered) : EntersParked s s.enterParked := by
  rw [State.enterParked_eq hf hx ho]
  obtain ⟨hmode, hnoted, hhli⟩ := State.enterMode_spec .parked s
  have ha : OnlyChanges [.mode, .progress, .hli, .notices] s ((s.enterMode .parked).setProgress .idle) := by simp
  have hprogress : ((s.enterMode .parked).setProgress .idle).progress = .idle := rfl
  have hahli : ((s.enterMode .parked).setProgress .idle).hli = { s.hli with access := .drive } := hhli
  have hamode : ((s.enterMode .parked).setProgress .idle).mode = .parked := hmode
  have hanoted : Noted .mode 0 s ((s.enterMode .parked).setProgress .idle) := hnoted
  generalize (s.enterMode .parked).setProgress .idle = a at ha hprogress hahli hamode hanoted
  obtain ⟨hgrow, hacc, hqueue, hlink, hb⟩ := State.parkLink_spec (s := a) (by rw [hahli]; exact ho)
  have hunits := State.parkUnits_spec a.parkLink
  generalize a.parkLink = b at hgrow hacc hqueue hlink hb hunits
  generalize b.parkUnits = g at hunits
  have hanlc : a.nlc = s.nlc := ha .nlc (by decide)
  have hgnlc : g.nlc = b.nlc := hunits.only .nlc (by decide)
  have hghli : g.hli = b.hli := hunits.only .hli (by decide)
  have hbmode : b.mode = .parked := (hb .mode (by decide)).trans hamode
  have hsb : OnlyChanges [.mode, .progress, .hli, .nlc, .notices] s b := (ha.mono (by decide)).trans (hb.mono (by decide))
  have hkeep : OnlyChanges [.keep] g (g.setKeep false) := by simp
  have hdue : a.abortedReplies = s.abortedReplies := by rw [State.abortedReplies_eq, hanlc]; rfl
  have hstart : LineGrows [] s a := (LineGrows.refl ho).access .drive hahli
  refine ⟨(hunits.only .mode (by decide)).trans hbmode, ?_, rfl, hunits.nodes, ?_, ?_, ?_, fun ht hbr => ?_, hunits.reserve,
    hunits.entry (by rw [hbmode]; decide), ?_, ?_, ?_, ?_⟩
  · exact (hunits.only .progress (by decide)).trans ((hb .progress (by decide)).trans hprogress)
  · exact hunits.demand.trans (congrArg DemandUnit.park (hsb .demand (by decide)))
  · exact hunits.bbu.trans (congrArg BrakeUnit.park (hsb .bbu (by decide)))
  · show g.nlc.queue = _
    rw [hgnlc, hqueue, hanlc]
  · show g.nlc.link = _
    rw [hgnlc]
    rw [hanlc] at hlink
    exact hlink ht hbr
  · show g.hli.access = _
    rw [hghli, hacc, hahli]
  · have hn : Noted .mode 0 s g := (hunits.noted.trans (hb.noticeOf (by decide) _)).trans hanoted
    exact hn.after hkeep
  · rw [hdue] at hgrow
    exact ((hstart.trans hgrow).after hunits.only).after hkeep
  · exact (hsb.mono (by decide)).trans ((hunits.only.mono (by decide)).trans (hkeep.mono (by decide)))

end

/-- Settles O24. -/
theorem modeParkEntersParked : Obligations.ModeParkEntersParked := by
  intro tag s i h
  let u := s.afterSlot i tag 0x04
  have hu : OnlyChanges [.hli] s u := State.onlyChanges_afterSlot
  let t := s.plain tag 0x04 true State.takeModePark
  have reads {payload : List Byte} (ho : u.takeModePark = .now u payload) :
      Answered tag 0x04 payload i s t ∧ OnlyChanges [.hli] s t := State.plain_reads h ho
  refine ⟨t, State.powered_on h.powered _, fun hm he => ?_, fun hm he => reads ?_, fun hm => reads ?_⟩
  · let v := u.enterParked
    have hslot : u.hli.slots[i] = some ⟨tag, 0x04, false⟩ := by simp [u, State.afterSlot, State.takeSlot]
    have hp : EntersParked u v := State.enterParked_spec rfl hslot h.ordered
    have ho : u.takeModePark = .now v [stOk, 0, 0] := by
      have hmu : u.mode = .standby := hm
      have heu : u.esc.machine = .off := he
      have hcarried : u.takeModePark = .carried v := by simp only [State.takeModePark, hmu, heu, if_true]; rfl
      rw [hcarried, Taken.carried, Taken.mode, hp.mode]
      rfl
    obtain ⟨hreplied, haccess⟩ := State.replied_run h ho hp.grows
    have hr := State.onlyChanges_plain_run h ho
    have hfaults : t.faults = v.faults := hr .faults (by decide)
    have hnlc : t.nlc = v.nlc := hr .nlc (by decide)
    refine ⟨(hr .mode (by decide)).trans hp.mode, (hr .progress (by decide)).trans hp.progress, (hr .keep (by decide)).trans hp.keep,
      (hr .nodes (by decide)).trans hp.nodes, (hr .demand (by decide)).trans hp.demand, (hr .bbu (by decide)).trans hp.bbu, ?_,
      fun htx hbr _ => ?_, ?_, ?_, haccess.trans hp.access, (hp.noted.before hu).after hr, hreplied,
      State.only_run h ho hp.only⟩
    · rw [hnlc, hp.queue]
      exact lastAttempt_of_inFlight fun e he => by simpa using (List.mem_filter.mp he).2
    · rw [hnlc]
      exact hp.link htx hbr
    · rw [hfaults]
      exact hp.reserve
    · rw [hfaults]
      exact hp.entry
  · have hmu : u.mode = .standby := hm
    have heu : u.esc.machine ≠ .off := he
    simp only [State.takeModePark, hmu, heu, if_false, Taken.refusedFor, Taken.mode]
    rfl
  · rcases hm with hm | hm
    · have hmu : u.mode = .ready := hm
      simp only [State.takeModePark, hmu, Taken.refusedFor, Taken.mode, hm]
      rfl
    · have hmu : u.mode = .shutdown := hm
      simp only [State.takeModePark, hmu, Taken.refusedFor, Taken.mode, hm]
      rfl


/-! ## 8. MODE HALT (O25) -/

section
variable {s t : State} {q : List Entry} {n m : NodeAddr} {k j : EntryKind} {p p' : List Byte}

/-- Whatever waits in a queue is a HALT frame that nothing holds. -/
def OnlyHaltWaits (q : List Entry) : Prop := ∀ e ∈ q, e.inFlight = false → e.origin = .mode ∧ e.priority = 0 ∧ e.held = false

theorem mem_of_waits_startFirst {e : Entry} (h : e ∈ startFirst q) (hw : e.inFlight = false) : e ∈ q := by
  induction q with
  | nil => cases h
  | cons x q ih =>
    unfold startFirst at h
    split at h
    · rcases List.mem_cons.mp h with rfl | h
      · cases hw
      · exact List.mem_cons_of_mem _ h
    · rcases List.mem_cons.mp h with rfl | h
      · exact List.mem_cons_self ..
      · exact List.mem_cons_of_mem _ (ih h)

theorem OnlyHaltWaits.kick (h : OnlyHaltWaits s.nlc.queue) : OnlyHaltWaits s.kick.nlc.queue := by
  unfold State.kick
  split
  · unfold State.startFrame
    split
    · exact h
    · exact fun e he hw => h e (mem_of_waits_startFirst he hw) hw
  · exact h

theorem OnlyHaltWaits.offerHalt (h : OnlyHaltWaits s.nlc.queue) : OnlyHaltWaits (s.offerHalt n k p).nlc.queue := by
  unfold State.offerHalt State.offerAt
  split
  · split
    · intro e he hw
      obtain ⟨x, hx, rfl⟩ := List.mem_map.mp he
      split
      · next hwaits =>
        rw [if_pos hwaits] at hw
        obtain ⟨-, hprio, hheld⟩ := h x hx hw
        exact ⟨rfl, hprio, hheld⟩
      · next hwaits =>
        rw [if_neg hwaits] at hw
        exact h x hx hw
    · refine OnlyHaltWaits.kick fun e he hw => ?_
      rcases mem_enqueue.mp he with rfl | he
      · exact ⟨rfl, rfl, by simp [State.newEntry]⟩
      · exact h e he hw
  · exact h

theorem State.offerHalt_only (n : NodeAddr) (k : EntryKind) (p : List Byte) (s : State) : OnlyChanges [.nlc] s (s.offerHalt n k p) := by
  simp

theorem Offered.offerHalt (h : Offered s n k p .mode t) (hne : m ≠ n) : Offered s n k p .mode (t.offerHalt m j p') :=
  fun ht => (h ht).offerAt (.inl hne) _ _

theorem State.offered_offerHalt (n : NodeAddr) (k : EntryKind) (p : List Byte) (s : State) : Offered s n k p .mode (s.offerHalt n k p) :=
  State.offered_offerAt n k p 0 .mode .none s

/-- The four HALT frames join, each for the node that takes it (R10). -/
def State.offerHalts (s : State) : State :=
  (((s.offerHalt .inv .torque (torquePayload 0)).offerHalt .eng .command stopPayload).offerHalt .bkf .pressure releasePayload).offerHalt
    .bkr .pressure releasePayload

structure OffersHalts (s t : State) : Prop where
  torque : Offered s .inv .torque [0, 0] .mode t
  stop : Offered s .eng .command [2] .mode t
  front : Offered s .bkf .pressure [0, 0, 0] .mode t
  rear : Offered s .bkr .pressure [0, 0, 0] .mode t
  waits : OnlyHaltWaits s.nlc.queue → OnlyHaltWaits t.nlc.queue
  refused : (∀ n ∈ [NodeAddr.inv, .eng, .bkf, .bkr], s.takes n = false) → t = s
  only : OnlyChanges [.nlc] s t

theorem State.offerHalt_refused (h : s.takes n = false) : s.offerHalt n k p = s := by
  simp [State.offerHalt, State.offerAt, h]

theorem State.offerHalts_spec (s : State) : OffersHalts s s.offerHalts := by
  let a := s.offerHalt .inv .torque (torquePayload 0)
  let b := a.offerHalt .eng .command stopPayload
  let c := b.offerHalt .bkf .pressure releasePayload
  have ha : OnlyChanges [.nlc] s a := State.offerHalt_only _ _ _ s
  have hb : OnlyChanges [.nlc] s b := ha.trans (State.offerHalt_only _ _ _ a)
  have hc : OnlyChanges [.nlc] s c := hb.trans (State.offerHalt_only _ _ _ b)
  have htorque : Offered s .inv .torque [0, 0] .mode a := torquePayload_zero ▸ State.offered_offerHalt .inv .torque (torquePayload 0) s
  have hstop : Offered s .eng .command [2] .mode b := (State.offered_offerHalt .eng .command stopPayload a).before ha
  have hfront : Offered s .bkf .pressure [0, 0, 0] .mode c := (State.offered_offerHalt .bkf .pressure releasePayload b).before hb
  refine ⟨((htorque.offerHalt (by decide)).offerHalt (by decide)).offerHalt (by decide),
    (hstop.offerHalt (by decide)).offerHalt (by decide), hfront.offerHalt (by decide),
    (State.offered_offerHalt .bkr .pressure releasePayload c).before hc, fun h => h.offerHalt.offerHalt.offerHalt.offerHalt,
    fun h => ?_, hc.trans (State.offerHalt_only _ _ _ c)⟩
  simp only [List.mem_cons, List.not_mem_nil, or_false, forall_eq_or_imp, forall_eq] at h
  obtain ⟨hinv, heng, hbkf, hbkr⟩ := h
  rw [State.offerHalts, State.offerHalt_refused hinv, State.offerHalt_refused heng, State.offerHalt_refused hbkf,
    State.offerHalt_refused hbkr]

/-- The link as HALTED is entered (R10). -/
structure HaltsLink (s t : State) : Prop where
  torque : Offered s .inv .torque [0, 0] .mode t
  stop : Offered s .eng .command [2] .mode t
  front : Offered s .bkf .pressure [0, 0, 0] .mode t
  rear : Offered s .bkr .pressure [0, 0, 0] .mode t
  waits : OnlyHaltWaits t.nlc.queue
  silent : s.nlc.tx = .idle → s.nlc.breakDue = false → s.nlc.queue = [] →
    (∀ n ∈ [NodeAddr.inv, .eng, .bkf, .bkr], s.takes n = false) → t.nlc.link = .silent
  grows : LineGrows s.abortedReplies s t
  access : t.hli.access = s.hli.access
  only : OnlyChanges [.hli, .nlc] s t

theorem State.haltLink_spec (h : s.hli.ordered) : HaltsLink s s.haltLink := by
  obtain ⟨hgrow, hacc, hnlc, ha⟩ := State.lastAttempts_spec .halting s h
  have hoffers := State.offerHalts_spec (s.lastAttempts .halting)
  rw [show s.haltLink = (s.lastAttempts .halting).offerHalts.linkCheck from State.haltLink_eq s]
  generalize s.lastAttempts .halting = a at hgrow hacc hnlc ha hoffers
  generalize a.offerHalts = b at hoffers
  have hcheck := State.linkCheck_only b
  have hqueue := State.linkCheck_queue b
  have hab := hoffers.only
  have survives {n k p} (ho : Offered a n k p .mode b) : Offered s n k p .mode b.linkCheck := fun ht => by
    unfold Queued
    rw [hqueue]
    exact (ho.before ha : Offered s n k p .mode b) ht
  have hwait : OnlyHaltWaits a.nlc.queue := by
    rw [hnlc]
    intro e he hw
    obtain ⟨x, hx, rfl⟩ := List.mem_map.mp he
    have hfly : x.inFlight = true := by simpa using (List.mem_filter.mp hx).2
    rw [if_pos hfly] at hw
    exact absurd (hw.symm.trans hfly) (by decide)
  refine ⟨survives hoffers.torque, survives hoffers.stop, survives hoffers.front, survives hoffers.rear, ?_, fun ht hbr hq hn => ?_,
    (hgrow.after hab).after hcheck, ?_, ha.trans ((hab.trans hcheck).mono (by decide))⟩
  · rw [hqueue]
    exact hoffers.waits hwait
  · have hn' : ∀ n ∈ [NodeAddr.inv, .eng, .bkf, .bkr], a.takes n = false := fun n hm => by
      rw [ha.takes (by decide)]
      exact hn n hm
    rw [hoffers.refused hn']
    refine State.linkCheck_silences (by rw [hnlc]) (by rw [hnlc]; exact hbr) (by rw [hnlc]; exact ht) ?_
    rw [hnlc]
    show lastAttempt (s.nlc.queue.filter _) = []
    rw [hq]
    rfl
  · rw [← hacc, ← show b.hli = a.hli from hab .hli (by decide)]
    exact congrArg HostLink.access (hcheck .hli (by decide))

end

/-- Settles O25. -/
theorem modeHaltQueuesTheHaltFrames : Obligations.ModeHaltQueuesTheHaltFrames := by
  intro tag s i h
  let u := s.afterSlot i tag 0x04
  have hu : OnlyChanges [.hli] s u := State.onlyChanges_afterSlot
  have huo : u.hli.ordered := h.ordered
  let w := ((u.enterMode .halted).closeEvent .mode).setProgress .idle
  obtain ⟨hmode, hnoted, hhli⟩ := State.enterMode_spec .halted u
  have hclosed := State.closeEvent_current .mode (u.enterMode .halted)
  have hclose : OnlyChanges [.log, .notices] (u.enterMode .halted) ((u.enterMode .halted).closeEvent .mode) := by simp
  have hw : OnlyChanges [.mode, .progress, .hli, .log, .notices] u w := by simp [w]
  have hwmode : w.mode = .halted := (hclose .mode (by decide)).trans hmode
  have hwhli : w.hli = { u.hli with access := .drive } := (hclose .hli (by decide)).trans hhli
  have hwnoted : Noted .mode 4 u w := by
    have hkeep : ((u.enterMode .halted).closeEvent .mode).noticeOf .mode = (u.enterMode .halted).noticeOf .mode := by
      unfold State.closeEvent
      split
      · rfl
      · exact State.noticeOf_notify_other _ _ (by decide)
    exact hkeep.trans hnoted
  have hl : HaltsLink w w.haltLink := State.haltLink_spec (by rw [hwhli]; exact huo)
  have ho : u.takeModeHalt = .now w.haltLink [stOk, 4, 0] := by
    have hcarried : u.takeModeHalt = .carried w.haltLink := by
      have hmu : s.mode.live = true := h.live
      unfold State.takeModeHalt
      split
      · rfl
      · rfl
      · rfl
      · next hm => exact absurd hmu (by rw [show s.mode = .parked from hm]; decide)
      · next hm => exact absurd hmu (by rw [show s.mode = .halted from hm]; decide)
    rw [hcarried, Taken.carried, Taken.mode, hl.only .mode (by decide), hwmode]
    rfl
  have hgrows : LineGrows u.abortedReplies u w.haltLink := by
    have hdue : w.abortedReplies = u.abortedReplies := by
      rw [State.abortedReplies_eq, show w.nlc = u.nlc from hw .nlc (by decide)]; rfl
    have hstart : LineGrows [] u w := (LineGrows.refl huo).access .drive hwhli
    exact hdue ▸ hstart.trans hl.grows
  obtain ⟨hreplied, haccess⟩ := State.replied_run h ho hgrows
  have hr := State.onlyChanges_plain_run h ho
  have hsw : OnlyChanges [.mode, .progress, .hli, .log, .notices] s w := (hu.mono (by decide)).trans hw
  have hnlc : (s.plain tag 0x04 true State.takeModeHalt).nlc = w.haltLink.nlc := hr .nlc (by decide)
  have survives {n k p} (hoff : Offered w n k p .mode w.haltLink) :
      Offered s n k p .mode (s.plain tag 0x04 true State.takeModeHalt) := (hoff.before hsw).after hr
  refine ⟨s.plain tag 0x04 true State.takeModeHalt, State.powered_on h.powered _, ?_, ?_, ?_, ?_, ?_, survives hl.torque, survives hl.stop,
    survives hl.front, survives hl.rear, ?_, fun ht hbr hq hn => ?_, hreplied,
    State.only_run h ho ((hw.mono (by decide)).trans (hl.only.mono (by decide)))⟩
  · rw [hr .mode (by decide), hl.only .mode (by decide), hwmode]
  · rw [hr .progress (by decide), hl.only .progress (by decide)]
    rfl
  · rw [hr .log (by decide), hl.only .log (by decide)]
    exact hclosed
  · rw [haccess, hl.access, hwhli]
  · have hn : Noted .mode 4 u w.haltLink := (hl.only.noticeOf (by decide) _).trans hwnoted
    exact (hn.before hu).after hr
  · rw [hnlc]
    exact hl.waits
  · rw [hnlc]
    have hwnlc : w.nlc = s.nlc := hsw .nlc (by decide)
    exact hl.silent (by rw [hwnlc]; exact ht) (by rw [hwnlc]; exact hbr) (by rw [hwnlc]; exact hq) fun n hm => by
      rw [hsw.takes (by decide)]
      exact hn n hm

end Sys2Proof.Machine

/-! # What a raise and a blend do (R99 to R103, R192 to R196) -/

namespace Sys2Proof.Machine

-- In order: proofs elaborated side by side wait for one another in too many threads.
set_option Elab.async false

/-! ## 1. A raised fault stays raised -/

section
variable {s t u : State} {P : ActiveFault → Prop} {k j : FaultKind} {bs : List Block}

/-- An entry of the active fault list has a property. -/
def State.Faulted (s : State) (P : ActiveFault → Prop) : Prop := ∃ e ∈ s.faults.active, P e

/-- A property of an entry that a further raise of its kind keeps, and that no entry of FRICTION_SATURATED has. -/
structure Lasts (P : ActiveFault → Prop) : Prop where
  again : ∀ e detail, P e → P (e.again detail)
  kind : ∀ e, P e → e.kind ≠ .frictionSaturated

theorem Lasts.raised (hk : k ≠ .frictionSaturated) : Lasts (fun e => e.kind = k ∧ e.causePresent = true) :=
  ⟨fun _ _ h => ⟨h.1, rfl⟩, fun _ h => h.1.symm ▸ hk⟩

theorem Lasts.level (hk : k ≠ .frictionSaturated) (l : Level) : Lasts (fun e => e.kind = k ∧ e.level = l) :=
  ⟨fun _ _ h => h, fun _ h => h.1.symm ▸ hk⟩

theorem State.Faulted.after (h : s.Faulted P) (hst : OnlyChanges bs s t) (hb : .faults ∉ bs := by decide) : t.Faulted P := by
  unfold State.Faulted
  rw [hst .faults hb]
  exact h

theorem State.noteRestriction_faults (s u : State) : (s.noteRestriction u).faults = s.faults := by
  unfold State.noteRestriction
  split <;> rfl

theorem State.raiseCore_faults (hm : s.mode ≠ .halted) (k : FaultKind) (detail : Nat) :
    (s.raiseCore k detail).faults = s.faults.addRaise k detail s.runTime := by
  unfold State.raiseCore
  rw [if_neg hm, State.noteRestriction_faults]
  rfl

/-- A raise, of whatever kind, keeps every entry but for its count, detail and cause. -/
theorem State.Faulted.raiseCore (h : s.Faulted P) (hP : ∀ e detail, P e → P (e.again detail)) (j : FaultKind) (detail : Nat) :
    (s.raiseCore j detail).Faulted P := by
  by_cases hm : s.mode = .halted
  · rw [show s.raiseCore j detail = s from if_pos hm]
    exact h
  · obtain ⟨e, he, hp⟩ := h
    unfold State.Faulted
    rw [State.raiseCore_faults hm]
    unfold FaultUnit.addRaise
    split
    · exact ⟨e, List.mem_append_left _ he, hp⟩
    · refine ⟨if e.kind = j then e.again detail else e, List.mem_map.mpr ⟨e, he, rfl⟩, ?_⟩
      split
      · exact hP e detail hp
      · exact hp

theorem State.Faulted.endCause (h : s.Faulted P) (hne : ∀ e, P e → e.kind ≠ j) : (s.endCause j).Faulted P := by
  obtain ⟨e, he, hp⟩ := h
  have hj := hne e hp
  unfold State.endCause
  split
  · exact ⟨e, he, hp⟩
  · split
    · exact ⟨e, he, hp⟩
    · split
      · exact ⟨e, List.mem_map.mpr ⟨e, he, if_neg hj⟩, hp⟩
      · unfold State.removeFault State.Faulted
        rw [State.noteRestriction_faults]
        exact ⟨e, List.mem_filter.mpr ⟨he, by simp [hj]⟩, hp⟩

end

/-! ## 2. The parts of a blend -/

section
variable {s t u : State} {P : ActiveFault → Prop} {cut : State → State} {r : BlendResult} {slipCut : Bool} {dt : Nat}

theorem State.safeCause_engine (s : State) : EngineOnly s s.safeCause := by
  unfold State.safeCause
  split
  · exact .stopCause _ _ _
  · exact .refl s

theorem State.raiseCore_only (k : FaultKind) (detail : Nat) (s : State) : OnlyChanges [.faults, .notices] s (s.raiseCore k detail) := by
  simp

theorem State.endCause_only (k : FaultKind) (s : State) : OnlyChanges [.faults, .notices] s (s.endCause k) := by simp

/-- Of the wear unit, the accumulation changes the items alone (R169). -/
structure WearItemsOnly (s t : State) : Prop where
  save : t.wear.save = s.wear.save
  waiting : t.wear.waiting = s.wear.waiting
  load : t.wear.load = s.wear.load
  generation : t.wear.generation = s.wear.generation

theorem WearItemsOnly.of_eq (h : t.wear = s.wear) : WearItemsOnly s t := by constructor <;> rw [h]

theorem WearItemsOnly.refl (s : State) : WearItemsOnly s s := .of_eq rfl

theorem WearItemsOnly.trans (h : WearItemsOnly s t) (h' : WearItemsOnly t u) : WearItemsOnly s u :=
  ⟨h'.save.trans h.save, h'.waiting.trans h.waiting, h'.load.trans h.load, h'.generation.trans h.generation⟩

theorem WearItemsOnly.setWearItem (k : WearKind) (w : WearItem) (s : State) : WearItemsOnly s (s.setWearItem k w) := ⟨rfl, rfl, rfl, rfl⟩

theorem WearItemsOnly.addEnergy (k : WearKind) (unit amount : Nat) (s : State) : WearItemsOnly s (s.addEnergy k unit amount) := by
  unfold State.addEnergy State.accrue State.putWear
  dsimp only
  split
  · exact .setWearItem _ _ s
  · exact (WearItemsOnly.setWearItem _ _ s).trans (.of_eq rfl)

theorem WearItemsOnly.padAxle (left right : WearKind) (temps : Option Int × Option Int) (joules : Nat) (s : State) :
    WearItemsOnly s (s.padAxle left right temps joules) := by
  unfold State.padAxle
  dsimp only
  exact (WearItemsOnly.addEnergy left _ _ s).trans (.addEnergy right _ _ _)

theorem WearItemsOnly.padWear (front rear : Nat) (s : State) : WearItemsOnly s (s.padWear front rear) := by
  unfold State.padWear
  dsimp only
  exact (WearItemsOnly.padAxle _ _ _ front s).trans (.padAxle _ _ _ _ _)

/-- What a blend does ahead of its saturation: state, offers, wear, event feed (R101 to R103). -/
def State.driveBlend (slipCut : Bool) (dt : Nat) (r : BlendResult) (s : State) : State :=
  let v := s.demand.record.speed
  let e := s.bbu.energies r v dt
  let s := (s.setBbu (s.bbu.blended r e)).offerBlend r
  let s := s.padWear e.whole.front e.whole.rear
  if r.trigger = .held then s else s.logBlend (fedBlend r slipCut v s.demand.record.brake e.whole)

theorem State.applyBlend_eq : s.applyBlend cut slipCut dt r = (s.driveBlend slipCut dt r).saturation cut r := rfl

theorem State.driveBlend_only : OnlyChanges [.nlc, .bbu, .log, .wear, .notices] s (s.driveBlend slipCut dt r) := by
  unfold State.driveBlend
  simp (disch := decide)

theorem State.driveBlend_wear : WearItemsOnly s (s.driveBlend slipCut dt r) := by
  unfold State.driveBlend
  dsimp only
  generalize s.bbu.energies r s.demand.record.speed dt = e
  have ha : OnlyChanges [.nlc, .bbu] s ((s.setBbu (s.bbu.blended r e)).offerBlend r) := by simp
  generalize (s.setBbu (s.bbu.blended r e)).offerBlend r = a at ha
  have hp := (WearItemsOnly.of_eq (ha .wear (by decide))).trans (.padWear e.whole.front e.whole.rear a)
  generalize a.padWear e.whole.front e.whole.rear = b at hp
  split
  · exact hp
  · exact hp.trans (.of_eq rfl)

/-- The cut re-blend of a raise that its own blend gave stops there: inside it a further raise cuts nothing (R86). -/
theorem State.saturation_id_only (r : BlendResult) (s : State) :
    OnlyChanges [.nlc, .bbu, .esc, .faults, .notices] s (s.saturation id r) := by
  unfold State.saturation
  split
  · have hraise := State.raiseCore_only .frictionSaturated r.shortDetail (s.setBbu { s.bbu with saturated := true })
    have hset : OnlyChanges [.bbu] s (s.setBbu { s.bbu with saturated := true }) := by simp
    unfold State.raiseWith
    dsimp only
    split
    · exact (hset.mono (by decide)).trans ((hraise.mono (by decide)).trans ((State.safeCause_engine _).only.mono (by decide)))
    · exact (hset.mono (by decide)).trans (hraise.mono (by decide))
  · split
    · have hset : OnlyChanges [.bbu] s (s.setBbu { s.bbu with saturated := false }) := by simp
      exact (hset.mono (by decide)).trans ((State.endCause_only _ _).mono (by decide))
    · exact .refl _ s

theorem State.Faulted.saturation_id (h : s.Faulted P) (hP : Lasts P) : (s.saturation id r).Faulted P := by
  unfold State.saturation
  split
  · have hset : (s.setBbu { s.bbu with saturated := true }).Faulted P := h
    have hraise := hset.raiseCore hP.again .frictionSaturated r.shortDetail
    unfold State.raiseWith
    dsimp only
    split
    · exact hraise.after (State.safeCause_engine _).only
    · exact hraise
  · split
    · have hset : (s.setBbu { s.bbu with saturated := false }).Faulted P := h
      exact hset.endCause hP.kind
    · exact h

theorem State.cutReblend_only (slipCut : Bool) (s : State) :
    OnlyChanges [.nlc, .bbu, .esc, .log, .wear, .faults, .notices] s (s.cutReblend slipCut) := by
  unfold State.cutReblend
  split
  · rw [State.applyBlend_eq]
    exact (State.driveBlend_only.mono (by decide)).trans ((State.saturation_id_only _ _).mono (by decide))
  · exact .refl _ s

theorem State.cutReblend_wear (slipCut : Bool) (s : State) : WearItemsOnly s (s.cutReblend slipCut) := by
  unfold State.cutReblend
  split
  · rw [State.applyBlend_eq]
    exact State.driveBlend_wear.trans (.of_eq (State.saturation_id_only _ _ .wear (by decide)))
  · exact .refl s

theorem State.Faulted.cutReblend (h : s.Faulted P) (hP : Lasts P) (slipCut : Bool) : (s.cutReblend slipCut).Faulted P := by
  unfold State.cutReblend
  split
  · rw [State.applyBlend_eq]
    exact (h.after State.driveBlend_only).saturation_id hP
  · exact h

end

/-! ## 3. A raise and what it hands on (R192, R196) -/

section
variable {s : State} {P : ActiveFault → Prop} {k : FaultKind} {detail : Nat}

/-- A raise that takes the level to SAFE_STOP is handed to the BBU and then to the ESC (R196). -/
theorem State.raise_stops (h : becameSafeStop s (s.raiseCore k detail) = true) :
    s.raise k detail = ((s.raiseCore k detail).cutReblend false).safeCause := if_pos h

theorem State.raise_rests (h : becameSafeStop s (s.raiseCore k detail) = false) : s.raise k detail = s.raiseCore k detail :=
  if_neg (by rw [h]; decide)

theorem State.raise_only (k : FaultKind) (detail : Nat) (s : State) :
    OnlyChanges [.nlc, .bbu, .esc, .log, .wear, .faults, .notices] s (s.raise k detail) := by
  have hcore := State.raiseCore_only k detail s
  cases hb : becameSafeStop s (s.raiseCore k detail)
  · rw [State.raise_rests hb]
    exact hcore.mono (by decide)
  · rw [State.raise_stops hb]
    exact (hcore.mono (by decide)).trans ((State.cutReblend_only _ _).trans ((State.safeCause_engine _).only.mono (by decide)))

theorem State.raise_wear (k : FaultKind) (detail : Nat) (s : State) : WearItemsOnly s (s.raise k detail) := by
  have hcore : WearItemsOnly s (s.raiseCore k detail) := .of_eq (State.raiseCore_only k detail s .wear (by decide))
  cases hb : becameSafeStop s (s.raiseCore k detail)
  · rw [State.raise_rests hb]
    exact hcore
  · rw [State.raise_stops hb]
    exact (hcore.trans (State.cutReblend_wear _ _)).trans (.of_eq ((State.safeCause_engine _).only .wear (by decide)))

theorem State.Faulted.handOn (h : (s.raiseCore k detail).Faulted P) (hP : Lasts P) : (s.raise k detail).Faulted P := by
  cases hb : becameSafeStop s (s.raiseCore k detail)
  · rw [State.raise_rests hb]
    exact h
  · rw [State.raise_stops hb]
    exact (h.cutReblend hP false).after (State.safeCause_engine _).only

theorem State.Faulted.raise (h : s.Faulted P) (hP : Lasts P) (k : FaultKind) (detail : Nat) : (s.raise k detail).Faulted P :=
  (h.raiseCore hP.again k detail).handOn hP

/-- A raise that the Fault Monitor takes leaves its kind raised. -/
theorem State.raised_raise (hm : s.mode ≠ .halted) (hk : k ≠ .frictionSaturated) (detail : Nat) : (s.raise k detail).Raised k :=
  State.Faulted.handOn (State.raised_raiseCore hm k detail) (.raised hk)

end


/-! ## 4. SAFE_STOP (R195, R196) -/

section
variable {s t : State} {k : FaultKind} {detail : Nat}

theorem Level.max_safeStop (a b : Level) : a.max b = .safeStop ↔ a = .safeStop ∨ b = .safeStop := by
  cases a <;> cases b <;> decide

theorem foldl_max_safeStop (l : List ActiveFault) (a : Level) :
    l.foldl (fun x e => x.max e.level) a = .safeStop ↔ a = .safeStop ∨ ∃ e ∈ l, e.level = .safeStop := by
  induction l generalizing a with
  | nil => simp
  | cons e l ih =>
    rw [List.foldl_cons, ih, Level.max_safeStop, or_assoc]
    simp

/-- The level is SAFE_STOP where an entry has that level (R195). -/
theorem State.level_safeStop_iff : s.level = .safeStop ↔ s.Faulted (fun e => e.level = .safeStop) := by
  have hhigh : s.level = .safeStop ↔ highestLevel s.faults.active = .safeStop := by
    unfold State.level effLevel
    split
    · next h => rw [h]; simp
    · rfl
  rw [hhigh]
  unfold highestLevel
  rw [foldl_max_safeStop]
  simp [State.Faulted]

/-- A raise takes the level to SAFE_STOP by the entry it makes. -/
theorem State.stops_of_became (h : becameSafeStop s (s.raiseCore k detail) = true) :
    (s.raiseCore k detail).Faulted (fun e => e.kind = k ∧ e.level = .safeStop) := by
  simp only [becameSafeStop, Bool.and_eq_true, bne_iff_ne, ne_eq, beq_iff_eq] at h
  obtain ⟨hbefore, hafter⟩ := h
  have hm : s.mode ≠ .halted := by
    intro hm
    rw [show s.raiseCore k detail = s from if_pos hm] at hafter
    exact hbefore hafter
  obtain ⟨e, he, hl⟩ := State.level_safeStop_iff.mp hafter
  refine ⟨e, he, ?_, hl⟩
  rw [State.raiseCore_faults hm] at he
  have hold (x : ActiveFault) (hx : x ∈ s.faults.active) : x.level ≠ .safeStop := fun hxl =>
    hbefore (State.level_safeStop_iff.mpr ⟨x, hx, hxl⟩)
  unfold FaultUnit.addRaise at he
  split at he
  · rcases List.mem_append.mp he with he | he
    · exact absurd hl (hold e he)
    · rw [List.mem_singleton.mp he]
      rfl
  · obtain ⟨x, hx, rfl⟩ := List.mem_map.mp he
    split at hl
    · exact absurd hl (hold x hx)
    · exact absurd hl (hold x hx)

/-- A level that a raise has taken to SAFE_STOP stays there, but for the end of FRICTION_SATURATED (R86, R99). -/
theorem State.level_raise (hk : k ≠ .frictionSaturated) (h : becameSafeStop s (s.raiseCore k detail) = true) :
    (s.raise k detail).level = .safeStop :=
  have ⟨e, he, _, hl⟩ := (State.stops_of_became h).handOn (.level hk .safeStop)
  State.level_safeStop_iff.mpr ⟨e, he, hl⟩

theorem State.raise_quiet (hk : k ≠ .frictionSaturated) (h : s.level = .safeStop ∨ (s.raise k detail).level ≠ .safeStop) :
    s.raise k detail = s.raiseCore k detail := by
  refine State.raise_rests (Bool.eq_false_iff.mpr fun hb => ?_)
  rcases h with h | h
  · simp [becameSafeStop, h] at hb
  · exact h (State.level_raise hk hb)

end

/-! # The timers of the store and the quiet timer (O40) -/

/-- Settles O40. -/
theorem quietAndPeriodicTimersExpire : Obligations.QuietAndPeriodicTimersExpire := by
  intro s h
  refine ⟨fun hq => ?_, fun hl hq => ?_, fun hp => ?_, fun hm hp => ?_⟩
  · refine (State.powered_on h _).trans (congrArg _ ?_)
    unfold State.expireQuiet
    rw [State.expire_other hq]
    exact ite_self _
  · let u := s.setNlc { s.nlc with quiet := none }
    have hu : OnlyChanges [.nlc] s u := by simp [u]
    have hrun : s.expireQuiet = u.endCause .linkErrors := by
      unfold State.expireQuiet
      rw [if_neg hl, hq]
      rfl
    have hend := State.endCause_only .linkErrors u
    refine ⟨u.endCause .linkErrors, (State.powered_on h _).trans (congrArg _ hrun), hend .nlc (by decide), fun hm => ?_, fun hm => ?_,
      (hu.mono (by decide)).trans (hend.mono (by decide))⟩
    · exact State.entry_endCause_self (s := u) hm rfl
    · rw [show u.endCause .linkErrors = u from if_pos hm]
      rfl
  · have hrun : s.periodicTrigger = s := if_neg fun ⟨hm, hms⟩ => hp.elim (fun h => h hm) fun h => Nat.not_lt.mpr hms h
    exact (State.powered_on h _).trans (congrArg _ hrun)
  · let u := s.setWear { s.wear with readyMs := 0 }
    let t := u.saveTrigger ⟨false, false, true⟩
    have hrun : s.periodicTrigger = t := if_pos ⟨hm, hp⟩
    have hwear : t.wear = u.wear.trigger ⟨false, false, true⟩ := rfl
    refine ⟨t, (State.powered_on h _).trans (congrArg _ hrun), ?_, ?_, fun hs hl => ?_, fun hw => ?_, by simp [t, u]⟩
    · rw [hwear]
      unfold WearUnit.trigger
      split <;> rfl
    · rw [hwear, WearUnit.items_trigger]
      rfl
    · rw [hwear, WearUnit.trigger_starts (w := u.wear) hs hl]
      exact ⟨rfl, rfl⟩
    · rw [hwear, WearUnit.trigger_waits (w := u.wear) hw]
      exact ⟨rfl, by simp [Triggers.merge]⟩

/-! # The load of the wear store (O41) -/

section
variable {w : WearUnit} {s : State} {bs : List Byte}

theorem WearUnit.beginWaiting_none (h : w.waiting = none) : w.beginWaiting = w := by
  simp [WearUnit.beginWaiting, h]

theorem WearUnit.beginWaiting_some {tr : Triggers} (h : w.waiting = some tr) :
    w.beginWaiting = { w with waiting := none }.startSave tr := by
  simp [WearUnit.beginWaiting, h]

theorem WearUnit.beginWaiting_items (w : WearUnit) : w.beginWaiting.items = w.items := by
  unfold WearUnit.beginWaiting
  split <;> rfl

theorem WearUnit.beginWaiting_load (w : WearUnit) : w.beginWaiting.load = w.load := by
  unfold WearUnit.beginWaiting
  split <;> rfl

/-- The items of a good image are adopted in code order, each from the item that stood (R181). -/
def State.loadItems (bs : List Byte) (s : State) : List WearKind → State
  | [] => s
  | k :: ks => (s.setWearItem k (s.loadedItem bs k)).loadItems bs ks

theorem State.loadItems_spec (bs : List Byte) (ks : List WearKind) (s : State) : WearItemsOnly s (s.loadItems bs ks) ∧
    OnlyChanges [.wear] s (s.loadItems bs ks) ∧
    (ks.Nodup → ∀ k, (s.loadItems bs ks).wearItem k = if k ∈ ks then s.loadedItem bs k else s.wearItem k) := by
  induction ks generalizing s with
  | nil => exact ⟨.refl s, .refl _ s, fun _ k => by simp [State.loadItems]⟩
  | cons j ks ih =>
    obtain ⟨hwear, honly, hitem⟩ := ih (s.setWearItem j (s.loadedItem bs j))
    have hset : OnlyChanges [.wear] s (s.setWearItem j (s.loadedItem bs j)) := by simp
    refine ⟨(WearItemsOnly.setWearItem j _ s).trans hwear, hset.trans honly, fun hnd k => ?_⟩
    obtain ⟨hj, hks⟩ := List.nodup_cons.mp hnd
    rw [show s.loadItems bs (j :: ks) = (s.setWearItem j (s.loadedItem bs j)).loadItems bs ks from rfl, hitem hks k]
    by_cases hkj : k = j
    · subst hkj
      rw [if_neg hj, if_pos (List.mem_cons_self ..), State.wearItem_setWearItem_same]
    · have hother : (s.setWearItem j (s.loadedItem bs j)).wearItem k = s.wearItem k := State.wearItem_setWearItem_other _ _ hkj
      have hload : (s.setWearItem j (s.loadedItem bs j)).loadedItem bs k = s.loadedItem bs k := by
        have hpar := hset.par (by decide)
        generalize s.setWearItem j (s.loadedItem bs j) = v at hother hpar
        simp only [State.loadedItem, State.wearStateFor, hother, hpar]
      rw [hload, hother]
      simp only [List.mem_cons, hkj, false_or]

theorem State.loadGood_eq (bs : List Byte) (s : State) : s.loadGood bs = (s.loadItems bs allWear).setWear
    { (s.loadItems bs allWear).wear with generation := BitVec.ofNat 32 (unsigned (field bs 36 4)), load := .good } := rfl

/-- What a good image makes of the wear unit (R181). -/
theorem State.loadGood_spec (bs : List Byte) (s : State) : (∀ k, (s.loadGood bs).wearItem k = s.loadedItem bs k) ∧
    (s.loadGood bs).wear.load = .good ∧ (s.loadGood bs).wear.generation = BitVec.ofNat 32 (unsigned (field bs 36 4)) ∧
    (s.loadGood bs).wear.save = s.wear.save ∧ (s.loadGood bs).wear.waiting = s.wear.waiting ∧
    OnlyChanges [.wear] s (s.loadGood bs) := by
  obtain ⟨hwear, honly, hitem⟩ := State.loadItems_spec bs allWear s
  rw [State.loadGood_eq]
  generalize s.loadItems bs allWear = v at hwear honly hitem
  refine ⟨fun k => ?_, rfl, rfl, hwear.save, hwear.waiting, honly.trans (by simp)⟩
  have hk : k ∈ allWear := by cases k <;> decide
  exact (hitem (by decide) k).trans (if_pos hk)

end

/-- Settles O41. -/
theorem storeLoadAdoptsAGoodImage : Obligations.StoreLoadAdoptsAGoodImage := by
  intro s h
  refine ⟨fun hload => ?_, fun hload => (State.powered_on h _).trans (congrArg _ (if_neg hload))⟩
  -- In both cases the wear unit that waits to begin a save is the old one but for its items, load and generation.
  obtain ⟨u, hbegin, hgood, hbad⟩ : ∃ u : State, s.endLoad = u.beginWaiting ∧
      (∀ bs, s.wear.store.goodBytes = some bs → u = s.loadGood bs) ∧
      (s.wear.store.goodBytes = none → u = s.loadBad.raise .storeBad 0) := by
    have hends : s.endLoad = s.loadCompletes := if_pos hload
    rw [hends]
    unfold State.loadCompletes
    split
    · next bs hb => exact ⟨_, rfl, fun bs' hb' => by rw [Option.some.inj (hb.symm.trans hb')], fun hb' => absurd (hb.symm.trans hb') nofun⟩
    · next hb => exact ⟨_, rfl, fun _ hb' => absurd (hb.symm.trans hb') nofun, fun _ => rfl⟩
  have hstands : u.wear.save = s.wear.save ∧ u.wear.waiting = s.wear.waiting := by
    cases hb : s.wear.store.goodBytes with
    | some bs =>
      obtain ⟨-, -, -, hsave, hwaiting, -⟩ := State.loadGood_spec bs s
      rw [hgood bs hb]
      exact ⟨hsave, hwaiting⟩
    | none =>
      have hwear := State.raise_wear .storeBad 0 s.loadBad
      rw [hbad hb]
      exact ⟨hwear.save, hwear.waiting⟩
  have hlast : OnlyChanges [.wear] u u.beginWaiting := by simp [State.beginWaiting]
  have hitems (k : WearKind) : u.beginWaiting.wearItem k = u.wearItem k := State.wearItem_of_items (u.wear.beginWaiting_items) k
  refine ⟨u.beginWaiting, (State.powered_on h _).trans (congrArg _ hbegin), fun hw => ?_, fun tr hw => ?_, fun bs hs hg => ?_, fun hb => ?_⟩
  · show u.wear.beginWaiting.save = _
    rw [WearUnit.beginWaiting_none (hstands.2.trans hw)]
    exact hstands.1
  · show u.wear.beginWaiting.waiting = _ ∧ u.wear.beginWaiting.save.map _ = _
    rw [WearUnit.beginWaiting_some (hstands.2.trans hw)]
    exact ⟨rfl, rfl⟩
  · obtain ⟨hitem, hloaded, hgen, -, -, honly⟩ := State.loadGood_spec bs s
    have hb : s.wear.store.goodBytes = some bs := by simp [hs, StoreContents.goodBytes, hg]
    rw [← hgood bs hb] at hitem hloaded hgen honly
    refine ⟨?_, honly.trans hlast, fun hw => ?_, fun k => ?_⟩
    · show u.wear.beginWaiting.load = _
      rw [WearUnit.beginWaiting_load, hloaded]
    · show u.wear.beginWaiting.generation = _
      rw [WearUnit.beginWaiting_none (hstands.2.trans hw), hgen]
    · rw [hitems, hitem]
      exact ⟨rfl, rfl, rfl, rfl⟩
  · have hu := hbad hb
    have hset : OnlyChanges [.wear] s s.loadBad := by simp [State.loadBad]
    refine ⟨?_, fun hm => ?_, fun hl k => ?_⟩
    · show u.wear.beginWaiting.load = _
      rw [WearUnit.beginWaiting_load, hu, (State.raise_wear .storeBad 0 s.loadBad).load]
      rfl
    · have hraised : u.Raised .storeBad := by
        rw [hu]
        exact State.raised_raise (s := s.loadBad) hm (by decide) 0
      exact State.Faulted.after hraised hlast
    · have hcore : u = s.loadBad.raiseCore .storeBad 0 := by
        rw [hu]
        refine State.raise_quiet (by decide) (hl.imp (fun h => h) fun h => ?_)
        rw [← hu, ← hlast.level (by decide)]
        exact h
      rw [hitems, hcore, (State.raiseCore_only _ _ _).wearItem (by decide)]
      rfl


/-! # The stages of a DEMAND (R12 to R18, R161, R162) -/

/-! ## 1. The Demand Unit after the stages -/

section
variable {f : DemandFields} {s t u w : State} {bs : List Block}

/-- The Demand Unit behind stages 1 to 6, but for the passenger stop (R13 to R16, R18). -/
def State.demandMoved (f : DemandFields) (s : State) : DemandUnit :=
  { s.demand with
    record := f.record (s.par .mMin) (s.par .mMax), lastDemand := some s.runTime, firstInReady := false,
    freshness := some (s.par .tFresh), stale := false,
    remainder := (s.demand.remainder + min 3000 f.speed * s.demandStep) % 100000,
    distance := s.demand.distance + BitVec.ofNat 32 (s.metresOf f) : DemandUnit }.move

/-- The Demand Unit behind stages 1 to 6 (R17). -/
def State.demandAfter (f : DemandFields) (s : State) : DemandUnit :=
  if s.countsStop f then { s.demandMoved f with stops := (s.demandMoved f).stops + 1, stopEligible := false } else s.demandMoved f

/-- What a move of the Demand Unit changes (R16). -/
structure Moves (d d' : DemandUnit) : Prop where
  rest : d' = { d with motion := d'.motion, stopEligible := d'.stopEligible, lowSpeed := d'.lowSpeed }
  leaves : d.motion = .standstill → 30 ≤ d.record.speed → d'.motion = .moving ∧ d'.stopEligible = false ∧ d'.lowSpeed = d.lowSpeed
  stands : d.motion = .standstill → d.record.speed < 30 →
    d'.motion = .standstill ∧ d'.stopEligible = d.stopEligible ∧ d'.lowSpeed = d.lowSpeed
  moves : d.motion = .moving → d'.motion = .moving ∧ d'.stopEligible = d.stopEligible ∧
    d'.lowSpeed = if 10 < d.record.speed then none else if d.lowSpeed = none then some 500 else d.lowSpeed

theorem DemandUnit.move_spec (d : DemandUnit) : Moves d d.move where
  rest := by
    unfold DemandUnit.move
    split
    · split
      · rfl
      · split <;> rfl
    · split <;> rfl
  leaves hm hv := by simp [DemandUnit.move, hm, hv]
  stands hm hv := by simp [DemandUnit.move, hm, Nat.not_le.mpr hv]
  moves hm := by
    unfold DemandUnit.move
    by_cases hv : 10 < d.record.speed
    · simp [hm, hv]
    · cases hl : d.lowSpeed <;> simp [hm, hv, hl, lowSpeedMs]

/-- The stages of a DEMAND, from what they leave of the Demand Unit and of DEMAND_STALE (R12 to R18). -/
theorem demandTaken_of (hd : t.demand = s.demandAfter f) (hends : s.demand.stale = true → t.faults.entry .demandStale = none)
    (hstands : s.demand.stale = false → t.faults.entry .demandStale = s.faults.entry .demandStale) : DemandTaken f s t := by
  have hmove := DemandUnit.move_spec { s.demand with
    record := f.record (s.par .mMin) (s.par .mMax), lastDemand := some s.runTime, firstInReady := false,
    freshness := some (s.par .tFresh), stale := false,
    remainder := (s.demand.remainder + min 3000 f.speed * s.demandStep) % 100000,
    distance := s.demand.distance + BitVec.ofNat 32 (s.metresOf f) }
  change Moves _ (s.demandMoved f) at hmove
  obtain ⟨hrest, hleaves, hst, hmoves⟩ := hmove
  have hspeed : (f.record (s.par .mMin) (s.par .mMax)).speed = min 3000 f.speed := rfl
  simp only [hspeed] at hleaves hst hmoves
  have hcounts : s.countsStop f = true ↔ (s.demand.motion = .standstill ∧ f.speed < 30) ∧ f.doorsOpen = true ∧ s.demand.stopEligible = true := by
    simp [State.countsStop, and_assoc]
  -- The passenger stop counts, and clears the stop-eligible mark.
  have hstop : t.demand = { s.demandMoved f with
      stops := if s.countsStop f = true then (s.demandMoved f).stops + 1 else (s.demandMoved f).stops
      stopEligible := if s.countsStop f = true then false else (s.demandMoved f).stopEligible } := by
    rw [hd]
    unfold State.demandAfter
    split <;> rfl
  have hstep : s.demandStep = if s.demand.firstInReady = true then 10 else
      (s.demand.lastDemand.map (fun last => min (elapsed s.runTime last) (s.par .tFresh))).getD 10 := by
    unfold State.demandStep
    cases s.demand.lastDemand <;> rfl
  constructor
  all_goals try rw [hstop]
  all_goals try simp only
  case record => rw [hrest]
  case time => rw [hrest]; exact ⟨rfl, rfl⟩
  case step => exact hstep
  case fresh => rw [hrest]; exact ⟨rfl, rfl⟩
  case staleEnds => exact hends
  case staleStands => exact hstands
  case zone => rw [hrest]
  case remainder => rw [hrest]
  case distance => rw [hrest]
  case leaves =>
    intro hm hv
    have hno : ¬s.countsStop f = true := fun hc => absurd (hcounts.mp hc).1.2 (Nat.not_lt.mpr hv)
    rw [if_neg hno]
    exact hleaves hm (by omega)
  case stands =>
    intro hm hv
    obtain ⟨h1, h2, h3⟩ := hst hm (by omega)
    refine ⟨h1, h3, ?_⟩
    rw [h2]
    cases hdoors : f.doorsOpen <;> cases hel : s.demand.stopEligible <;> simp [State.countsStop, hm, hv, hdoors, hel]
  case moves =>
    intro hm
    have hno : ¬s.countsStop f = true := fun hc => absurd (hm.symm.trans (hcounts.mp hc).1.1) nofun
    obtain ⟨h1, h2, h3⟩ := hmoves hm
    rw [if_neg hno]
    refine ⟨h1, h2, h3.trans ?_⟩
    have : 10 < min 3000 f.speed ↔ 10 < f.speed := by omega
    simp only [this]
  case stops => rw [hrest]

/-! ## 2. The countdown of the schedule -/

theorem State.putSchedule_eq (u : State) (sch : Schedule) : u.putSchedule sch =
    if sch.phase = .due then (u.setEsc { u.esc with schedule := some sch }).scheduleDue else u.setEsc { u.esc with schedule := some sch } := rfl

/-- An evaluation point leaves the schedule as it is or takes it out. -/
theorem State.evaluateStart_schedule (s : State) :
    s.evaluateStart.esc.schedule = s.esc.schedule ∨ s.evaluateStart.esc.schedule = none := by
  by_cases hoff : s.esc.machine = .off
  · by_cases hstart : s.startAllowed = true ∧ ∃ c, s.FirstCause s.psu.above s.esc.schedule c
    · obtain ⟨ha, c, hc⟩ := hstart
      obtain ⟨-, hst, -, -⟩ := State.evaluateStart_starts hoff hc ha
      exact .inr (by rw [hst.esc])
    · rw [State.evaluateStart_off hoff (by grind)]
      exact .inl rfl
  · by_cases hcool : s.esc.machine = .cooldown
    · by_cases hr : s.autoReturns = true
      · obtain ⟨hesc, -, -⟩ := State.returnToRun_spec hcool
        rw [State.evaluateStart_returns hcool hr, hesc]
        exact .inl rfl
      · rw [State.evaluateStart_cooldown hcool (Bool.eq_false_iff.mpr hr)]
        exact .inl rfl
    · rw [State.evaluateStart_other hoff hcool]
      exact .inl rfl

theorem State.scheduleDue_schedule (s : State) : s.scheduleDue.esc.schedule = s.esc.schedule ∨ s.scheduleDue.esc.schedule = none := by
  unfold State.scheduleDue
  split
  · exact State.evaluateStart_schedule s
  · exact .inr (by rcases State.evaluateStart_schedule (s.setEsc { s.esc with schedule := none }) with h | h <;> exact h)

/-- The countdown leaves what a DEMAND counts in `f`, and acts where that enters DUE (R161, R162). -/
def State.countDown (f : DemandFields) (s w : State) : State :=
  let w := w.setEsc { w.esc with schedule := s.countedSchedule f }
  if s.entersDue f then w.scheduleDue else w

theorem phaseOf_zero (n : Nat) : phaseOf 0 n = if n = 0 then .due else .countDistance := by
  unfold phaseOf
  by_cases h : n = 0
  · simp [h]
  · simp [h, Nat.pos_of_ne_zero h]

/-- A schedule that is not DUE is put in place by the countdown. -/
theorem State.countDown_put {sch sch' : Schedule} (hs : s.esc.schedule = some sch) (hp : sch.phase ≠ .due)
    (hc : s.countedSchedule f = some sch') : s.countDown f w = w.putSchedule sch' := by
  have hdue : s.entersDue f = decide (sch'.phase = .due) := by
    have hne : (some sch.phase != some .due) = true := by simp [hp]
    simp only [State.entersDue, hc, hs, Option.map_some, hne, Bool.and_true]
    rfl
  rw [State.putSchedule_eq, State.countDown, hc, hdue]
  simp only [decide_eq_true_eq]

/-- A schedule that stands as it was is left alone. -/
theorem State.countDown_same (hc : s.countedSchedule f = s.esc.schedule) (hw : w.esc = s.esc) : s.countDown f w = w := by
  have hdue : s.entersDue f = false := by
    unfold State.entersDue
    rw [hc]
    cases s.esc.schedule.map Schedule.phase with
    | none => rfl
    | some p => cases p <;> rfl
  rw [State.countDown, hdue, hc, ← hw]
  rfl

/-- The metres of a DEMAND reach the schedule in COUNT_DISTANCE alone (R161). -/
theorem State.scheduleMetres_eq (hw : w.esc = s.esc) : w.scheduleMetres (s.metresOf f) =
    if s.esc.schedule.map Schedule.phase = some .countDistance then s.countDown f w else w := by
  unfold State.scheduleMetres
  rw [hw]
  cases hs : s.esc.schedule with
  | none => rfl
  | some sch =>
    by_cases hp : sch.phase = .countDistance
    · have hc : s.countedSchedule f = some (sch.countedBy (s.metresOf f) (s.countsStop f)) := by simp [State.countedSchedule, hs]
      simp only [hp, Option.map_some, if_true, true_and]
      by_cases hm : s.metresOf f = 0
      · rw [if_neg (by omega), State.countDown_same _ hw]
        rw [hc, hs]
        simp [Schedule.countedBy, hp, hm]
      · rw [if_pos (by omega), State.countDown_put hs (by rw [hp]; decide) hc]
        congr 1
        simp only [Schedule.countedBy, hp, hm, if_false, phaseOf_zero]
        by_cases hd : sch.distance ≤ s.metresOf f
        · rw [if_pos hd, if_pos (by omega), Nat.sub_eq_zero_of_le hd]
        · rw [if_neg hd, if_neg (by omega)]
    · simp [hp]

/-- A passenger stop reaches the schedule in COUNT_STOPS alone (R161). -/
theorem State.scheduleStop_eq (hw : w.esc = s.esc) (hstop : s.countsStop f = true) : w.scheduleStop =
    if s.esc.schedule.map Schedule.phase = some .countStops then s.countDown f w else w := by
  unfold State.scheduleStop
  rw [hw]
  cases hs : s.esc.schedule with
  | none => rfl
  | some sch =>
    by_cases hp : sch.phase = .countStops
    · have hc : s.countedSchedule f = some (sch.countedBy (s.metresOf f) (s.countsStop f)) := by simp [State.countedSchedule, hs]
      simp only [hp, Option.map_some, if_true]
      rw [State.countDown_put hs (by rw [hp]; decide) hc]
      congr 1
      simp only [Schedule.countedBy, hp, hstop, Bool.true_eq_false, if_false]
      by_cases h1 : 1 < sch.stops
      · rw [if_pos h1]
        simp [phaseOf, show 0 < sch.stops - 1 by omega]
      · rw [if_neg h1, show sch.stops - 1 = 0 by omega, phaseOf_zero]
        by_cases hd : 0 < sch.distance
        · rw [if_pos hd, if_neg (by omega)]
        · rw [if_neg hd, if_pos (by omega), show sch.distance = 0 by omega]
    · simp [hp]

/-- Behind the countdown of metres a passenger stop finds no schedule in COUNT_STOPS. -/
theorem State.scheduleStop_of_phase (h : w.esc.schedule.map Schedule.phase ≠ some .countStops) : w.scheduleStop = w := by
  unfold State.scheduleStop
  split
  · rfl
  · next sch hs =>
    refine if_neg fun hp => h ?_
    rw [hs, ← hp]
    rfl

theorem State.countDown_schedule (f : DemandFields) (s w : State) :
    (s.countDown f w).esc.schedule = s.countedSchedule f ∨ (s.countDown f w).esc.schedule = none := by
  unfold State.countDown
  dsimp only
  split
  · rcases State.scheduleDue_schedule (w.setEsc { w.esc with schedule := s.countedSchedule f }) with h | h
    · exact .inl h
    · exact .inr h
  · exact .inl rfl

/-- Metres never bring a schedule into COUNT_STOPS. -/
theorem State.countDown_phase (h : s.esc.schedule.map Schedule.phase = some .countDistance) :
    (s.countDown f w).esc.schedule.map Schedule.phase ≠ some .countStops := by
  rcases State.countDown_schedule f s w with hs | hs
  · rw [hs]
    obtain ⟨sch, hsch, hp⟩ := Option.map_eq_some_iff.mp h
    simp only [State.countedSchedule, hsch, Option.map_some, Schedule.countedBy, hp]
    split_ifs <;> simp [hp]
  · rw [hs]
    nofun

end


/-! ## 3. Stages 1 to 6 as a whole (R13) -/

section
variable {f : DemandFields} {s t u w : State}

/-- A schedule that neither metres nor a stop reaches stands. -/
theorem State.countedSchedule_same (hd : s.esc.schedule.map Schedule.phase ≠ some .countDistance)
    (hp : s.esc.schedule.map Schedule.phase = some .countStops → s.countsStop f = false) : s.countedSchedule f = s.esc.schedule := by
  unfold State.countedSchedule
  cases hs : s.esc.schedule with
  | none => rfl
  | some sch =>
    rw [hs] at hd hp
    simp only [Option.map_some, Option.some.injEq, ne_eq] at hd hp ⊢
    unfold Schedule.countedBy
    split
    · next h => exact absurd h hd
    · next h => rw [if_pos (hp h)]
    · rfl

/-- Stages 1 to 4 (R12 to R14). -/
theorem State.refreshed_spec (f : DemandFields) (s : State) :
    ((s.takeRecord f).refresh).demand = { s.demand with
      record := f.record (s.par .mMin) (s.par .mMax), lastDemand := some s.runTime, firstInReady := false,
      freshness := some (s.par .tFresh), stale := false } ∧
    OnlyChanges [.demand, .faults, .notices] s (s.takeRecord f).refresh ∧
    (∀ j, j ≠ .faultCleared → j ≠ .restriction → (s.takeRecord f).refresh.noticeOf j = s.noticeOf j) ∧
    (s.demand.stale = false → (s.takeRecord f).refresh.faults = s.faults) ∧
    (s.demand.stale = true → s.mode ≠ .halted → (s.takeRecord f).refresh.faults.entry .demandStale = none) := by
  have htaken : OnlyChanges [.demand] s (s.takeRecord f) := by simp [State.takeRecord]
  have hstale : (s.takeRecord f).demand.stale = s.demand.stale := rfl
  let u := (s.takeRecord f).setDemand { (s.takeRecord f).demand with freshness := some ((s.takeRecord f).par .tFresh), stale := false }
  have heq : (s.takeRecord f).refresh = if (s.takeRecord f).demand.stale then u.endCause .demandStale else u := rfl
  have hu : OnlyChanges [.demand] s u := htaken.trans (by simp [u])
  have hend := State.endCause_only .demandStale u
  refine ⟨?_, by simp (disch := decide) [State.takeRecord], fun j h1 h2 => ?_, fun hs => ?_, fun hs hm => ?_⟩
  · have hr : OnlyChanges [.faults, .notices] u (s.takeRecord f).refresh := by rw [heq]; simp
    exact hr .demand (by decide)
  · rw [heq]
    split
    · rw [State.noticeOf_endCause _ h1 h2, hu.noticeOf (by decide)]
    · rw [hu.noticeOf (by decide)]
  · rw [heq, hstale, hs]
    rfl
  · rw [heq, hstale, hs, if_pos rfl]
    exact State.entry_endCause_self (s := u) hm rfl

/-- What stages 1 to 6 leave: the Demand Unit, and the countdown of the schedule on the refreshed state (R13). -/
structure StagesTaken (f : DemandFields) (s t : State) : Prop where
  demand : t.demand = s.demandAfter f
  counted : ∃ u, OnlyChanges [.demand] (s.takeRecord f).refresh u ∧ u.demand.zone = s.demand.zone ∧
    OnlyChanges [.demand] (s.countDown f u) t

theorem State.countDown_only (f : DemandFields) (s w : State) : OnlyChanges engineBlocks w (s.countDown f w) := by
  unfold State.countDown
  simp (disch := decide)

/-- The zone flag is not a part of what a move or a stop changes. -/
theorem State.demandMoved_zone (f : DemandFields) (s : State) : (s.demandMoved f).zone = s.demand.zone := by
  have hrest := (DemandUnit.move_spec { s.demand with
    record := f.record (s.par .mMin) (s.par .mMax), lastDemand := some s.runTime, firstInReady := false,
    freshness := some (s.par .tFresh), stale := false,
    remainder := (s.demand.remainder + min 3000 f.speed * s.demandStep) % 100000,
    distance := s.demand.distance + BitVec.ofNat 32 (s.metresOf f) }).rest
  change s.demandMoved f = _ at hrest
  rw [hrest]

theorem State.demandMoved_rest (f : DemandFields) (s : State) :
    (s.demandMoved f).record = f.record (s.par .mMin) (s.par .mMax) ∧
    ((s.demandMoved f).record.doorsOpen = true ∧ (s.demandMoved f).motion = .standstill ∧ (s.demandMoved f).stopEligible = true ↔
      s.countsStop f = true) := by
  have hmove := DemandUnit.move_spec { s.demand with
    record := f.record (s.par .mMin) (s.par .mMax), lastDemand := some s.runTime, firstInReady := false,
    freshness := some (s.par .tFresh), stale := false,
    remainder := (s.demand.remainder + min 3000 f.speed * s.demandStep) % 100000,
    distance := s.demand.distance + BitVec.ofNat 32 (s.metresOf f) }
  change Moves _ (s.demandMoved f) at hmove
  obtain ⟨hrest, hleaves, hst, hmoves⟩ := hmove
  have hrecord : (s.demandMoved f).record = f.record (s.par .mMin) (s.par .mMax) := by rw [hrest]
  have hspeed : (f.record (s.par .mMin) (s.par .mMax)).speed = min 3000 f.speed := rfl
  have hdoors : (f.record (s.par .mMin) (s.par .mMax)).doorsOpen = f.doorsOpen := rfl
  simp only [hspeed] at hleaves hst hmoves
  refine ⟨hrecord, ?_⟩
  rw [hrecord, hdoors]
  simp only [State.countsStop, Bool.and_eq_true, beq_iff_eq, decide_eq_true_eq]
  cases hm : s.demand.motion with
  | moving =>
    obtain ⟨h1, -, -⟩ := hmoves hm
    simp [h1]
  | standstill =>
    by_cases hv : f.speed < 30
    · obtain ⟨h1, h2, -⟩ := hst hm (by omega)
      simp [h1, h2, hv]
    · obtain ⟨h1, h2, -⟩ := hleaves hm (by omega)
      simp [h1, h2, hv]

theorem State.demandStages_spec (f : DemandFields) (s : State) : StagesTaken f s (s.demandStages f) := by
  obtain ⟨had, hao, -, -, -⟩ := State.refreshed_spec f s
  obtain ⟨hrecord, hcond⟩ := State.demandMoved_rest f s
  unfold State.demandStages
  dsimp only
  generalize ha : (s.takeRecord f).refresh = a at had hao
  -- Stage 5: the distance, and the metres that reach the schedule.
  have hsum : a.demand.remainder + a.demand.record.speed * s.demandStep = s.demand.remainder + min 3000 f.speed * s.demandStep := by
    rw [had]
    rfl
  let b := a.setDemand { a.demand with
    remainder := (s.demand.remainder + min 3000 f.speed * s.demandStep) % 100000,
    distance := a.demand.distance + BitVec.ofNat 32 (s.metresOf f) }
  have hdist : a.addDistance s.demandStep = b.scheduleMetres (s.metresOf f) := by
    unfold State.addDistance
    dsimp only
    rw [hsum]
    rfl
  have hab : OnlyChanges [.demand] a b := by simp [b]
  have hbesc : b.esc = s.esc := (hab .esc (by decide)).trans (hao .esc (by decide))
  have hmoved : b.demand.move = s.demandMoved f := by
    simp only [b, State.setDemand_demand, had]
    rfl
  rw [hdist, State.scheduleMetres_eq hbesc]
  -- Stage 6 sets the Demand Unit, whatever the metres have done.
  let c (v : State) : State := v.setDemand (s.demandMoved f)
  let d (v : State) : State := (c v).setDemand { s.demandMoved f with stops := (s.demandMoved f).stops + 1, stopEligible := false }
  have hsix (v : State) (hv : v.demand = b.demand) : (v.setDemand v.demand.move).passengerStop =
      if s.countsStop f = true then (d v).scheduleStop else c v := by
    have hc : v.setDemand v.demand.move = c v := by rw [hv, hmoved]
    rw [hc]
    unfold State.passengerStop
    by_cases hstop : s.countsStop f = true
    · rw [if_pos hstop]
      exact if_pos (hcond.mpr hstop)
    · rw [if_neg hstop]
      exact if_neg fun h => hstop (hcond.mp h)
  have hcv (v : State) : OnlyChanges [.demand] v (c v) := by simp [c]
  have hdv (v : State) : OnlyChanges [.demand] v (d v) := by simp [d, c]
  have hfinal (v : State) (hstop : (d v).scheduleStop = d v) :
      (if s.countsStop f = true then (d v).scheduleStop else c v).demand = s.demandAfter f ∧
        OnlyChanges [.demand] v (if s.countsStop f = true then (d v).scheduleStop else c v) := by
    unfold State.demandAfter
    split
    · rw [hstop]
      exact ⟨rfl, hdv v⟩
    · exact ⟨rfl, hcv v⟩
  have hbzone : b.demand.zone = s.demand.zone := by simp only [b, State.setDemand_demand, had]
  by_cases hphase : s.esc.schedule.map Schedule.phase = some .countDistance
  · rw [if_pos hphase]
    have hcd := State.countDown_only f s b
    rw [hsix _ (hcd .demand (by decide))]
    have hstop : (d (s.countDown f b)).scheduleStop = d (s.countDown f b) :=
      State.scheduleStop_of_phase (State.countDown_phase hphase)
    obtain ⟨hdem, honly⟩ := hfinal _ hstop
    exact ⟨hdem, b, ha ▸ hab, hbzone, honly⟩
  · rw [if_neg hphase, hsix b rfl]
    have hzone : ∀ v, (d v).demand.zone = s.demand.zone := fun v => State.demandMoved_zone f s
    by_cases hstop : s.countsStop f = true
    · rw [if_pos hstop]
      have hdb : (d b).esc = s.esc := hbesc
      have hrun : (d b).scheduleStop = s.countDown f (d b) := by
        rw [State.scheduleStop_eq hdb hstop]
        split
        · rfl
        · next hp => exact (State.countDown_same (State.countedSchedule_same hphase fun h => absurd h hp) hdb).symm
      rw [hrun]
      refine ⟨?_, d b, ha ▸ hab.trans (hdv b), hzone b, .refl _ _⟩
      rw [State.countDown_only f s (d b) .demand (by decide)]
      simp only [State.demandAfter, hstop, if_true]
      rfl
    · rw [if_neg hstop]
      have hcb : (c b).esc = s.esc := hbesc
      have hrun : s.countDown f (c b) = c b :=
        State.countDown_same (State.countedSchedule_same hphase fun _ => Bool.eq_false_iff.mpr hstop) hcb
      refine ⟨?_, c b, ha ▸ hab.trans (hcv b), State.demandMoved_zone f s, by rw [hrun]; exact .refl _ _⟩
      simp only [State.demandAfter, hstop]
      rfl

/-- The faults that the stages leave are those of the refreshed state. -/
theorem State.demandStages_faults (f : DemandFields) (s : State) :
    (s.demandStages f).faults = ((s.takeRecord f).refresh).faults := by
  obtain ⟨-, u, hau, -, hut⟩ := State.demandStages_spec f s
  have hcd : (s.countDown f u).faults = u.faults := by
    unfold State.countDown
    dsimp only
    split
    · unfold State.scheduleDue
      split
      · exact (State.evaluateStart_spec _).1 .faults (by decide)
      · exact (State.evaluateStart_spec _).1 .faults (by decide)
    · rfl
  rw [hut .faults (by decide), hcd, hau .faults (by decide)]

/-- The stages of a DEMAND take it in every mode (R12 to R18). -/
theorem State.demandStages_taken (f : DemandFields) (hm : s.mode ≠ .halted) : DemandTaken f s (s.demandStages f) := by
  obtain ⟨-, -, -, hfresh, hstale⟩ := State.refreshed_spec f s
  refine demandTaken_of (State.demandStages_spec f s).demand (fun h => ?_) fun h => ?_
  · rw [State.demandStages_faults]
    exact hstale h hm
  · rw [State.demandStages_faults, hfresh h]

end

/-! ## 4. DEMAND outside READY (O12) -/

section
variable {f : DemandFields} {s t : State} {bs : List Block}

/-- Outside READY no evaluation point acts (R144). -/
theorem State.evaluateStart_idle (h : s.mode ≠ .ready) : s.evaluateStart = s := by
  by_cases hoff : s.esc.machine = .off
  · refine State.evaluateStart_off hoff (.inl (Bool.eq_false_iff.mpr fun ha => ?_))
    obtain ⟨-, hm, -⟩ := State.startAllowed_iff.mp ha
    exact h hm
  · by_cases hcool : s.esc.machine = .cooldown
    · refine State.evaluateStart_cooldown hcool (Bool.eq_false_iff.mpr fun ha => ?_)
      obtain ⟨-, hm, -⟩ := State.autoReturns_iff.mp ha
      exact h hm
    · exact State.evaluateStart_other hoff hcool

/-- The countdown outside READY, and wherever no evaluation point acts (R161, R162). -/
theorem State.countDown_idle {w : State} (hw : w.esc = s.esc)
    (h : ∀ sch, (w.setEsc { w.esc with schedule := sch }).evaluateStart = w.setEsc { w.esc with schedule := sch }) :
    s.countDown f w = w.setEsc { w.esc with schedule := s.scheduleAfter f } := by
  have hagain : ∀ sch, (w.setEsc { w.esc with schedule := sch }).setEsc { (w.setEsc { w.esc with schedule := sch }).esc with schedule := none } =
      w.setEsc { w.esc with schedule := none } := fun _ => rfl
  unfold State.countDown State.scheduleAfter State.scheduleDue
  dsimp only
  by_cases hdue : s.entersDue f = true
  · by_cases hoff : s.esc.machine = .off
    · have hwoff : (w.setEsc { w.esc with schedule := s.countedSchedule f }).esc.machine = .off := by rw [State.setEsc_esc, hw]; exact hoff
      have hand : ¬(s.entersDue f = true ∧ s.esc.machine ≠ .off) := fun ⟨_, hx⟩ => hx hoff
      rw [if_pos hdue, if_pos hwoff, if_neg hand, h]
    · have hwoff : (w.setEsc { w.esc with schedule := s.countedSchedule f }).esc.machine ≠ .off := by rw [State.setEsc_esc, hw]; exact hoff
      rw [if_pos hdue, if_neg hwoff, if_pos ⟨hdue, hoff⟩, hagain, h]
  · have hand : ¬(s.entersDue f = true ∧ s.esc.machine ≠ .off) := fun ⟨hx, _⟩ => hdue hx
    rw [if_neg hdue, if_neg hand]

theorem DemandTaken.of_eq {s' t' : State} (h : DemandTaken f s' t') (hs : OnlyChanges bs s s')
    (hb : .demand ∉ bs ∧ .params ∉ bs ∧ .runTime ∉ bs ∧ .faults ∉ bs) (hd : t.demand = t'.demand) (hf : t.faults = t'.faults) :
    DemandTaken f s t := by
  obtain ⟨hbd, hbp, hbr, hbf⟩ := hb
  have hdem : s'.demand = s.demand := hs .demand hbd
  have hpar : ∀ p, s'.par p = s.par p := hs.par hbp
  have hrun : s'.runTime = s.runTime := hs .runTime hbr
  have hfau : s'.faults = s.faults := hs .faults hbf
  have hstep : s'.demandStep = s.demandStep := by
    unfold State.demandStep
    rw [hdem, hpar, hrun]
  have hmetres : s'.metresOf f = s.metresOf f := by
    unfold State.metresOf
    rw [hdem, hstep]
  have hstop : s'.countsStop f = s.countsStop f := by
    unfold State.countsStop
    rw [hdem]
  obtain ⟨h1, h2, h3, h4, h5, h6, h7, h8, h9, h10, h11, h12, h13⟩ := h
  rw [← hd, hdem] at *
  simp only [hpar, hrun, hfau, hstep, hmetres, hstop, ← hf] at *
  exact ⟨h1, h2, h3, h4, h5, h6, h7, h8, h9, h10, h11, h12, h13⟩

end

/-- Settles O12. -/
theorem demandOutsideReadyDrivesNothing : Obligations.DemandOutsideReadyDrivesNothing := by
  intro tag d s i h hm hlen f st
  let u := s.afterSlot i tag 0x01
  have hu : OnlyChanges [.hli] s u := State.onlyChanges_afterSlot
  let t := s.plain tag 0x01 true (State.takeDemand d)
  let v := u.demandStages f
  have hmu : u.mode ≠ .ready := hm
  have hstages := State.demandStages_spec f u
  obtain ⟨-, hau, -, -, -⟩ := State.refreshed_spec f u
  obtain ⟨w, haw, -, hwv⟩ := hstages.counted
  have huw : OnlyChanges [.demand, .faults, .notices] u w := hau.trans (haw.mono (by decide))
  have hwmode : w.mode ≠ .ready := by
    rw [huw .mode (by decide)]
    exact hmu
  have hcount : u.countDown f w = w.setEsc { w.esc with schedule := u.scheduleAfter f } :=
    State.countDown_idle (huw .esc (by decide)) fun _ => State.evaluateStart_idle hwmode
  rw [hcount] at hwv
  have hset : OnlyChanges [.esc] w (w.setEsc { w.esc with schedule := u.scheduleAfter f }) := by simp
  have huv : OnlyChanges [.demand, .esc, .faults, .notices] u v :=
    (huw.mono (by decide)).trans ((hset.mono (by decide)).trans (hwv.mono (by decide)))
  have ho : u.takeDemand d = .now v (demandReply st f.override .none .initial .initial) := by
    have hvm : v.mode ≠ .ready := by
      rw [huv .mode (by decide)]
      exact hmu
    exact if_neg hvm
  have hserved := State.served_plain h ho huv
  have hr := hserved.rest
  refine ⟨t, ?_, hserved.answered, ?_, ?_, hserved.only⟩
  · have hb : (d.length == 13) = true := beq_iff_eq.mpr hlen
    refine (State.powered_on h.powered _).trans ?_
    unfold State.reqDemand
    rw [hb]
  · have htaken : DemandTaken f u v := State.demandStages_taken f (Mode.not_halted_of_live h.live)
    exact htaken.of_eq hu (by decide) (hr .demand (by decide)) (hr .faults (by decide))
  · rw [hr .esc (by decide), hwv .esc (by decide), State.setEsc_esc, huw .esc (by decide)]
    rfl

end Sys2Proof.Machine

namespace Sys2Proof.Machine

-- In order: proofs elaborated side by side wait for one another in too many threads.
set_option Elab.async false

/-! # The presence timers (O37) -/

/-! ## 1. What a stop or a raise makes of the engine machine (R151, R196) -/

section
variable {s t u : State} {m m' m'' : EngineState} {c : StopCause} {immediate : Bool}

/-- Where stop causes lead: nowhere from OFF, FAULT and STOPPING, and else to COOLDOWN or STOPPING. -/
def EngineState.StopsTo (m m' : EngineState) : Prop :=
  m' = m ∨ ((m ≠ .off ∧ m ≠ .fault ∧ m ≠ .stopping) ∧ (m' = .cooldown ∨ m' = .stopping))

theorem EngineState.StopsTo.refl (m : EngineState) : m.StopsTo m := .inl rfl

theorem EngineState.StopsTo.trans (h : m.StopsTo m') (h' : m'.StopsTo m'') : m.StopsTo m'' := by
  rcases h with rfl | ⟨hm, hm'⟩
  · exact h'
  · refine .inr ⟨hm, ?_⟩
    rcases h' with rfl | ⟨-, h'⟩
    · exact hm'
    · exact h'

theorem EngineState.StopsTo.off (h : m.StopsTo m') (hm : m ≠ .off) : m' ≠ .off := by
  rcases h with rfl | ⟨-, rfl | rfl⟩
  · exact hm
  · decide
  · decide

theorem EngineState.StopsTo.stands (h : m.StopsTo m') (hm : m = .off ∨ m = .fault ∨ m = .stopping) : m' = m := by
  rcases h with rfl | ⟨⟨h1, h2, h3⟩, -⟩
  · rfl
  · rcases hm with hm | hm | hm
    · exact absurd hm h1
    · exact absurd hm h2
    · exact absurd hm h3

/-- An entry to COOLDOWN goes on into STOPPING where t_cool is 0 (R151, R152). -/
theorem State.enterCooldown_machine (h : s.esc.machine.inService = true) :
    (s.enterCooldown c).esc.machine = .cooldown ∨ (s.enterCooldown c).esc.machine = .stopping := by
  rcases Nat.eq_zero_or_pos (s.par .tCool) with ht | ht
  · exact .inr (by rw [(State.enterCooldown_stops h ht).1])
  · exact .inl (by rw [(State.enterCooldown_cools h ht).esc])

theorem State.enterStopping_machine (s : State) : s.enterStopping.esc.machine = .stopping := by
  rw [State.enterStopping_eq, State.setEngine_esc]

theorem State.stopRunning_machine (h : s.esc.machine.inService = true) :
    (s.stopRunning c immediate).esc.machine = .cooldown ∨ (s.stopRunning c immediate).esc.machine = .stopping := by
  unfold State.stopRunning
  split
  · exact .inr (State.enterStopping_machine _)
  · exact State.enterCooldown_machine h

theorem State.stopCause_machine (s : State) (c : StopCause) (immediate : Bool) :
    s.esc.machine.StopsTo (s.stopCause c immediate).esc.machine := by
  unfold State.stopCause
  split
  · next h => exact .inr ⟨by rw [h]; decide, State.stopRunning_machine (by rw [h]; rfl)⟩
  · next h => exact .inr ⟨by rw [h]; decide, State.stopRunning_machine (by rw [h]; rfl)⟩
  · next h =>
    unfold State.stopCranking
    split
    case h_5 => split <;> first | exact .refl _ | exact .inr ⟨by rw [h]; decide, .inr (State.enterStopping_machine _)⟩
    case h_6 => exact .refl _
    all_goals exact .inr ⟨by rw [h]; decide, .inr (State.enterStopping_machine _)⟩
  · next h =>
    unfold State.stopCranking
    split
    case h_5 => split <;> first | exact .refl _ | exact .inr ⟨by rw [h]; decide, .inr (State.enterStopping_machine _)⟩
    case h_6 => exact .refl _
    all_goals exact .inr ⟨by rw [h]; decide, .inr (State.enterStopping_machine _)⟩
  · next h =>
    unfold State.stopCooling
    split
    case h_5 =>
      split
      · exact .inr ⟨by rw [h]; decide, .inr (State.enterStopping_machine _)⟩
      · exact .refl _
    all_goals exact .refl _
  · exact .refl _
  · exact .refl _
  · exact .refl _

/-- Stop cause SAFE takes an engine out of service. -/
theorem State.stopCause_leaves (h : s.esc.machine.inService = true) :
    (s.stopCause c immediate).esc.machine = .cooldown ∨ (s.stopCause c immediate).esc.machine = .stopping := by
  rw [State.stopCause_inService h]
  exact State.stopRunning_machine h

theorem State.safeCause_machine (s : State) : s.esc.machine.StopsTo s.safeCause.esc.machine := by
  unfold State.safeCause
  split
  · exact State.stopCause_machine _ _ _
  · exact .refl _

theorem State.saturation_id_machine (r : BlendResult) (s : State) : s.esc.machine.StopsTo (s.saturation id r).esc.machine := by
  have hcore (v : State) : (v.raiseCore .frictionSaturated r.shortDetail).esc = v.esc := State.raiseCore_only _ _ v .esc (by decide)
  unfold State.saturation
  split
  · unfold State.raiseWith
    dsimp only
    split
    · have := State.safeCause_machine (id ((s.setBbu { s.bbu with saturated := true }).raiseCore .frictionSaturated r.shortDetail))
      rw [id, hcore] at this
      exact this
    · rw [hcore]
      exact .refl _
  · split
    · rw [State.endCause_only _ _ .esc (by decide)]
      exact .refl _
    · exact .refl _

theorem State.cutReblend_machine (slipCut : Bool) (s : State) : s.esc.machine.StopsTo (s.cutReblend slipCut).esc.machine := by
  unfold State.cutReblend
  split
  · rw [State.applyBlend_eq]
    have h := State.saturation_id_machine (s.blendResult .cut) (s.driveBlend slipCut 0 (s.blendResult .cut))
    rw [State.driveBlend_only .esc (by decide)] at h
    exact h
  · exact .refl _

theorem State.raise_machine (k : FaultKind) (detail : Nat) (s : State) : s.esc.machine.StopsTo (s.raise k detail).esc.machine := by
  have hcore : (s.raiseCore k detail).esc = s.esc := State.raiseCore_only k detail s .esc (by decide)
  cases hb : becameSafeStop s (s.raiseCore k detail)
  · rw [State.raise_rests hb, hcore]
    exact .refl _
  · rw [State.raise_stops hb]
    have h := (State.cutReblend_machine false (s.raiseCore k detail)).trans (State.safeCause_machine _)
    rw [hcore] at h
    exact h

end

/-! ## 2. The loss of a node (R59, R73, R143) -/

section
variable {s t : State} {n m : NodeAddr} {P : ActiveFault → Prop}

/-- The machine enters another state but from FAULT: no fault's cause ends (R140, R154). -/
theorem State.setEngine_keeps (hf : s.esc.machine ≠ .fault) (m : EngineState) :
    OnlyChanges [.progress, .esc, .wear, .notices] s (s.setEngine m) := by
  unfold State.setEngine State.endEngineWait
  simp (disch := decide) [hf]

theorem State.engineLost_only (s : State) : OnlyChanges [.progress, .nlc, .esc, .wear, .notices] s s.engineLost := by
  unfold State.engineLost
  split
  · exact .refl _ s
  · next hno =>
    have hf : s.esc.machine ≠ .fault := fun h => hno (.inr (.inr h))
    have hforce : OnlyChanges [.nlc] s (if s.esc.machine.inService then s.offerNoForce else s) := by simp [State.offerNoForce]
    generalize (if s.esc.machine.inService then s.offerNoForce else s) = u at hforce
    have hesc : u.esc = s.esc := hforce .esc (by decide)
    have hset : OnlyChanges [.esc] u (u.setEsc { u.esc with
      crankTimer := none, restTimer := none, cooldownTimer := none, stopTimer := none, latch := none, crankCause := none,
      stopCause := none }) := by simp
    refine (hforce.mono (by decide)).trans ((hset.mono (by decide)).trans ((State.setEngine_keeps ?_ _).mono (by decide)))
    rw [State.setEsc_esc, hesc]
    exact hf

theorem State.engineLost_machine (hm : s.mode ≠ .halted) (hoff : s.esc.machine ≠ .off) : s.engineLost.esc.machine = .fault := by
  unfold State.engineLost
  by_cases hf : s.esc.machine = .fault
  · rw [if_pos (.inr (.inr hf))]
    exact hf
  · rw [if_neg (by simp [hm, hoff, hf]), State.setEngine_esc]

/-- A lost node's entries leave the queue, its hold ends, and its entry in flight will not return (R73). -/
theorem State.nodeLostQueue_spec (n : NodeAddr) (s : State) :
    (s.nodeLostQueue n).node n = { s.node n with held := false } ∧ (∀ m, m ≠ n → (s.nodeLostQueue n).node m = s.node m) ∧
      (∀ e ∈ (s.nodeLostQueue n).nlc.queue, e.target = n → e.inFlight = true) ∧
      OnlyChanges [.hli, .nlc, .nodes] s (s.nodeLostQueue n) := by
  let a := s.dropWaiting (fun e => e.target == n) (fun e => e.last)
  let b := a.setNode n { a.node n with held := false }
  let c := b.setNlc { b.nlc with queue := b.nlc.queue.map (fun e =>
    if e.target == n && e.inFlight && e.fate == .returns then { e with fate := .nodeLost } else e) }
  have heq : s.nodeLostQueue n = c.linkCheck := rfl
  have ha : OnlyChanges [.hli, .nlc] s a := by simp [a]
  have hc : OnlyChanges [.nlc] b c := by simp [c]
  have hcheck := State.linkCheck_only c
  have hbc : OnlyChanges [.nlc] b c.linkCheck := hc.trans hcheck
  have hb : OnlyChanges [.nodes] a b := by simp [b]
  rw [heq]
  refine ⟨?_, fun m hm => ?_, fun e he ht => ?_, (ha.mono (by decide)).trans ((hb.mono (by decide)).trans (hbc.mono (by decide)))⟩
  · rw [hbc.node (by decide), State.node_setNode_same, ha.node (by decide)]
  · rw [hbc.node (by decide), State.node_setNode_other _ _ hm, ha.node (by decide)]
  · rw [State.linkCheck_queue] at he
    obtain ⟨x, hx, rfl⟩ := List.mem_map.mp he
    have hxq : x ∈ a.nlc.queue := hx
    rw [show a.nlc.queue = _ from congrArg _ (State.dropWaiting_nlc _ _ s)] at hxq
    have hkept := (List.mem_filter.mp hxq).2
    split at ht <;> split <;> simp_all

theorem State.handLoss_spec (n : NodeAddr) (s : State) : ((s.handLoss n).node n = { s.node n with held := false }) ∧
    (∀ m, m ≠ n → (s.handLoss n).node m = s.node m) ∧ (∀ e ∈ (s.handLoss n).nlc.queue, e.target = n → e.inFlight = true) ∧
    (∀ P, Lasts P → s.Faulted P → (s.handLoss n).Faulted P) ∧
    (n = .eng → s.mode ≠ .halted → s.esc.machine ≠ .off → (s.handLoss n).esc.machine = .fault) := by
  let a := if n = .bat ∨ n = .inv then s.cutReblend false else s
  let b := if n = .eng then a.engineLost else a
  have heq : s.handLoss n = b.nodeLostQueue n := rfl
  have ha : OnlyChanges [.nlc, .bbu, .esc, .log, .wear, .faults, .notices] s a := by
    simp only [a]
    split
    · exact State.cutReblend_only false s
    · exact .refl _ s
  have hb : OnlyChanges [.progress, .nlc, .esc, .wear, .notices] a b := by
    simp only [b]
    split
    · exact State.engineLost_only a
    · exact .refl _ a
  obtain ⟨hself, hother, hqueue, hq⟩ := State.nodeLostQueue_spec n b
  have hnode (m : NodeAddr) : b.node m = s.node m := (hb.node (by decide) m).trans (ha.node (by decide) m)
  rw [heq]
  refine ⟨hself.trans (by rw [hnode]), fun m hm => (hother m hm).trans (hnode m), hqueue, fun P hP hs => ?_, fun hn hm hoff => ?_⟩
  · have haP : a.Faulted P := by
      simp only [a]
      split
      · exact hs.cutReblend hP false
      · exact hs
    exact (haP.after hb).after hq
  · have hna : a = s := if_neg (by rw [hn]; decide)
    have hnb : b = a.engineLost := if_pos hn
    rw [hq .esc (by decide), hnb, hna]
    exact State.engineLost_machine hm hoff

end

/-- Settles O37. -/
theorem presenceTimersMakeStaleAndLost : Obligations.PresenceTimersMakeStaleAndLost := by
  intro n s h
  have stopped {timer : Timer} (ht : timer ≠ some 0) (act : State → State) : s.expirePresence timer act = s := by
    unfold State.expirePresence
    rw [State.expire_other ht]
    exact ite_self _
  have ends {timer : Timer} (hm : s.mode ≠ .parked) (ht : timer = some 0) (act : State → State) : s.expirePresence timer act = act s := by
    unfold State.expirePresence
    rw [if_neg hm, ht]
    rfl
  refine ⟨fun ht => (State.powered_on h _).trans (congrArg _ (stopped ht _)), fun hm ht => ?_,
    fun ht => (State.powered_on h _).trans (congrArg _ (stopped ht _)), fun hm ht => ?_⟩
  · let u := s.setNode n { s.node n with presence := .stale, staleTime := some s.runTime, staleTimer := none, lostTimer := some (s.par .tLost) }
    have hu : OnlyChanges [.nodes] s u := by simp [u]
    have hraise : OnlyChanges [.nlc, .bbu, .esc, .log, .wear, .faults, .notices] u (s.becomeStale n) := by
      unfold State.becomeStale
      dsimp only
      split
      · exact State.raise_only .batStale 3 u
      · exact .refl _ u
    have hnode : (s.becomeStale n).node n = { s.node n with
        presence := .stale, staleTime := some s.runTime, staleTimer := none, lostTimer := some (s.par .tLost) } :=
      (hraise.node (by decide) n).trans (State.node_setNode_same _ _ _)
    refine ⟨s.becomeStale n, (State.powered_on h _).trans (congrArg _ (ends hm ht _)), by rw [hnode], by rw [hnode], by rw [hnode],
      by rw [hnode], fun m hne => (hraise.node (by decide) m).trans (State.node_setNode_other _ _ hne), fun hn hh => ?_, fun hn => ?_⟩
    · have hrun : s.becomeStale n = u.raise .batStale 3 := if_pos hn
      rw [hrun]
      exact State.raised_raise (s := u) hh (by decide) 3
    · rw [show s.becomeStale n = u from if_neg hn]
      exact hu
  · let u := s.setNode n { s.node n with presence := .lost, staleTimer := none, lostTimer := none }
    let v := match lossFault n with
      | some k => u.raise k (nodeCode n)
      | none => u
    have heq : s.becomeLost n = v.handLoss n := rfl
    have hu : OnlyChanges [.nodes] s u := by simp [u]
    have hv : OnlyChanges [.nlc, .bbu, .esc, .log, .wear, .faults, .notices] u v := by
      simp only [v]
      split
      · exact State.raise_only _ _ u
      · exact .refl _ u
    have hmach : s.esc.machine.StopsTo v.esc.machine := by
      simp only [v]
      split
      · exact State.raise_machine _ _ u
      · exact .refl _
    obtain ⟨hself, hother, hqueue, hraised, hfault⟩ := State.handLoss_spec n v
    have hnode : (s.becomeLost n).node n = { s.node n with presence := .lost, staleTimer := none, lostTimer := none, held := false } := by
      rw [heq, hself, hv.node (by decide), State.node_setNode_same]
    have hvm : v.mode = s.mode := (hv .mode (by decide)).trans (hu .mode (by decide))
    refine ⟨s.becomeLost n, (State.powered_on h _).trans (congrArg _ (ends hm ht _)), by rw [hnode], by rw [hnode], by rw [hnode],
      by rw [hnode], by simp [State.takes, hnode, Presence.gone], hqueue, fun k hk hh => ?_, fun hn hh hoff => ?_⟩
    · have hne : k ≠ .frictionSaturated := by
        intro hfs
        rw [hfs] at hk
        cases n <;> simp [lossFault] at hk
      have hrun : v = u.raise k (nodeCode n) := by simp only [v, hk]
      have hraise : v.Raised k := by
        rw [hrun]
        exact State.raised_raise (s := u) hh hne _
      exact hraised _ (.raised hne) hraise
    · rw [heq]
      exact hfault hn (by rw [hvm]; exact hh) (hmach.off hoff)


/-! # The low-speed and the slip-hold timer (O36) -/

section
variable {s t : State} {act : State → State} {timer : State → Timer}

/-- A timer of the Demand Unit, the BBU or the ESC that is stopped or runs on does nothing (R10, R138). -/
theorem State.expireLive_other (h : timer s ≠ some 0) : s.expireLive timer act = s := by
  unfold State.expireLive
  rw [State.expire_other h]
  exact ite_self _

theorem State.expireLive_ended (hm : s.mode.live = true) (h : timer s = some 0) : s.expireLive timer act = act s := by
  unfold State.expireLive
  rw [if_pos hm, h]
  rfl

/-- One step of the search for the dominant term (R113). -/
def higherTerm (tally : Vector Nat 9) (best t : LimitTerm) : LimitTerm :=
  if best = .none ∨ tally[tallyIndex best] < tally[tallyIndex t] then t else best

/-- A term stands first among those of the highest count (R113). -/
def Dominates (tally : Vector Nat 9) (l : List LimitTerm) (r : LimitTerm) : Prop :=
  ∃ before behind, l = before ++ r :: behind ∧ (∀ x ∈ before, tally[tallyIndex x] < tally[tallyIndex r]) ∧
    (∀ x ∈ behind, tally[tallyIndex x] ≤ tally[tallyIndex r])

theorem foldl_higherTerm (tally : Vector Nat 9) (l : List LimitTerm) (b : LimitTerm) (hb : b ≠ .none) (hl : .none ∉ l) :
    Dominates tally (b :: l) (l.foldl (higherTerm tally) b) := by
  induction l generalizing b with
  | nil => exact ⟨[], [], rfl, nofun, nofun⟩
  | cons y l ih =>
    have hy : y ≠ .none := fun h => hl (h ▸ List.mem_cons_self ..)
    have hl' : LimitTerm.none ∉ l := fun h => hl (List.mem_cons_of_mem _ h)
    rw [List.foldl_cons]
    by_cases hlt : tally[tallyIndex b] < tally[tallyIndex y]
    · obtain ⟨before, behind, heq, h1, h2⟩ := ih y hy hl'
      rw [show higherTerm tally b y = y from if_pos (.inr hlt)]
      generalize l.foldl (higherTerm tally) y = r at heq h1 h2
      refine ⟨b :: before, behind, by rw [heq]; rfl, fun x hx => ?_, h2⟩
      rcases List.mem_cons.mp hx with rfl | hx
      · refine lt_of_lt_of_le hlt ?_
        cases before with
        | nil =>
          obtain ⟨rfl, -⟩ := List.cons.inj heq
          exact le_refl _
        | cons z before =>
          obtain ⟨rfl, -⟩ := List.cons.inj heq
          exact le_of_lt (h1 _ (List.mem_cons_self ..))
      · exact h1 x hx
    · obtain ⟨before, behind, heq, h1, h2⟩ := ih b hb hl'
      rw [show higherTerm tally b y = b from if_neg (not_or.mpr ⟨hb, hlt⟩)]
      generalize l.foldl (higherTerm tally) b = r at heq h1 h2
      cases before with
      | nil =>
        obtain ⟨rfl, hbehind⟩ := List.cons.inj heq
        refine ⟨[], y :: l, rfl, nofun, fun x hx => ?_⟩
        rcases List.mem_cons.mp hx with rfl | hx
        · omega
        · exact h2 x (hbehind ▸ hx)
      | cons z before =>
        obtain ⟨rfl, hrest⟩ := List.cons.inj heq
        have hbr := h1 b (List.mem_cons_self ..)
        refine ⟨b :: y :: before, behind, by rw [hrest]; rfl, fun x hx => ?_, h2⟩
        rcases List.mem_cons.mp hx with rfl | hx
        · exact hbr
        · rcases List.mem_cons.mp hx with rfl | hx
          · omega
          · exact h1 x (List.mem_cons_of_mem _ hx)

/-- The dominant term is the earliest of the order among those of the highest count (R113). -/
theorem dominantTerm_spec (tally : Vector Nat 9) : Dominates tally dominanceOrder (dominantTerm tally) := by
  have hfirst : higherTerm tally .none .abs = .abs := if_pos (.inl rfl)
  have hfold : dominantTerm tally = dominanceOrder.foldl (higherTerm tally) .none := rfl
  rw [hfold]
  unfold dominanceOrder
  rw [List.foldl_cons, hfirst]
  exact foldl_higherTerm tally _ _ (by decide) (by decide)

/-- The record of a closed event (R112, R113). -/
theorem closedRecord_spec (seq : BitVec 32) (now : Time) (speed : Nat) (reason : EndReason) (ev : OpenEvent) :
    ∃ r, closedRecord seq now speed reason ev = r ∧ r.seq = seq ∧ r.startSpeed = ev.startSpeed ∧ r.endSpeed = speed ∧
      r.duration = now - ev.startTime ∧ r.peak = ev.peak ∧ r.reason = reason ∧ r.shortfall = ev.shortfall ∧ r.slip = ev.slip ∧
      r.regKj = min 4294967295 (ev.regJoules.toNat / 1000) ∧ r.frontKj = min 4294967295 (ev.frontJoules.toNat / 1000) ∧
      r.rearKj = min 4294967295 (ev.rearJoules.toNat / 1000) ∧ Dominates ev.tally dominanceOrder r.term := by
  have hterm := dominantTerm_spec ev.tally
  unfold closedRecord
  generalize dominantTerm ev.tally = term at hterm
  exact ⟨_, rfl, rfl, rfl, rfl, rfl, rfl, rfl, rfl, rfl, rfl, rfl, rfl, hterm⟩

/-- A closing condition that finds an event open (R111 to R115). -/
theorem State.closeEvent_open {ev : OpenEvent} (reason : EndReason) (h : s.log.current = some ev) :
    (s.closeEvent reason).log = s.log.enter (closedRecord s.log.next s.runTime s.demand.record.speed reason ev) ∧
      Noted .event (s.log.next.toNat % 256) s (s.closeEvent reason) := by
  simp only [State.closeEvent, h]
  exact ⟨rfl, State.noticeOf_notify_same _ .event _⟩

theorem State.closeEvent_closed (reason : EndReason) (h : s.log.current = none) : s.closeEvent reason = s := by
  simp only [State.closeEvent, h]

end

/-- Settles O36. -/
theorem lowSpeedAndSlipHoldExpire : Obligations.LowSpeedAndSlipHoldExpire := by
  intro s h
  refine ⟨fun ht => (State.powered_on h _).trans (congrArg _ (State.expireLive_other ht)), fun hm ht => ?_,
    fun ht => (State.powered_on h _).trans (congrArg _ (State.expireLive_other ht)), fun hm ht => ?_⟩
  · let u := s.setDemand { s.demand with motion := .standstill, stopEligible := true, lowSpeed := none }
    let v := u.closeEvent .standstill
    have heq : s.lowSpeedExpires = if v.level = .safeStop then v.stopCause .safe false else v := rfl
    have hu : OnlyChanges [.demand] s u := by simp [u]
    have hv : OnlyChanges [.log, .notices] u v := by simp [v]
    have hsv : OnlyChanges [.demand, .log, .notices] s v := (hu.mono (by decide)).trans (hv.mono (by decide))
    have hlast : EngineOnly v s.lowSpeedExpires := by
      rw [heq]
      split
      · exact .stopCause _ _ _
      · exact .refl v
    have hlevel : v.level = s.level := hsv.level (by decide)
    have hlog : s.lowSpeedExpires.log = v.log := hlast.only .log (by decide)
    refine ⟨s.lowSpeedExpires, (State.powered_on h _).trans (congrArg _ (State.expireLive_ended hm ht)), ?_, fun hc => ?_, fun ev hc => ?_,
      fun hl hrun htc => ?_, fun hl => ?_, (hsv.mono (by decide)).trans (hlast.only.mono (by decide))⟩
    · rw [hlast.only .demand (by decide), hv .demand (by decide)]
      rfl
    · rw [hlog, show v = u from State.closeEvent_closed _ hc]
      rfl
    · obtain ⟨hentered, hnoted⟩ := State.closeEvent_open (s := u) .standstill hc
      have hn : Noted .event (s.log.next.toNat % 256) s s.lowSpeedExpires := (hlast.notices _ (by decide)).trans hnoted
      obtain ⟨r, hr, hfields⟩ := closedRecord_spec s.log.next s.runTime s.demand.record.speed .standstill ev
      refine ⟨hn, r, ?_, hfields⟩
      rw [hlog, hentered]
      rw [show u.log = s.log from rfl, show closedRecord s.log.next u.runTime u.demand.record.speed .standstill ev = r from hr]
      unfold EventLog.enter
      split
      · next hr => exact (if_pos hr).symm
      · next hr => exact (if_neg hr).symm
    · have hcool : CoolsEngine .safe v (v.stopCause .safe false) :=
        State.stopCause_cools (by rw [show v.esc = s.esc from hsv .esc (by decide), hrun]; rfl) (by rw [hsv.par (by decide)]; exact htc)
      rw [heq, if_pos (hlevel.trans hl), hcool.esc]
      exact ⟨rfl, rfl⟩
    · rw [heq, if_neg (by rw [hlevel]; exact hl)]
      exact hsv
  · exact ⟨s.endSlipHold, (State.powered_on h _).trans (congrArg _ (State.expireLive_ended hm ht)), rfl, by simp [State.endSlipHold]⟩


/-! # TUNNEL SEND (O33) -/

section
variable {s u v : State} {i j : Fin 4} {tag target mode : Byte} {n : NodeAddr} {payload reply : List Byte}

/-- An offer for which nothing waits joins as a new entry, in flight at once or not (R65, R67). -/
theorem State.joined_offerAt {k : EntryKind} {priority : Nat} {origin : Origin} {r : ReplyMode} (ht : s.takes n = true)
    (hno : ∀ e ∈ s.nlc.queue, e.kind ≠ k) : ∃ e ∈ (s.offerAt n k payload priority origin r).nlc.queue,
      e.target = n ∧ e.kind = k ∧ e.reply = r := by
  have hany : ¬s.nlc.queue.any (Entry.waitsFor n k) = true := by
    intro h
    obtain ⟨e, he, hw⟩ := List.any_eq_true.mp h
    simp only [Entry.waitsFor, Bool.and_eq_true, beq_iff_eq] at hw
    exact hno e he hw.1.2
  simp only [State.offerAt, ht, if_true, if_neg hany]
  let e := s.newEntry n k payload priority origin r
  have he : e ∈ enqueue e s.nlc.queue := mem_enqueue.mpr (.inl rfl)
  unfold State.kick
  split
  · unfold State.startFrame
    split
    · exact ⟨e, he, rfl, rfl, rfl⟩
    · obtain ⟨y, hy, h1, h2, -, -, h5⟩ := mem_startFirst he
      exact ⟨y, hy, h1, h2, h5⟩
  · exact ⟨e, he, rfl, rfl, rfl⟩

/-- The bytes of a TUNNEL SEND are of its length and are CONFIRMED by their reply mode (R208, R212). -/
theorem State.reqTunnelSend_eq (hl : payload.length ≤ 12) : s.reqTunnelSend tag (target :: mode :: payload) =
    s.request tag 0x10 (mode == 0) false .good (State.takeTunnelSend tag (target :: mode :: payload)) := by
  have hlen : (decide (2 ≤ (target :: mode :: payload).length) && decide ((target :: mode :: payload).length ≤ 14)) = true := by
    simp only [List.length_cons, Bool.and_eq_true, decide_eq_true_eq]
    omega
  have hconf : confirmedSend (target :: mode :: payload) = (mode == 0) := by
    simp [confirmedSend, byteAt]
  unfold State.reqTunnelSend
  rw [hlen, hconf]
  rfl

/-- A TUNNEL SEND that is answered at once (R75, R76). -/
theorem State.tunnelSend_now (h : s.Accepts i) (hl : payload.length ≤ 12) (hc : mode = 0 → s.hli.deferredHeld < 2)
    (ho : State.takeTunnelSend tag (target :: mode :: payload) i (s.afterSlot i tag 0x10) = .now v reply)
    (hv : OnlyChanges [.nlc] (s.afterSlot i tag 0x10) v) :
    Answered tag 0x10 reply i s (s.reqTunnelSend tag (target :: mode :: payload)) ∧
      OnlyChanges [.hli] v (s.reqTunnelSend tag (target :: mode :: payload)) ∧
      OnlyChanges [.hli, .nlc] s (s.reqTunnelSend tag (target :: mode :: payload)) := by
  have hrun : s.reqTunnelSend tag (target :: mode :: payload) = v.ready ⟨tag, 0x10, reply, some i⟩ := by
    rw [State.reqTunnelSend_eq hl, State.request_good h.toHears tag 0x10 _ (fun hh => absurd hh (Mode.not_halted_of_live h.live))
      (fun hm => hc (by simpa using hm)) (by rw [ho]; rfl), ho]
    rfl
  have hready : OnlyChanges [.hli] v (v.ready ⟨tag, 0x10, reply, some i⟩) := by simp (disch := decide)
  rw [hrun]
  exact ⟨State.answered_of_owner h.toHears (hv .hli (by decide)), hready,
    (State.onlyChanges_afterSlot.mono (by decide)).trans ((hv.mono (by decide)).trans (hready.mono (by decide)))⟩

/-- A TUNNEL SEND whose reply is deferred keeps its inbox slot (R76, R208). -/
theorem State.tunnelSend_deferred (h : s.Accepts i) (hl : payload.length ≤ 12) (hc : s.hli.deferredHeld < 2)
    (ho : State.takeTunnelSend tag (target :: 0 :: payload) i (s.afterSlot i tag 0x10) = ⟨v, none⟩) :
    s.reqTunnelSend tag (target :: 0 :: payload) = v.takeSlot i ⟨tag, 0x10, true⟩ := by
  rw [State.reqTunnelSend_eq hl]
  unfold State.request
  have h1 : ¬(((0 : Byte) == 0) && decide (2 ≤ s.hli.deferredHeld)) = true := by simp; omega
  have h2 : ¬(s.mode = .halted && !false) = true := by simp [Mode.not_halted_of_live h.live]
  refine (if_neg h.awake).trans ((if_neg h1).trans ?_)
  split
  · next hn => exact absurd (h.free.symm.trans hn) (by simp)
  · next x hx =>
    obtain rfl : i = x := Option.some.inj (h.free.symm.trans hx)
    refine (if_neg h2).trans ?_
    change (match (State.takeTunnelSend tag (target :: 0 :: payload) i (s.afterSlot i tag 0x10)).reply with
      | some p => (State.takeTunnelSend tag (target :: 0 :: payload) i (s.afterSlot i tag 0x10)).state.ready ⟨tag, 0x10, p, some i⟩
      | none => (State.takeTunnelSend tag (target :: 0 :: payload) i (s.afterSlot i tag 0x10)).state.takeSlot i ⟨tag, 0x10, true⟩) = _
    rw [ho]

theorem nodeOfCode_byte (n : NodeAddr) : nodeOfCode (byte (nodeCode n)).toNat = some n := by cases n <;> rfl

/-- A node and a reply mode that R212 defines meet the checks of R75 in order. -/
theorem State.takeTunnelSend_known {posted : Bool} (hm : postedOf mode = some posted) :
    State.takeTunnelSend tag (byte (nodeCode n) :: mode :: payload) i u = match u.sendRefusal n with
      | some status => .now u [status, 0]
      | none => match u.freeTunnel with
        | none => .now u [stFull, 0]
        | some j => u.sendTunnel n j posted tag i payload := by
  have h1 : nodeOfCode (byteAt (byte (nodeCode n) :: mode :: payload) 0).toNat = some n := nodeOfCode_byte n
  have h2 : postedOf (byteAt (byte (nodeCode n) :: mode :: payload) 1) = some posted := hm
  simp only [State.takeTunnelSend, h1, h2]
  rfl

theorem State.takeTunnelSend_unknown (h : target.toNat = 0 ∨ 7 < target.toNat ∨ 1 < mode.toNat) :
    State.takeTunnelSend tag (target :: mode :: payload) i u = .now u [stValue, 0] := by
  have hbyte0 : byteAt (target :: mode :: payload) 0 = target := rfl
  have hbyte1 : byteAt (target :: mode :: payload) 1 = mode := rfl
  unfold State.takeTunnelSend
  rw [hbyte0, hbyte1]
  have hnone : nodeOfCode target.toNat = none ∨ postedOf mode = none := by
    rcases h with h | h | h
    · exact .inl (by rw [h]; rfl)
    · refine .inl ?_
      unfold nodeOfCode
      split <;> first | omega | rfl
    · refine .inr ?_
      unfold postedOf
      rw [if_neg (by rintro rfl; exact absurd h (by decide)), if_neg (by rintro rfl; exact absurd h (by decide))]
  rcases hnone with hn | hn
  · rw [hn]
  · rw [hn]
    split <;> first | rfl | contradiction

/-- A TUNNEL SEND that may be sent passes the checks but for the slots (R75). -/
theorem State.sendRefusal_none (hp : (s.mode = .ready ∧ isAux n = true) ∨ (s.mode = .standby ∧ s.hli.access = .service))
    (ht : s.takes n = true) : s.sendRefusal n = none := by
  rcases hp with ⟨hm, ha⟩ | ⟨hm, ha⟩ <;> simp [State.sendRefusal, hm, ha, ht]

theorem State.sendRefusal_absent (hp : (s.mode = .ready ∧ isAux n = true) ∨ (s.mode = .standby ∧ s.hli.access = .service))
    (ht : s.takes n = false) : s.sendRefusal n = some stAbsent := by
  rcases hp with ⟨hm, ha⟩ | ⟨hm, ha⟩ <;> simp [State.sendRefusal, hm, ha, ht]

theorem State.sendRefusal_mode (h : s.mode = .shutdown ∨ (s.mode = .ready ∧ isAux n = false)) : s.sendRefusal n = some stMode := by
  rcases h with hm | ⟨hm, ha⟩
  · simp [State.sendRefusal, hm]
  · simp [State.sendRefusal, hm, ha]

theorem State.sendRefusal_level (hm : s.mode = .standby) (ha : s.hli.access = .drive) : s.sendRefusal n = some stLevel := by
  simp [State.sendRefusal, hm, ha]

end

/-- Settles O33. -/
theorem tunnelSendTakesATunnelSlot : Obligations.TunnelSendTakesATunnelSlot := by
  intro tag n payload s i h hl permitted
  let u := s.afterSlot i tag 0x10
  have hu : OnlyChanges [.hli] s u := State.onlyChanges_afterSlot
  have ran (data : List Byte) : exec (.tunnelSend tag data) s = .next (s.reqTunnelSend tag data) := State.powered_on h.powered _
  have htu : u.takes n = s.takes n := hu.takes (by decide) n
  refine ⟨fun j hp ht hj => ⟨?_, fun hdef => ?_⟩, fun mode hmode => ?_, fun target mode hbad hdef => ?_⟩
  · let v := u.offerAt n (.tunnel j) payload 6 .tunnel .posted
    have ho : State.takeTunnelSend tag (byte (nodeCode n) :: 1 :: payload) i u = .now v [stOk, 0, byte (j.val + 1)] := by
      rw [State.takeTunnelSend_known (posted := true) rfl, State.sendRefusal_none (s := u) hp (htu.trans ht),
        show u.freeTunnel = some j from hj]
      rfl
    have hv : OnlyChanges [.nlc] u v := by simp [v]
    obtain ⟨hans, hrest, honly⟩ := State.tunnelSend_now (mode := 1) h hl (fun hm => absurd hm (by decide)) ho hv
    have hq : Queued n (.tunnel j) payload .tunnel v := State.offered_offerAt n _ payload 6 .tunnel .posted u (htu.trans ht)
    exact ⟨_, ran _, hans, hq.after hrest, honly⟩
  · let v := u.offerAt n (.tunnel j) payload 6 .tunnel (.confirmed tag i)
    have ho : State.takeTunnelSend tag (byte (nodeCode n) :: 0 :: payload) i u = ⟨v, none⟩ := by
      rw [State.takeTunnelSend_known (posted := false) rfl, State.sendRefusal_none (s := u) hp (htu.trans ht),
        show u.freeTunnel = some j from hj]
      rfl
    have hv : OnlyChanges [.nlc] u v := by simp [v]
    have hrun := State.tunnelSend_deferred h hl hdef ho
    obtain ⟨e, he, h1, h2, h3⟩ : ∃ e ∈ v.nlc.queue, e.target = n ∧ e.kind = .tunnel j ∧ e.reply = .confirmed tag i :=
      State.joined_offerAt (htu.trans ht) (State.kind_ne_of_freeTunnel hj)
    refine ⟨v.takeSlot i ⟨tag, 0x10, true⟩, (ran _).trans (congrArg _ hrun), ?_, ⟨e, he, h1, h2, h3⟩, ?_⟩
    · have hvh : v.hli = u.hli := hv .hli (by decide)
      simp only [State.takeSlot, State.setHli_hli, hvh]
      simp [u, State.afterSlot, State.takeSlot, Vector.set_set]
    · exact (hu.mono (by decide)).trans ((hv.mono (by decide)).trans (by simp [State.takeSlot]))
  · have hdef : mode = 0 → s.hli.deferredHeld < 2 := by
      rintro rfl
      rcases hmode with hm | ⟨-, hm⟩
      · exact absurd hm (by decide)
      · exact hm
    obtain ⟨posted, hposted⟩ : ∃ posted, postedOf mode = some posted := by
      rcases hmode with rfl | ⟨rfl, -⟩
      · exact ⟨true, rfl⟩
      · exact ⟨false, rfl⟩
    have refuse {status : Byte} (ho : State.takeTunnelSend tag (byte (nodeCode n) :: mode :: payload) i u = .now u [status, 0]) :
        Answered tag 0x10 [status, 0] i s (s.reqTunnelSend tag (byte (nodeCode n) :: mode :: payload)) ∧
          OnlyChanges [.hli] s (s.reqTunnelSend tag (byte (nodeCode n) :: mode :: payload)) := by
      obtain ⟨hans, hrest, -⟩ := State.tunnelSend_now h hl hdef ho (.refl _ u)
      exact ⟨hans, hu.trans hrest⟩
    have asked := State.takeTunnelSend_known (n := n) (tag := tag) (payload := payload) (i := i) (u := u) hposted
    refine ⟨_, ran _, fun hm => refuse ?_, fun hm ha => refuse ?_, fun hp ht => refuse ?_, fun hp ht hj => refuse ?_⟩
    · rw [asked, State.sendRefusal_mode (s := u) hm]
    · rw [asked, State.sendRefusal_level (s := u) hm ha]
    · rw [asked, State.sendRefusal_absent (s := u) hp (htu.trans ht)]
    · rw [asked, State.sendRefusal_none (s := u) hp (htu.trans ht), show u.freeTunnel = none from hj]
  · have ho : State.takeTunnelSend tag (target :: mode :: payload) i u = .now u [stValue, 0] := State.takeTunnelSend_unknown hbad
    obtain ⟨hans, hrest, -⟩ := State.tunnelSend_now h hl (fun hm => hdef.resolve_left (not_not.mpr hm)) ho (.refl _ u)
    exact ⟨_, ran _, hans, hu.trans hrest⟩

end Sys2Proof.Machine

namespace Sys2Proof.Machine

-- In order: proofs elaborated side by side wait for one another in too many threads.
set_option Elab.async false

/-! # A fresh report (R47, R48, R53, R57, R58) -/

section
variable {s t x : State} {n m : NodeAddr} {payload : List Byte} {w rest : Wave} {eod : Nat} {retry : Bool} {bs : List Block}

/-- The stored reports of the node table. -/
def NodeTable.reports (t : NodeTable) :=
  (t.engReport, t.invReport, t.batReport, t.bkfReport, t.bkrReport)

@[simp] theorem NodeTable.reports_put (t : NodeTable) (n : NodeAddr) (r : NodeRecord) : (t.put n r).reports = t.reports := by
  cases n <;> rfl

theorem NodeTable.flagsOf_of_reports {a b : NodeTable} (h : a.reports = b.reports) (n : NodeAddr) : a.flagsOf n = b.flagsOf n := by
  simp only [NodeTable.reports, Prod.mk.injEq] at h
  obtain ⟨h1, h2, h3, h4, h5⟩ := h
  cases n <;> simp [NodeTable.flagsOf, h1, h2, h3, h4, h5]

theorem NodeTable.faultFlag_of_reports {a b : NodeTable} (h : a.reports = b.reports) (n : NodeAddr) : a.faultFlag n = b.faultFlag n := by
  unfold NodeTable.faultFlag
  rw [NodeTable.flagsOf_of_reports h]

/-- The end of a cause leaves no level that did not stand (R193, R195). -/
theorem State.level_endCause (k : FaultKind) (h : (s.endCause k).level = .safeStop) : s.level = .safeStop := by
  obtain ⟨e, he, hl⟩ := State.level_safeStop_iff.mp h
  refine State.level_safeStop_iff.mpr ?_
  unfold State.endCause at he
  split at he
  · exact ⟨e, he, hl⟩
  · split at he
    · exact ⟨e, he, hl⟩
    · split at he
      · obtain ⟨y, hy, rfl⟩ := List.mem_map.mp he
        refine ⟨y, hy, ?_⟩
        split at hl <;> exact hl
      · unfold State.removeFault at he
        rw [State.noteRestriction_faults] at he
        exact ⟨e, (List.mem_filter.mp he).1, hl⟩

theorem State.level_endCauses (ks : List FaultKind) (h : (s.endCauses ks).level = .safeStop) : s.level = .safeStop := by
  unfold State.endCauses at h
  induction ks generalizing s with
  | nil => exact h
  | cons k ks ih => exact State.level_endCause k (ih h)

/-- A fresh report has been stored and its record is PRESENT, ahead of what it hands on (R48, R53). -/
structure StoresFresh (n : NodeAddr) (payload : List Byte) (s t : State) : Prop where
  record : t.node n = { s.node n with
    lastAlive := some (aliveOf payload), presence := .present, freshTime := some s.runTime, repeats := 0,
    staleTimer := some (s.par .tStale), lostTimer := none }
  others : ∀ m, m ≠ n → t.node m = s.node m
  reports : t.nodes.reports = (s.nodes.store n payload).reports
  level : t.level = .safeStop → s.level = .safeStop
  only : OnlyChanges [.nodes, .faults, .notices] s t

theorem State.endPresenceFaults_spec (n : NodeAddr) (s : State) :
    ((s.endPresenceFaults n).level = .safeStop → s.level = .safeStop) ∧ OnlyChanges [.faults, .notices] s (s.endPresenceFaults n) := by
  refine ⟨fun h => ?_, by unfold State.endPresenceFaults; split <;> simp⟩
  unfold State.endPresenceFaults at h
  split at h
  · exact State.level_endCauses _ h
  · exact State.level_endCause _ h
  · exact State.level_endCause _ h
  · split at h
    · exact h
    · exact State.level_endCause _ h
  · split at h
    · exact h
    · exact State.level_endCause _ h
  · exact h
  · exact h

theorem State.setNode_nodes (n : NodeAddr) (r : NodeRecord) (s : State) : (s.setNode n r).nodes = s.nodes.put n r := rfl

/-- A record becomes PRESENT (R53, R60). -/
theorem State.becomePresent_spec (n : NodeAddr) (s : State) :
    (s.becomePresent n).node n = (s.node n).fresh s.runTime (s.par .tStale) ∧ (∀ m, m ≠ n → (s.becomePresent n).node m = s.node m) ∧
      (s.becomePresent n).nodes.reports = s.nodes.reports ∧ ((s.becomePresent n).level = .safeStop → s.level = .safeStop) ∧
      OnlyChanges [.nodes, .faults, .notices] s (s.becomePresent n) := by
  let u := s.setNode n ((s.node n).fresh s.runTime (s.par .tStale))
  have heq : s.becomePresent n = if (s.node n).presence.overdue then u.endPresenceFaults n else u := rfl
  have hu : OnlyChanges [.nodes] s u := by simp [u]
  obtain ⟨hlevel, honly⟩ := State.endPresenceFaults_spec n u
  have hlast : OnlyChanges [.faults, .notices] u (s.becomePresent n) := by
    rw [heq]
    split
    · exact honly
    · exact .refl _ u
  refine ⟨?_, fun m hm => ?_, ?_, fun h => ?_, (hu.mono (by decide)).trans (hlast.mono (by decide))⟩
  · rw [hlast.node (by decide), State.node_setNode_same]
  · rw [hlast.node (by decide), State.node_setNode_other _ _ hm]
  · rw [show (s.becomePresent n).nodes = u.nodes from hlast .nodes (by decide), State.setNode_nodes, NodeTable.reports_put]
  · have hul : u.level = s.level := hu.level (by decide)
    rw [heq] at h
    split at h
    · exact hul ▸ hlevel h
    · exact hul ▸ h

/-- The state from which a fresh report is handed on. -/
def State.storeFresh (n : NodeAddr) (payload : List Byte) (s : State) : State :=
  let s := s.setNodes (s.nodes.store n payload)
  (s.setNode n { s.node n with lastAlive := some (aliveOf payload) }).becomePresent n

theorem State.takeFresh_eq (n : NodeAddr) (payload : List Byte) (s : State) :
    s.takeFresh n payload = ((s.storeFresh n payload).actReported n (s.nodes.faultFlag n)).handOn n (some (s.sinceFresh n)) := rfl

theorem State.storeFresh_spec (n : NodeAddr) (payload : List Byte) (s : State) : StoresFresh n payload s (s.storeFresh n payload) := by
  let a := s.setNodes (s.nodes.store n payload)
  let b := a.setNode n { a.node n with lastAlive := some (aliveOf payload) }
  have ha : ∀ m, a.node m = s.node m := fun m => NodeTable.get_store s.nodes n m payload
  have hab : OnlyChanges [.nodes] s b := by simp [a, b]
  obtain ⟨hself, hother, hreports, hlevel, honly⟩ := State.becomePresent_spec n b
  have heq : s.storeFresh n payload = b.becomePresent n := rfl
  have hbn : b.node n = { s.node n with lastAlive := some (aliveOf payload) } := by
    rw [State.node_setNode_same, ha]
  rw [heq]
  refine ⟨?_, fun m hm => ?_, ?_, fun h => ?_, (hab.mono (by decide)).trans honly⟩
  · rw [hself, hbn, show b.runTime = s.runTime from hab .runTime (by decide), hab.par (by decide)]
    rfl
  · rw [hother m hm, State.node_setNode_other _ _ hm, ha]
  · rw [hreports, State.setNode_nodes, NodeTable.reports_put]
    rfl
  · rw [← hab.level (by decide)]
    exact hlevel h

/-- A report of its role's length is acknowledged and, outside PARKED, handed to the Node Table (R37). -/
theorem State.wave_report (h : s.Follows) (hc : Carries w (some n) .report retry payload eod rest)
    (hl : reportLength n = some payload.length) : ∃ x, Acknowledged 0x00 eod w rest x.nlc ∧ OnlyChanges [.nlc] s x ∧
      x.nlc = { s.nlc with noise := min 65535 (s.nlc.noise + noiseCount w), ack := x.nlc.ack, bus := x.nlc.bus } ∧
      (∀ act, s.powered (State.onLink act) = .next (act s)) ∧ s.wave w = x.handReport n retry payload := by
  have hdest : destinationOf (some n) .report payload = .nodeTable := by
    simp [destinationOf, reportFits, hl]
  let v := s.countNoise (noiseCount w)
  have hv : OnlyChanges [.nlc] s v := by simp [v, State.countNoise]
  have hcode : v.ackCode (some n) .report payload = 0x00 := by
    simp only [State.ackCode, hdest]
    rfl
  obtain ⟨hack, honly, hnlc⟩ := State.driveAck_spec 0x00 eod w rest v
  refine ⟨v.driveAck 0x00 eod w rest, hack, hv.trans honly, hnlc, State.powered_onLink h, ?_⟩
  rw [State.wave_carries h hc, hcode]
  simp only [State.handFrame, hdest]
  rfl

theorem State.handReport_awake (hm : s.mode ≠ .parked) : s.handReport n retry payload = s.takeReport n payload retry := if_neg hm

theorem classifyReport_fresh {last : Option (BitVec 4)} {alive : BitVec 4} (h : last ≠ some alive) : classifyReport last alive retry = .fresh := by
  unfold classifyReport
  split
  · rfl
  · next a => rw [if_neg fun ha => h (by rw [ha])]

theorem State.takeReport_fresh (h : (s.node n).lastAlive ≠ some (aliveOf payload)) : s.takeReport n payload retry = s.takeFresh n payload := by
  simp only [State.takeReport, classifyReport_fresh h]

/-- A fresh report of an ENG that raises no reported fault reaches the ESC behind the Node Table's work (R57, R58). -/
structure ReachesEngine (payload : List Byte) (s y : State) : Prop where
  present : (y.node .eng).presence = .present
  report : y.nodes.engReport = some (engReportOf payload)
  level : y.level = .safeStop → s.level = .safeStop
  only : OnlyChanges [.nlc, .nodes, .faults, .notices] s y

theorem State.releaseHold_spec (n : NodeAddr) (s : State) : (s.releaseHold n).nodes.reports = s.nodes.reports ∧
    (s.releaseHold n).node n = { s.node n with held := false } ∧ (∀ m, m ≠ n → (s.releaseHold n).node m = s.node m) ∧
    OnlyChanges [.nlc, .nodes] s (s.releaseHold n) := by
  unfold State.releaseHold
  split
  · let u := s.setNode n { s.node n with held := false }
    let v := u.setNlc { u.nlc with queue := u.nlc.queue.map (fun e => if e.target == n then { e with held := false } else e) }
    have hv : OnlyChanges [.nlc] u v.kick := by simp [v]
    have hu : OnlyChanges [.nodes] s u := by simp [u]
    refine ⟨?_, ?_, fun m hm => ?_, (hu.mono (by decide)).trans (hv.mono (by decide))⟩
    · rw [show v.kick.nodes = u.nodes from hv .nodes (by decide), State.setNode_nodes, NodeTable.reports_put]
    · rw [hv.node (by decide), State.node_setNode_same]
    · rw [hv.node (by decide), State.node_setNode_other _ _ hm]
  · next hno =>
    refine ⟨rfl, ?_, fun _ _ => rfl, .refl _ s⟩
    have hheld : (s.node n).held = false := Bool.eq_false_iff.mpr hno
    rw [← hheld]

theorem State.takeFresh_engine (hf : s.nodes.faultFlag .eng = true ∨ (byteAt payload 0).getLsbD 2 = false) :
    ∃ y, ReachesEngine payload s y ∧ s.takeFresh .eng payload = y.engineReport (engReportOf payload) := by
  have hstore := State.storeFresh_spec .eng payload s
  rw [State.takeFresh_eq]
  generalize s.storeFresh .eng payload = c at hstore
  have hflags : c.nodes.faultFlag .eng = (byteAt payload 0).getLsbD 2 := by
    rw [NodeTable.faultFlag_of_reports hstore.reports]
    rfl
  -- No reported fault is newly raised.
  have hact : ((c.actReported .eng (s.nodes.faultFlag .eng)).level = .safeStop → c.level = .safeStop) ∧
      OnlyChanges [.faults, .notices] c (c.actReported .eng (s.nodes.faultFlag .eng)) := by
    have hkind : reportedFault .eng = some .engReported := rfl
    unfold State.actReported
    rw [hkind, hflags]
    dsimp only
    split
    · next hset =>
      rw [if_pos (hf.resolve_right (by rw [hset]; decide))]
      exact ⟨id, .refl _ c⟩
    · split
      · exact ⟨State.level_endCause _, State.endCause_only _ c⟩
      · exact ⟨id, .refl _ c⟩
  generalize c.actReported .eng (s.nodes.faultFlag .eng) = d at hact
  obtain ⟨hlevel, hcd⟩ := hact
  let y := if ((d.nodes.flagsOf .eng).map ReportFlags.ready).getD false then d.releaseHold .eng else d
  have hy : y.nodes.reports = d.nodes.reports ∧ (y.node .eng).presence = (d.node .eng).presence ∧ OnlyChanges [.nlc, .nodes] d y := by
    obtain ⟨hreports, hself, -, honly⟩ := State.releaseHold_spec .eng d
    simp only [y]
    split
    · exact ⟨hreports, by rw [hself], honly⟩
    · exact ⟨rfl, rfl, .refl _ d⟩
  obtain ⟨hyr, hyp, hyo⟩ := hy
  have hreports : y.nodes.reports = (s.nodes.store .eng payload).reports := by
    rw [hyr, show d.nodes = c.nodes from hcd .nodes (by decide), hstore.reports]
  have hreport : y.nodes.engReport = some (engReportOf payload) := congrArg Prod.fst hreports
  refine ⟨y, ⟨?_, hreport, fun h => ?_, ?_⟩, ?_⟩
  · rw [hyp, hcd.node (by decide), hstore.record]
  · rw [hyo.level (by decide)] at h
    exact hstore.level (hlevel h)
  · exact (hstore.only.mono (by decide)).trans ((hcd.mono (by decide)).trans (hyo.mono (by decide)))
  · have hhand : d.handOn .eng (some (s.sinceFresh .eng)) = match y.nodes.engReport with
      | some r => y.engineReport r
      | none => y := rfl
    rw [hhand, hreport]

/-- A fresh ENG report that raises no reported fault, as a wave on the link (R36, R37, R48, R58). -/
theorem State.engine_hears (h : s.HearsFresh .eng payload w)
    (hf : s.nodes.faultFlag .eng = true ∨ (byteAt payload 0).getLsbD 2 = false) (retry : Bool) :
    ∃ y, ReachesEngine payload s y ∧ exec (.reportReceived .eng retry payload w) s = .next (y.engineReport (engReportOf payload)) := by
  obtain ⟨r, eod, rest, hc⟩ := h.carries
  obtain ⟨x, -, hsx, -, hrun, hwave⟩ := State.wave_report h.follows hc h.length
  have hxnodes : x.nodes = s.nodes := hsx .nodes (by decide)
  have hxmode : x.mode ≠ .parked := by
    rw [hsx .mode (by decide)]
    exact h.awake
  obtain ⟨y, hy, hfresh⟩ := State.takeFresh_engine (s := x) (payload := payload) (by rw [hxnodes]; exact hf)
  refine ⟨y, ⟨hy.present, hy.report, fun hl => ?_, (hsx.mono (by decide)).trans hy.only⟩, ?_⟩
  · rw [← hsx.level (by decide)]
    exact hy.level hl
  · refine (hrun _).trans ?_
    rw [hwave, State.handReport_awake hxmode, State.takeReport_fresh, hfresh]
    rw [hsx.node (by decide)]
    exact h.fresh

end


/-! # Crank attempts (O38) -/

section
variable {s t : State} {k : FaultKind} {detail : Nat} {r : EngReport} {m : EngineState} {timer : State → Timer} {act : State → State}

/-- No level stops an engine that is OFF or in FAULT (R151). -/
theorem State.safeCause_rest (h : s.esc.machine = .off ∨ s.esc.machine = .fault) : s.safeCause = s := by
  unfold State.safeCause
  rw [State.stopCause_rest h]
  exact ite_self _

theorem State.saturation_id_esc (b : BlendResult) (h : s.esc.machine = .off ∨ s.esc.machine = .fault) : (s.saturation id b).esc = s.esc := by
  have hcore (v : State) : (v.raiseCore .frictionSaturated b.shortDetail).esc = v.esc := State.raiseCore_only _ _ v .esc (by decide)
  unfold State.saturation
  split
  · unfold State.raiseWith
    dsimp only [id]
    split
    · rw [State.safeCause_rest (by rw [hcore]; exact h), hcore]
      rfl
    · rw [hcore]
      rfl
  · split
    · rw [State.endCause_only _ _ .esc (by decide)]
      rfl
    · rfl

theorem State.cutReblend_esc (slipCut : Bool) (h : s.esc.machine = .off ∨ s.esc.machine = .fault) : (s.cutReblend slipCut).esc = s.esc := by
  unfold State.cutReblend
  split
  · have hdrive : (s.driveBlend slipCut 0 (s.blendResult .cut)).esc = s.esc := State.driveBlend_only .esc (by decide)
    rw [State.applyBlend_eq, State.saturation_id_esc _ (by rw [hdrive]; exact h), hdrive]
  · rfl

theorem State.raise_esc (h : s.esc.machine = .off ∨ s.esc.machine = .fault) : (s.raise k detail).esc = s.esc := by
  have hcore : (s.raiseCore k detail).esc = s.esc := State.raiseCore_only k detail s .esc (by decide)
  cases hb : becameSafeStop s (s.raiseCore k detail)
  · rw [State.raise_rests hb, hcore]
  · have hcut := State.cutReblend_esc (s := s.raiseCore k detail) false (by rw [hcore]; exact h)
    rw [State.raise_stops hb, State.safeCause_rest (by rw [hcut, hcore]; exact h), hcut, hcore]

theorem State.expireEngine_other (h : timer s ≠ some 0) : s.expireEngine m timer act = s := by
  unfold State.expireEngine
  rw [State.expireLive_other h]
  exact ite_self _

theorem State.expireEngine_ended (hl : s.mode.live = true) (hm : s.esc.machine = m) (h : timer s = some 0) :
    s.expireEngine m timer act = act s := by
  unfold State.expireEngine
  rw [if_pos hm, State.expireLive_ended hl h]

/-- A failed attempt below the third (R147). -/
theorem State.attemptFails_retries (hm : s.esc.machine = .cranking) (h : s.esc.attempts < 3) :
    s.attemptFails.esc = { s.esc with machine := .retryWait, crankTimer := none, restTimer := some (s.par .tRest) } ∧
      Noted .engine 2 s s.attemptFails ∧ OnlyChanges [.esc, .notices] s s.attemptFails := by
  let u := s.setEsc { s.esc with crankTimer := none, restTimer := some (s.par .tRest) }
  have hu : OnlyChanges [.esc] s u := by simp [u]
  have hmu : u.esc.machine = .cranking := hm
  have hne : u.esc.machine ≠ .retryWait := by rw [hmu]; decide
  have heq : s.attemptFails = u.setEngine .retryWait := if_pos h
  have hset := State.setEngine_only (s := u) hne (by rw [hmu]; decide) (by decide) (by decide)
  rw [heq]
  refine ⟨?_, (State.setEngine_noted (s := u) hne).before hu, (hu.mono (by decide)).trans hset⟩
  rw [State.setEngine_esc]
  simp [u]

/-- The third failed attempt (R147). -/
theorem State.attemptFails_faults (hm : s.esc.machine = .cranking) (hh : s.mode ≠ .halted) (h : 3 ≤ s.esc.attempts) :
    s.attemptFails.esc = { s.esc with machine := .fault, crankTimer := none, crankCause := none } ∧ s.attemptFails.Raised .crankFail := by
  let u := (s.setEsc { s.esc with crankTimer := none, crankCause := none }).setEngine .fault
  have heq : s.attemptFails = u.raise .crankFail s.esc.attempts := if_neg (by omega)
  have hesc : u.esc = { s.esc with machine := .fault, crankTimer := none, crankCause := none } := by
    simp [u, State.setEngine_esc]
  have hset : OnlyChanges [.progress, .esc, .wear, .notices] (s.setEsc { s.esc with crankTimer := none, crankCause := none }) u :=
    State.setEngine_keeps (by rw [State.setEsc_esc, hm]; decide) _
  have hmode : u.mode ≠ .halted := by
    rw [hset .mode (by decide)]
    exact hh
  rw [heq]
  exact ⟨(State.raise_esc (.inr (by rw [hesc]))).trans hesc, State.raised_raise hmode (by decide) _⟩

/-- A start succeeds (R146). -/
theorem State.startSucceeds_esc (coolant : Int) : (s.startSucceeds coolant).esc = { s.esc with
    crankTimer := none, restTimer := none, crankCause := none,
    machine := if coolant < (s.par .tWarm : Int) then .warmup else .run } := by
  have hne : s.runningState coolant ≠ .off := by
    unfold State.runningState
    split <;> decide
  unfold State.startSucceeds
  rw [State.setEngine_esc]
  simp [hne]
  rfl

/-- What an ENG report does by the state of the machine, its first evidence aside (R140). -/
theorem State.engineReport_cranking (hm : s.mode ≠ .halted) (h : s.esc.machine = .cranking) :
    s.engineReport r = (s.setEsc { s.esc with window := false }).reportInCranking r := by
  unfold State.engineReport
  rw [if_neg hm]
  simp [h]

theorem State.engineReport_retryWait (hm : s.mode ≠ .halted) (h : s.esc.machine = .retryWait) :
    s.engineReport r = (s.setEsc { s.esc with window := false }).reportInRetry r := by
  unfold State.engineReport
  rw [if_neg hm]
  simp [h]

/-- The rest timer ends in another START (R147). -/
theorem State.restExpires_spec (h : s.esc.machine = .retryWait) :
    s.restExpires.esc = { s.esc with
      machine := .cranking, attempts := s.esc.attempts + 1, crankTimer := some (s.par .tCrank), restTimer := none } ∧ Offered s .eng .command [1] .engine s.restExpires ∧
    (s.takes .eng = true → (s.restExpires.wearItem .starts).value =
      min 4294967295 ((s.wearItem .starts).value + startsIncrement s.nodes.coolantSeen)) ∧
    OnlyChanges [.nlc, .esc, .wear, .notices] s s.restExpires := by
  let a := s.setEsc { s.esc with restTimer := none }
  let b := a.offerStart
  let c := b.setEsc { b.esc with attempts := b.esc.attempts + 1, crankTimer := some (b.par .tCrank) }
  have heq : s.restExpires = c.setEngine .cranking := rfl
  have ha : OnlyChanges [.esc] s a := by simp [a]
  have hb : OnlyChanges [.nlc, .wear, .notices] a b := by
    simp only [b]
    unfold State.offerStart
    simp (disch := decide)
  have hc : OnlyChanges [.esc] b c := by simp [c]
  have hbesc : b.esc = { s.esc with restTimer := none } := hb .esc (by decide)
  have hbpar : b.par .tCrank = s.par .tCrank := (hb.par (by decide) _).trans (ha.par (by decide) _)
  have hmc : c.esc.machine = .retryWait := by simp [c, hbesc, h]
  have hset := State.setEngine_only (s := c) (m := .cranking) (by rw [hmc]; decide) (by rw [hmc]; decide) (by decide) (by decide)
  rw [heq]
  refine ⟨?_, fun ht => ?_, fun ht => ?_, (ha.mono (by decide)).trans ((hb.mono (by decide)).trans ((hc.mono (by decide)).trans
    (hset.mono (by decide))))⟩
  · rw [State.setEngine_esc]
    simp [c, hbesc, hbpar]
  · obtain ⟨hq, -⟩ := State.offerStart_spec (s := a) (by rw [ha.takes (by decide)]; exact ht)
    exact (hq.after hc).after hset
  · obtain ⟨-, hitem, -⟩ := State.offerStart_spec (s := a) (by rw [ha.takes (by decide)]; exact ht)
    rw [hset.wearItem (by decide), hc.wearItem (by decide), hitem, State.wearItem_startWear, if_pos rfl, State.refound_value]
    rfl

end

/-- Settles O38. -/
theorem crankAttemptsEndInRetryOrFault : Obligations.CrankAttemptsEndInRetryOrFault := by
  intro s h
  refine ⟨fun ht => (State.powered_on h _).trans (congrArg _ (State.expireEngine_other ht)), fun hl hm ht => ?_,
    fun ht => (State.powered_on h _).trans (congrArg _ (State.expireEngine_other ht)), fun hl hm ht => ?_, fun retry payload w hears hh hf => ?_⟩
  · refine ⟨s.attemptFails, (State.powered_on h _).trans (congrArg _ (State.expireEngine_ended hl hm ht)), ?_⟩
    by_cases ha : s.esc.attempts < 3
    · obtain ⟨hesc, hnoted, honly⟩ := State.attemptFails_retries hm ha
      rw [hesc]
      exact ⟨rfl, rfl, fun _ => ⟨rfl, rfl, rfl, hnoted, honly⟩, fun hx => absurd hx (by omega)⟩
    · obtain ⟨hesc, hraised⟩ := State.attemptFails_faults hm (Mode.not_halted_of_live hl) (by omega)
      rw [hesc]
      exact ⟨rfl, rfl, fun hx => absurd hx ha, fun _ => ⟨rfl, rfl, hraised⟩⟩
  · obtain ⟨hesc, hoffer, hworn, honly⟩ := State.restExpires_spec hm
    exact ⟨s.restExpires, (State.powered_on h _).trans (congrArg _ (State.expireEngine_ended hl hm ht)), hesc, hoffer, hworn, honly⟩
  · intro r
    obtain ⟨y, hy, hrun⟩ := State.engine_hears hears hf retry
    let v := y.setEsc { y.esc with window := false }
    have hv : OnlyChanges [.esc] y v := by simp [v]
    have hesc : y.esc = s.esc := hy.only .esc (by decide)
    have hvesc : v.esc = { s.esc with window := false } := by simp [v, hesc]
    have hym : y.mode ≠ .halted := by
      rw [hy.only .mode (by decide)]
      exact hh
    have hvm : v.mode ≠ .halted := hym
    have hpar (p : Param) : v.par p = s.par p := (hv.par (by decide) p).trans (hy.only.par (by decide) p)
    have cranks (hm : s.esc.machine = .cranking) : y.engineReport r = v.reportInCranking r :=
      State.engineReport_cranking hym (by rw [hesc]; exact hm)
    have retries (hm : s.esc.machine = .retryWait) : y.engineReport r = v.reportInRetry r :=
      State.engineReport_retryWait hym (by rw [hesc]; exact hm)
    have hvcranking (hm : s.esc.machine = .cranking) : v.esc.machine = .cranking := by rw [hvesc]; exact hm
    refine ⟨_, hrun, fun hm hr => ?_, fun hm hr ha => ?_, fun hm hr ha => ?_, fun hm hr hr' => ?_, fun hm hr => ?_⟩
    · have hstart : y.engineReport r = v.startSucceeds r.coolant := by
        rcases hm with hm | hm
        · simp [cranks hm, State.reportInCranking, hr]
        · simp [retries hm, State.reportInRetry, hr]
      rw [hstart, State.startSucceeds_esc, hvesc, hpar]
    · have hfail : y.engineReport r = v.attemptFails := by simp [cranks hm, State.reportInCranking, hr]
      obtain ⟨he, -, -⟩ := State.attemptFails_retries (hvcranking hm) (by rw [hvesc]; exact ha)
      rw [hfail, he, hvesc, hpar]
    · have hfail : y.engineReport r = v.attemptFails := by simp [cranks hm, State.reportInCranking, hr]
      obtain ⟨he, hraised⟩ := State.attemptFails_faults (hvcranking hm) hvm (by rw [hvesc]; exact ha)
      rw [hfail]
      exact ⟨by rw [he, hvesc], hraised⟩
    · have hnone : y.engineReport r = v := by
        rw [cranks hm]
        unfold State.reportInCranking
        split <;> first | rfl | contradiction
      rw [hnone, hvesc]
    · have hnone : y.engineReport r = v := by rw [retries hm]; exact if_neg hr
      rw [hnone, hvesc]


/-! # Stops and ENG reports (O39) -/

section
variable {s t : State} {r : EngReport} {m : EngineState}

/-- The engine's entry to OFF or FAULT ends ENGINE_WAIT (R6). -/
theorem State.setEngine_saves (hne : s.esc.machine ≠ m) (hm : m = .off ∨ m = .fault) (hs : s.mode = .shutdown) (hp : s.progress = .engineWait) :
    (s.setEngine m).progress = .saving := by
  let u := (s.setEsc { s.esc with machine := m, offDwell := if m = .off then 0 else s.esc.offDwell }).notify .engine m.code
  let v := if s.esc.machine = .fault then u.endCauses [.crankFail, .stopFail] else u
  have hv : OnlyChanges [.esc, .faults, .notices] s v := by simp (disch := decide) [u, v]
  have hwaits : v.waitsForEngine m = true := by
    have h1 : v.mode = .shutdown := (hv .mode (by decide)).trans hs
    have h2 : v.progress = .engineWait := (hv .progress (by decide)).trans hp
    rcases hm with rfl | rfl <;> simp [State.waitsForEngine, h1, h2]
  have heq : s.setEngine m = if s.esc.machine = m then s else if v.waitsForEngine m then v.endEngineWait else v := rfl
  rw [heq, if_neg hne, if_pos hwaits]
  rfl

/-- An engine that leaves service is given no force (R142). -/
def State.dropForce (s : State) : State := if s.esc.machine.inService then s.offerNoForce else s

theorem State.dropForce_only (s : State) : OnlyChanges [.nlc] s s.dropForce := by
  unfold State.dropForce State.offerNoForce
  simp

theorem State.dropForce_offers (h : s.esc.machine.inService = true) : Offered s .eng .force [0, 0] .engine s.dropForce := by
  have heq : s.dropForce = s.offer .eng .force [0, 0] .engine := by
    unfold State.dropForce State.offerNoForce
    rw [if_pos h, forcePayload_zero]
  rw [heq]
  exact State.offered_offer _ _ _ _ s

/-- The engine has ended in OFF or FAULT on a report: its timers and causes, the force it is given, and the end of a wait (R6, R142). -/
structure EngineEnds (e : EngineUnit) (s t : State) : Prop where
  esc : t.esc = e
  force : s.esc.machine.inService = true → Offered s .eng .force [0, 0] .engine t
  saves : s.mode = .shutdown → s.progress = .engineWait → t.progress = .saving
  only : OnlyChanges [.progress, .nlc, .esc, .wear, .notices] s t

theorem State.ends_of (e : EngineUnit) (he : e.machine = s.esc.machine) (hm : m = .off ∨ m = .fault) (hne : s.esc.machine ≠ m)
    (hf : s.esc.machine ≠ .fault) : EngineEnds { e with machine := m, offDwell := if m = .off then 0 else e.offDwell } s
      ((s.dropForce.setEsc e).setEngine m) := by
  have hdrop := s.dropForce_only
  have hforce := State.dropForce_offers (s := s)
  generalize s.dropForce = u at hdrop hforce
  have hset : OnlyChanges [.esc] u (u.setEsc e) := by simp
  have hmach : (u.setEsc e).esc.machine = s.esc.machine := he
  have hlast := State.setEngine_keeps (s := u.setEsc e) (by rw [hmach]; exact hf) m
  refine ⟨?_, fun hin => ((hforce hin).after hset).after hlast, fun hs hp => ?_, (hdrop.mono (by decide)).trans
    ((hset.mono (by decide)).trans (hlast.mono (by decide)))⟩
  · rw [State.setEngine_esc, State.setEsc_esc, he]
    simp [hne]
  · refine State.setEngine_saves (by rw [hmach]; exact hne) hm ?_ ?_
    · exact (hset .mode (by decide)).trans ((hdrop .mode (by decide)).trans hs)
    · exact (hset .progress (by decide)).trans ((hdrop .progress (by decide)).trans hp)

/-- A stall outside STOPPING (R142). -/
theorem State.stall_spec (hoff : s.esc.machine ≠ .off) (hf : s.esc.machine ≠ .fault) :
    EngineEnds { s.esc with machine := .off, offDwell := 0, cooldownTimer := none, stopCause := none, latch := none } s s.stall := by
  have heq : s.stall = (s.dropForce.setEsc { s.dropForce.esc with cooldownTimer := none, stopCause := none, latch := none }).setEngine .off := rfl
  rw [heq, show s.dropForce.esc = s.esc from s.dropForce_only .esc (by decide)]
  exact State.ends_of { s.esc with cooldownTimer := none, stopCause := none, latch := none } rfl (.inl rfl) hoff hf

/-- A report of FAULT outside cranking (R142). -/
theorem State.reportedEngineFault_spec (hf : s.esc.machine ≠ .fault) :
    EngineEnds { s.esc with machine := .fault, cooldownTimer := none, stopTimer := none, stopCause := none, latch := none } s
      s.reportedEngineFault := by
  have heq : s.reportedEngineFault = (s.dropForce.setEsc { s.dropForce.esc with
    cooldownTimer := none, stopTimer := none, stopCause := none, latch := none }).setEngine .fault := rfl
  rw [heq, show s.dropForce.esc = s.esc from s.dropForce_only .esc (by decide)]
  exact State.ends_of { s.esc with cooldownTimer := none, stopTimer := none, stopCause := none, latch := none } rfl (.inr rfl) hf hf

/-- The first part of the end of a stop: OFF (R153). -/
def State.stopped (s : State) : State := (s.setEsc { s.esc with stopTimer := none, stopCause := none, latch := none }).setEngine .off

theorem State.stopped_spec (h : s.esc.machine = .stopping) :
    EngineEnds { s.esc with machine := .off, offDwell := 0, stopTimer := none, stopCause := none, latch := none } s s.stopped := by
  have hdrop : s.dropForce = s := if_neg (by rw [h]; decide)
  have hends := State.ends_of (s := s) (m := .off) { s.esc with stopTimer := none, stopCause := none, latch := none } rfl (.inl rfl)
    (by rw [h]; decide) (by rw [h]; decide)
  rw [hdrop] at hends
  exact hends

theorem State.stopEnds_eq (s : State) : s.stopEnds = match s.esc.latch with
    | some override => if s.stopped.latchAllowed override then s.stopped.enterCranking (hostCause override) else s.stopped
    | none => s.stopped.evaluateStart := rfl

/-- A stop ends in OFF where neither a latch nor a cause may crank (R144, R153). -/
theorem State.stopEnds_rests (h : s.esc.machine = .stopping)
    (hno : s.mode ≠ .ready ∨ (s.demand.zone = true ∧ s.esc.latch ≠ some true)) : s.stopEnds = s.stopped := by
  have hst := State.stopped_spec h
  have hmode : s.stopped.mode = s.mode := hst.only .mode (by decide)
  have hdemand : s.stopped.demand = s.demand := hst.only .demand (by decide)
  rw [State.stopEnds_eq]
  split
  · next override hl =>
    refine if_neg fun ha => ?_
    simp only [State.latchAllowed, Bool.and_eq_true, beq_iff_eq, Bool.or_eq_true, Bool.not_eq_true', hmode, hdemand] at ha
    obtain ⟨⟨⟨hm, -⟩, hz⟩, -⟩ := ha
    rcases hno with hx | ⟨hx, hy⟩
    · exact hx hm
    · rcases hz with hz | rfl
      · exact absurd (hx.symm.trans hz) (by decide)
      · exact hy hl
  · refine State.evaluateStart_off (by rw [hst.esc]) (.inl (Bool.eq_false_iff.mpr fun ha => ?_))
    obtain ⟨hz, hm, -⟩ := State.startAllowed_iff.mp ha
    rcases hno with hx | ⟨hx, -⟩
    · exact hx (hmode ▸ hm)
    · rw [hdemand] at hz
      exact absurd (hx.symm.trans hz) (by decide)

/-- A latched start cranks at OFF (R153). -/
theorem State.stopEnds_cranks {override : Bool} (h : s.esc.machine = .stopping) (hl : s.esc.latch = some override) (hm : s.mode = .ready)
    (hs : s.level ≠ .safeStop) (hz : s.demand.zone = false ∨ override = true) (hr : s.engReady = true) :
    Started s.stopped s.stopEnds (hostCause override) := by
  have hst := State.stopped_spec h
  have hnodes : s.stopped.nodes = s.nodes := hst.only .nodes (by decide)
  have hready : s.stopped.engReady = true := by
    unfold State.engReady
    rw [hnodes]
    exact hr
  have hallowed : s.stopped.latchAllowed override = true := by
    simp only [State.latchAllowed, Bool.and_eq_true, beq_iff_eq, Bool.or_eq_true, Bool.not_eq_true', bne_iff_ne]
    refine ⟨⟨⟨?_, ?_⟩, ?_⟩, hready⟩
    · exact (hst.only .mode (by decide)).trans hm
    · rw [hst.only.level (by decide)]
      exact hs
    · rw [show s.stopped.demand = s.demand from hst.only .demand (by decide)]
      exact hz
  have heq : s.stopEnds = s.stopped.enterCranking (hostCause override) := by
    rw [State.stopEnds_eq, hl]
    exact if_pos hallowed
  have hoff : s.stopped.esc.machine = .off := by rw [hst.esc]
  rw [heq]
  exact (State.enterCranking_spec (State.takes_of_engReady hready) (by rw [hoff]; decide) (by rw [hoff]; decide)).1

/-- The second end of the stop timer (R152). -/
theorem State.stopExpires_faults (h : s.esc.machine = .stopping) (hh : s.mode ≠ .halted) (hx : s.esc.stopExpiries ≠ 0) :
    s.stopExpires.esc = { s.esc with machine := .fault, stopTimer := none, latch := none, stopCause := none } ∧
      s.stopExpires.Raised .stopFail ∧ (s.mode = .shutdown → s.progress = .engineWait → s.stopExpires.progress = .saving) := by
  let v := s.setEsc { s.esc with stopTimer := none, latch := none, stopCause := none }
  let u := v.setEngine .fault
  have heq : s.stopExpires = u.raise .stopFail 2 := if_neg hx
  have hmv : v.esc.machine = .stopping := h
  have hv : OnlyChanges [.esc] s v := by simp [v]
  have hu := State.setEngine_keeps (s := v) (by rw [hmv]; decide) .fault
  have hesc : u.esc = { s.esc with machine := .fault, stopTimer := none, latch := none, stopCause := none } := by
    simp [u, v, State.setEngine_esc]
  have hmode : u.mode = s.mode := (hu .mode (by decide)).trans (hv .mode (by decide))
  rw [heq]
  refine ⟨(State.raise_esc (.inr (by rw [hesc]))).trans hesc, State.raised_raise (by rw [hmode]; exact hh) (by decide) 2, fun hs hp => ?_⟩
  rw [State.raise_only .stopFail 2 u .progress (by decide)]
  exact State.setEngine_saves (s := v) (by rw [hmv]; decide) (.inr rfl) hs hp

/-- What an ENG report does by the state of the machine, once the window has closed (R140). -/
theorem State.engineReport_eq (hm : s.mode ≠ .halted) : s.engineReport r =
    match s.esc.machine with
    | .off => if s.adopts r then (s.setEsc { s.esc with window := false }).setEngine (s.runningState r.coolant)
      else s.setEsc { s.esc with window := false }
    | .cranking => (s.setEsc { s.esc with window := false }).reportInCranking r
    | .retryWait => (s.setEsc { s.esc with window := false }).reportInRetry r
    | .warmup => (s.setEsc { s.esc with window := false }).reportInWarmup r
    | .run => (s.setEsc { s.esc with window := false }).reportInRun r
    | .cooldown => (s.setEsc { s.esc with window := false }).reportInRun r
    | .stopping => (s.setEsc { s.esc with window := false }).reportInStopping r
    | .fault => s.setEsc { s.esc with window := false } := by
  unfold State.engineReport
  rw [if_neg hm]
  rfl

end

/-- Settles O39. -/
theorem stopsEndInOffOrFault : Obligations.StopsEndInOffOrFault := by
  intro s h
  refine ⟨fun ht => (State.powered_on h _).trans (congrArg _ (State.expireEngine_other ht)), fun hl hm ht => ?_,
    fun ht => (State.powered_on h _).trans (congrArg _ (State.expireEngine_other ht)), fun hl hm ht => ?_, fun retry payload w hears hh hf => ?_⟩
  · let u := s.setEsc { s.esc with cooldownTimer := none }
    have hu : OnlyChanges [.esc] s u := by simp [u]
    have hmu : u.esc.machine = .cooldown := hm
    have hst : StopsEngine u s.cooldownExpires := State.enterStopping_spec (by rw [hmu]; decide) (by rw [hmu]; decide)
    exact ⟨s.cooldownExpires, (State.powered_on h _).trans (congrArg _ (State.expireEngine_ended hl hm ht)), hst.esc, hst.stop.before hu,
      hst.noted.before hu, (hu.mono (by decide)).trans hst.only⟩
  · refine ⟨s.stopExpires, (State.powered_on h _).trans (congrArg _ (State.expireEngine_ended hl hm ht)), fun hx => ?_, fun hx => ?_⟩
    · let u := s.offer .eng .command stopPayload .engine
      have hu : OnlyChanges [.nlc] s u := State.offer_only _ _ _ _ s
      have heq : s.stopExpires = u.setEsc { u.esc with stopTimer := some (u.par .tStop), stopExpiries := 1 } := if_pos hx
      have hset : OnlyChanges [.esc] u s.stopExpires := by rw [heq]; simp
      refine ⟨?_, (State.offered_offer .eng .command stopPayload .engine s).after hset, (hu.mono (by decide)).trans (hset.mono (by decide))⟩
      rw [heq, State.setEsc_esc, hu .esc (by decide), hu.par (by decide)]
    · obtain ⟨hesc, hraised, hsaves⟩ := State.stopExpires_faults hm (Mode.not_halted_of_live hl) hx
      rw [hesc]
      exact ⟨rfl, rfl, rfl, rfl, hraised, hsaves⟩
  · intro r here
    obtain ⟨y, hy, hrun⟩ := State.engine_hears hears hf retry
    let v := y.setEsc { y.esc with window := false }
    have hv : OnlyChanges [.esc] y v := by simp [v]
    have hesc : y.esc = s.esc := hy.only .esc (by decide)
    have hvesc : v.esc = { s.esc with window := false } := by simp [v, hesc]
    have hvm : v.esc.machine = here := by rw [hvesc]
    have hym : y.mode ≠ .halted := by
      rw [hy.only .mode (by decide)]
      exact hh
    have hmode : v.mode = s.mode := hy.only .mode (by decide)
    have hprogress : v.progress = s.progress := hy.only .progress (by decide)
    have hdemand : v.demand = s.demand := hy.only .demand (by decide)
    have hpar (p : Param) : y.par p = s.par p := hy.only.par (by decide) p
    have htakes : v.takes .eng = true := by
      rw [hv.takes (by decide)]
      simp [State.takes, hy.present, Presence.gone]
    have hreport := State.engineReport_eq (r := r) hym
    rw [hesc] at hreport
    -- The reports that end the engine, by the state they find.
    have stalls (hm : here = .warmup ∨ here = .run ∨ here = .cooldown) (hr : r.engine = .off) : y.engineReport r = v.stall := by
      rw [hreport]
      rcases hm with hm | hm | hm <;> rw [show s.esc.machine = _ from hm] <;> simp only [State.reportInWarmup, State.reportInRun, hr, v, hesc]
    have faults (hm : here = .warmup ∨ here = .run ∨ here = .cooldown ∨ here = .stopping) (hr : r.engine = .fault) :
        y.engineReport r = v.reportedEngineFault := by
      rw [hreport]
      rcases hm with hm | hm | hm | hm <;> rw [show s.esc.machine = _ from hm] <;>
        simp only [State.reportInWarmup, State.reportInRun, State.reportInStopping, hr, v, hesc]
    have stops (hm : here = .stopping) (hr : r.engine = .off) : y.engineReport r = v.stopEnds := by
      rw [hreport, show s.esc.machine = _ from hm]
      simp only [State.reportInStopping, hr, v, hesc]
    have stallSpec (hm : here = .warmup ∨ here = .run ∨ here = .cooldown) := State.stall_spec (s := v)
      (by rw [hvm]; rcases hm with hm | hm | hm <;> rw [hm] <;> decide) (by rw [hvm]; rcases hm with hm | hm | hm <;> rw [hm] <;> decide)
    have faultSpec (hm : here = .warmup ∨ here = .run ∨ here = .cooldown ∨ here = .stopping) := State.reportedEngineFault_spec (s := v)
      (by rw [hvm]; rcases hm with hm | hm | hm | hm <;> rw [hm] <;> decide)
    refine ⟨_, hrun, fun hm => ?_, fun hm hr => ?_, fun hm hr => ?_, fun hm hr => ?_, fun hm hr => ?_, fun hm => ?_, fun hm hr hno => ?_,
      fun override hm hr hlatch hrd hlev hz hready => ?_, fun hsd hp hm hr => ?_⟩
    · rw [hreport, show s.esc.machine = _ from hm]
      have hadopts : y.adopts r = true ↔ s.esc.window = true ∧ r.engine = .running ∧ (s.mode = .standby ∨ s.mode = .ready) := by
        simp only [State.adopts, hesc, show y.mode = s.mode from hmode, show s.esc.machine = .off from hm, Bool.and_eq_true, beq_iff_eq,
          Bool.or_eq_true, and_true, and_assoc]
      dsimp only
      by_cases ha : s.esc.window = true ∧ r.engine = .running ∧ (s.mode = .standby ∨ s.mode = .ready)
      · have hne : y.runningState r.coolant ≠ .off := by
          unfold State.runningState
          split <;> decide
        rw [if_pos (hadopts.mpr ha), if_pos ha, State.setEngine_esc]
        simp only [State.setEsc_esc, hne, and_false, if_false]
        simp only [State.runningState, hpar]
      · rw [if_neg (fun hx => ha (hadopts.mp hx)), if_neg ha, State.setEsc_esc, ← show s.esc.machine = .off from hm]
    · rw [hreport, show s.esc.machine = _ from hm]
      dsimp only
      simp only [State.reportInWarmup, hr]
      have hwarm : (y.setEsc { s.esc with window := false }).par .tWarm = s.par .tWarm := hpar .tWarm
      rw [hwarm]
      split
      · rw [State.setEngine_esc]
        simp
      · rw [State.setEsc_esc, ← show s.esc.machine = .warmup from hm]
    · rw [stalls hm hr, (stallSpec hm).esc, hvesc]
    · rw [faults hm hr, (faultSpec hm).esc, hvesc]
    · have hin : v.esc.machine.inService = true := by rw [hvm]; rcases hm with hm | hm <;> rw [hm] <;> rfl
      rcases hr with hr | hr
      · have hm' : here = .warmup ∨ here = .run ∨ here = .cooldown := hm.elim .inl (fun hx => .inr (.inl hx))
        rw [stalls hm' hr]
        exact (stallSpec hm').force hin htakes
      · have hm' : here = .warmup ∨ here = .run ∨ here = .cooldown ∨ here = .stopping := hm.elim .inl (fun hx => .inr (.inl hx))
        rw [faults hm' hr]
        exact (faultSpec hm').force hin htakes
    · have hstands : y.engineReport r = y.setEsc { s.esc with window := false } := by
        rw [hreport]
        rcases hm with ⟨hm, hr⟩ | ⟨hm, hr⟩ | ⟨hm, hr⟩ | ⟨hm, hr⟩ | hm
        · rw [show s.esc.machine = _ from hm]
          simp only [State.reportInRun, hr]
        · rw [show s.esc.machine = _ from hm]
          simp only [State.reportInRun, hr]
        · rw [show s.esc.machine = _ from hm]
          simp only [State.reportInStopping, hr]
        · simp only [List.mem_cons, List.not_mem_nil, or_false] at hm
          rcases hm with hm | hm | hm | hm <;> rw [show s.esc.machine = _ from hm] <;> rcases hr with hr | hr <;>
            simp only [State.reportInWarmup, State.reportInRun, State.reportInStopping, hr]
        · rw [show s.esc.machine = _ from hm]
      rw [hstands, State.setEsc_esc]
    · have hmv : v.esc.machine = .stopping := hvm.trans hm
      have hrest : v.stopEnds = v.stopped := State.stopEnds_rests hmv (by rw [hmode, hdemand, hvesc]; exact hno)
      rw [stops hm hr, hrest, (State.stopped_spec hmv).esc, hvesc]
    · have hmv : v.esc.machine = .stopping := hvm.trans hm
      have hlevel : v.level ≠ .safeStop := fun hx => hlev (hy.level hx)
      have hengready : v.engReady = true := by
        have hp : y.nodes.eng.presence = .present := hy.present
        have hrep : y.nodes.engReport = some r := hy.report
        show (y.nodes.eng.presence == .present && (match y.nodes.engReport with | some r => r.flags.ready | none => false)) = true
        rw [hp, hrep]
        exact hready
      have hst := State.stopEnds_cranks hmv (by rw [hvesc]; exact hlatch) (hmode.trans hrd) hlevel (by rw [hdemand]; exact hz) hengready
      rw [stops hm hr]
      refine ⟨by rw [hst.esc], by rw [hst.esc], by rw [hst.esc], ?_, by rw [hst.esc]; rfl, hst.start⟩
      rw [hst.esc, (State.stopped_spec hmv).esc]
    · have hsv : v.mode = .shutdown := hmode.trans hsd
      have hpv : v.progress = .engineWait := hprogress.trans hp
      simp only [List.mem_cons, List.not_mem_nil, or_false] at hm
      rcases hr with hr | hr
      · by_cases hst : here = .stopping
        · have hmv : v.esc.machine = .stopping := hvm.trans hst
          have hrest : v.stopEnds = v.stopped := State.stopEnds_rests hmv (.inl (by rw [hsv]; decide))
          rw [stops hst hr, hrest]
          exact (State.stopped_spec hmv).saves hsv hpv
        · have hm' : here = .warmup ∨ here = .run ∨ here = .cooldown := by
            rcases hm with hm | hm | hm | hm
            · exact .inl hm
            · exact .inr (.inl hm)
            · exact .inr (.inr hm)
            · exact absurd hm hst
          rw [stalls hm' hr]
          exact (stallSpec hm').saves hsv hpv
      · rw [faults hm hr]
        exact (faultSpec hm).saves hsv hpv

end Sys2Proof.Machine

/-! Park and save; a parameter set; the freshness timer; the tick. -/

namespace Sys2Proof.Machine

-- In order: proofs elaborated side by side wait for one another in too many threads.
set_option Elab.async false

/-! ## 1. The end of a save (O42) -/

section
variable {s : State} {j : NoticeKind}

theorem SaveJob.verified_iff (job : SaveJob) (readBack : Option (List Byte)) :
    job.verified readBack = true ↔ readBack = none ∨ readBack = some job.image := by
  cases readBack <;> simp [SaveJob.verified]

/-- What a save leaves: its result, the store as it reads back, and the wear unit with the waiting save begun (R184, R185). -/
theorem State.endSave_spec (job : SaveJob) (readBack : Option (List Byte)) (s : State) :
    (s.endSave job readBack).wear = ({ s.wear with
      lastSave := if job.verified readBack then .pass else .fail, save := none, store := job.written readBack } : WearUnit).beginWaiting ∧
    Noted .store (if job.verified readBack then 0 else 1) s (s.endSave job readBack) ∧
    (∀ k, k ≠ .store → (s.endSave job readBack).noticeOf k = s.noticeOf k) ∧
    OnlyChanges [.wear, .notices] s (s.endSave job readBack) := by
  refine ⟨rfl, ?_, fun k hk => ?_, by simp⟩
  · exact State.noticeOf_notify_same (s.setWear _) .store _
  · exact State.noticeOf_notify_other (s.setWear _) _ hk

theorem WearUnit.beginWaiting_kept (w : WearUnit) : w.beginWaiting.lastSave = w.lastSave ∧ w.beginWaiting.store = w.store := by
  unfold WearUnit.beginWaiting
  split <;> exact ⟨rfl, rfl⟩

theorem State.noticeOf_parkNodes (hc : j ≠ .faultCleared) (hr : j ≠ .restriction) (s : State) :
    s.parkNodes.noticeOf j = s.noticeOf j := by
  have hset : OnlyChanges [.nodes] s (s.setNodes .initial) := by simp
  exact (State.noticeOf_endCauses _ hc hr _).trans (hset.noticeOf (by decide) _)

theorem State.noticeOf_parkUnits (hc : j ≠ .faultCleared) (hr : j ≠ .restriction) (s : State) :
    s.parkUnits.noticeOf j = s.noticeOf j := by
  have hnodes := State.noticeOf_parkNodes hc hr s
  unfold State.parkUnits State.endReserve
  dsimp only
  generalize s.parkNodes = d at hnodes
  have he : OnlyChanges [.demand, .bbu] d ((d.setDemand d.demand.park).setBbu d.bbu.park) := by simp
  generalize (d.setDemand d.demand.park).setBbu d.bbu.park = e at he
  have hf := State.noticeOf_endCause .frictionSaturated hc hr e
  generalize e.endCause .frictionSaturated = f at hf
  have hset : OnlyChanges [.faults] f (f.setFaults { f.faults with reserve := false }) := by simp
  rw [State.noticeOf_endCause _ hc hr, hset.noticeOf (by decide), hf, he.noticeOf (by decide), hnodes]

/-- PARKED entry but for the framer, KEEP and the clock. -/
def State.parkBody (s : State) : State := ((s.enterMode .parked).setProgress .idle).parkLink.parkUnits

theorem State.enterParked_body (s : State) :
    s.enterParked = ((s.parkBody.setHli { s.parkBody.hli with framer := .hunt }).setKeep false).slowDown := by
  simp only [State.enterParked, State.parkBody, State.parkUnits]

theorem State.noticeOf_enterMode (m : Mode) (h : j ≠ .mode) (s : State) : (s.enterMode m).noticeOf j = s.noticeOf j := by
  have hn : ((s.setMode m).notify .mode m.code).noticeOf j = s.noticeOf j := State.noticeOf_notify_other _ _ h
  unfold State.enterMode
  dsimp only
  split
  · exact hn
  · have hset : OnlyChanges [.hli] ((s.setMode m).notify .mode m.code)
        (((s.setMode m).notify .mode m.code).setHli { ((s.setMode m).notify .mode m.code).hli with access := .drive }) := by simp
    exact (hset.noticeOf (by decide) j).trans hn

/-- PARKED as entered by a state with any reply line (R8). -/
structure Parks (s t : State) : Prop where
  mode : t.mode = .parked
  keep : t.keep = false
  nodes : t.nodes = .initial
  noted : Noted .mode 0 s t
  notices : ∀ j, j ≠ .mode → j ≠ .faultCleared → j ≠ .restriction → t.noticeOf j = s.noticeOf j
  wear : t.wear = s.wear
  slow : s.waking = false → s.hli.line = [] → s.hli.slots = #v[none, none, none, none] → s.abortedReplies = [] → t.slowClock = true

theorem State.parkBody_spec (s : State) : s.parkBody.mode = .parked ∧ s.parkBody.nodes = .initial ∧ Noted .mode 0 s s.parkBody ∧
    (∀ j, j ≠ .mode → j ≠ .faultCleared → j ≠ .restriction → s.parkBody.noticeOf j = s.noticeOf j) ∧
    (s.hli.ordered → LineGrows s.abortedReplies s s.parkBody) ∧
    OnlyChanges [.mode, .progress, .hli, .demand, .nlc, .nodes, .bbu, .faults, .notices] s s.parkBody := by
  unfold State.parkBody
  obtain ⟨hmode, hnoted, hhli⟩ := State.enterMode_spec .parked s
  have hothers (j : NoticeKind) (hj : j ≠ .mode) := State.noticeOf_enterMode .parked hj s
  have ha : OnlyChanges [.mode, .hli, .notices] s (s.enterMode .parked) := by simp
  generalize s.enterMode .parked = a at hmode hnoted hhli ha hothers
  have hb : OnlyChanges [.progress] a (a.setProgress .idle) := by simp
  generalize a.setProgress .idle = b at hb
  have hc : OnlyChanges [.hli, .nlc] b b.parkLink := by simp
  have hgrows (ho : b.hli.ordered) := (State.parkLink_spec ho).1
  generalize b.parkLink = c at hc hgrows
  have hunits := State.parkUnits_spec c
  have hquiet (j : NoticeKind) (h1 : j ≠ .faultCleared) (h2 : j ≠ .restriction) := State.noticeOf_parkUnits h1 h2 c
  generalize c.parkUnits = d at hunits hquiet
  have hac : OnlyChanges [.progress, .hli, .nlc] a c := (hb.mono (by decide)).trans (hc.mono (by decide))
  have hbhli : b.hli = { s.hli with access := .drive } := (hb .hli (by decide)).trans hhli
  have hnlc : b.nlc = s.nlc := (hb .nlc (by decide)).trans (ha .nlc (by decide))
  have hdue : b.abortedReplies = s.abortedReplies := by
    unfold State.abortedReplies
    rw [hnlc]
  refine ⟨?_, hunits.nodes, ?_, fun j hj h1 h2 => ?_, fun ho => ?_,
    (ha.mono (by decide)).trans ((hac.mono (by decide)).trans (hunits.only.mono (by decide)))⟩
  · exact (hunits.only .mode (by decide)).trans ((hac .mode (by decide)).trans hmode)
  · exact (hunits.noted.trans (hac.noticeOf (by decide) _)).trans hnoted
  · exact (hquiet j h1 h2).trans ((hac.noticeOf (by decide) _).trans (hothers j hj))
  · have hstart : LineGrows [] s b := (LineGrows.refl ho).access .drive hbhli
    have hlink := hgrows (by rw [hbhli]; exact ho)
    rw [hdue] at hlink
    exact (hstart.trans hlink).after hunits.only

theorem State.enterParked_parks (s : State) : Parks s s.enterParked := by
  rw [State.enterParked_body]
  obtain ⟨hmode, hnodes, hnoted, hquiet, hgrows, honly⟩ := s.parkBody_spec
  generalize s.parkBody = g at hmode hnodes hnoted hquiet hgrows honly
  generalize hv : (g.setHli { g.hli with framer := .hunt }).setKeep false = v
  have hgv : OnlyChanges [.hli, .keep] g v := by rw [← hv]; simp
  have hvhli : v.hli = { g.hli with framer := .hunt } := by rw [← hv]; rfl
  have hkeep : v.keep = false := by rw [← hv]; rfl
  have hlast : OnlyChanges [.slowClock] v v.slowDown := by simp
  have hgt : OnlyChanges [.hli, .keep, .slowClock] g v.slowDown := (hgv.mono (by decide)).trans (hlast.mono (by decide))
  refine ⟨?_, ?_, ?_, ?_, fun j h0 h1 h2 => ?_, ?_, fun hw hl hs ha => ?_⟩
  · exact (hgt .mode (by decide)).trans hmode
  · exact (hlast .keep (by decide)).trans hkeep
  · exact (hgt .nodes (by decide)).trans hnodes
  · exact (hgt.noticeOf (by decide) _).trans hnoted
  · exact (hgt.noticeOf (by decide) _).trans (hquiet j h0 h1 h2)
  · exact (hgt .wear (by decide)).trans (honly .wear (by decide))
  · -- No reply was due, so none is: the line and the slots stand empty.
    have hempty : s.hli.ordered := fun _ => (List.append_eq_nil_iff.mp hl).2
    have hline := (hgrows hempty).line
    rw [hl, ha] at hline
    rw [State.slowDown_slowClock, if_pos]
    refine ⟨(hgv .mode (by decide)).trans hmode, ?_, ?_⟩
    · rw [hgv .waking (by decide), honly .waking (by decide)]
      exact hw
    · rw [HostLink.settled_iff, hvhli]
      exact ⟨hline, (hgrows hempty).slots.trans hs⟩

theorem State.saveCompletes_some {job : SaveJob} (readBack : Option (List Byte)) (h : s.wear.save = some job) :
    s.saveCompletes readBack = if s.endsShutdown job then (s.endSave job readBack).enterParked else s.endSave job readBack := by
  simp only [State.saveCompletes, h]

theorem State.endsShutdown_iff (job : SaveJob) :
    s.endsShutdown job = true ↔ job.triggers.shutdown = true ∧ s.mode = .shutdown ∧ s.progress = .saving := by
  simp [State.endsShutdown, and_assoc]

end

/-- Settles O42. -/
theorem saveCompletionParksAShutdown : Obligations.SaveCompletionParksAShutdown := by
  intro readBack job s h
  refine ⟨fun hjob => ?_, fun hnone => (State.powered_on h _).trans (congrArg _ (by simp only [State.saveCompletes, hnone]))⟩
  have hrun : exec (.saveComplete readBack) s = .next (s.saveCompletes readBack) := State.powered_on h _
  rw [State.saveCompletes_some readBack hjob] at hrun
  obtain ⟨hwear, hnoted, hothers, honly⟩ := State.endSave_spec job readBack s
  generalize s.endSave job readBack = u at hrun hwear hnoted hothers honly
  -- PARKED entry leaves the wear unit and notice STORE as the end of the save gives them.
  obtain ⟨t, ht, hsave, hstore, hparks, hstays⟩ : ∃ t, exec (.saveComplete readBack) s = .next t ∧ t.wear = u.wear ∧
      t.noticeOf .store = u.noticeOf .store ∧ (s.endsShutdown job = true → Parks u t) ∧ (s.endsShutdown job = false → t = u) := by
    have hp := State.enterParked_parks u
    generalize u.enterParked = v at hrun hp
    cases hends : s.endsShutdown job with
    | true =>
      rw [hends, if_pos rfl] at hrun
      exact ⟨v, hrun, hp.wear, hp.notices .store (by decide) (by decide) (by decide), fun _ => hp, nofun⟩
    | false =>
      rw [hends, if_neg Bool.false_ne_true] at hrun
      exact ⟨u, hrun, rfl, rfl, nofun, fun _ => rfl⟩
  have hkept := WearUnit.beginWaiting_kept ({ s.wear with
    lastSave := if job.verified readBack then .pass else .fail, save := none, store := job.written readBack } : WearUnit)
  rw [← hwear, ← hsave] at hkept
  obtain ⟨hlast, hcontents⟩ := hkept
  have hnotedT : Noted .store (if job.verified readBack then 0 else 1) s t := hstore.trans hnoted
  refine ⟨t, ht, ⟨fun hok => ?_, fun hbad => ?_⟩, ?_, fun hw => ?_, fun tr hw => ?_, fun hsd hm hp => ?_, fun hno => ?_⟩
  · rw [(job.verified_iff readBack).mpr hok] at hlast hnotedT
    refine ⟨hlast, hcontents.trans ?_, hnotedT⟩
    rcases hok with hr | hr <;> rw [hr] <;> rfl
  · rw [Bool.eq_false_iff.mpr (mt (job.verified_iff readBack).mp hbad)] at hlast hnotedT
    refine ⟨hlast, hcontents.trans ?_, hnotedT⟩
    cases readBack with
    | none => exact absurd (.inl rfl) hbad
    | some bs => rfl
  · rw [hsave, hwear, WearUnit.beginWaiting_items]
  · rw [hsave, hwear, WearUnit.beginWaiting_none (by exact hw)]
    exact ⟨rfl, rfl⟩
  · rw [hsave, hwear, WearUnit.beginWaiting_some (by exact hw)]
    exact ⟨rfl, rfl, rfl⟩
  · have hp := hparks ((State.endsShutdown_iff job).mpr ⟨hsd, hm, hp⟩)
    have hnlc : u.nlc = s.nlc := honly .nlc (by decide)
    refine ⟨hp.mode, hp.keep, hp.nodes, ?_, fun hw hl hs ha => hp.slow ?_ ?_ ?_ ?_⟩
    · exact hp.noted.trans (by rw [hothers .mode (by decide)])
    · rw [honly .waking (by decide)]
      exact hw
    · rw [honly .hli (by decide)]
      exact hl
    · rw [honly .hli (by decide)]
      exact hs
    · rw [← ha]
      unfold State.abortedReplies
      rw [hnlc]
  · have hne : s.endsShutdown job = false := by
      rw [Bool.eq_false_iff, ne_eq, State.endsShutdown_iff]
      rintro ⟨h1, h2, -⟩
      rcases hno with hno | hno
      · exact absurd (h1.symm.trans hno) nofun
      · exact hno h2
    rw [hstays hne]
    exact honly


/-! ## 2. The entry a raise makes, and the reserve watch (R192, R193, R196, R197) -/

section
variable {s t u : State} {j k : FaultKind} {detail : Nat} {bs : List Block}

theorem find_map_of_keeps {α : Type} {p : α → Bool} {f : α → α} (hp : ∀ a, p (f a) = p a) (l : List α) :
    (l.map f).find? p = (l.find? p).map f := by
  rw [List.find?_map]
  congr 2
  exact funext hp

theorem FaultUnit.entry_addRaise_new (f : FaultUnit) (detail : Nat) (now : Time) (h : f.entry k = none) :
    (f.addRaise k detail now).entry k = some (f.newEntry k detail now) := by
  have heq : f.addRaise k detail now = { f with active := f.active ++ [f.newEntry k detail now] } := by simp only [FaultUnit.addRaise, h]
  rw [heq]
  unfold FaultUnit.entry at h ⊢
  rw [List.find?_append, h]
  simp [FaultUnit.newEntry]

theorem FaultUnit.entry_addRaise_again {f : FaultUnit} {e : ActiveFault} (detail : Nat) (now : Time) (h : f.entry k = some e) :
    (f.addRaise k detail now).entry k = some (e.again detail) := by
  have heq : f.addRaise k detail now = { f with active := f.active.map (fun e => if e.kind = k then e.again detail else e) } := by
    simp only [FaultUnit.addRaise, h]
  have hk : e.kind = k := by simpa using List.find?_some h
  rw [heq]
  unfold FaultUnit.entry at h ⊢
  rw [find_map_of_keeps (fun a => by split <;> rfl), h]
  simp [hk]

theorem FaultUnit.entry_addRaise_other (f : FaultUnit) (detail : Nat) (now : Time) (h : k ≠ j) :
    (f.addRaise j detail now).entry k = f.entry k := by
  unfold FaultUnit.addRaise
  split
  · unfold FaultUnit.entry
    rw [List.find?_append]
    simp [FaultUnit.newEntry, h.symm]
  · unfold FaultUnit.entry
    rw [find_map_of_keeps (fun a => by split <;> rfl)]
    cases he : f.active.find? (fun e => e.kind == k) with
    | none => rfl
    | some e =>
      have hk : e.kind = k := by simpa using List.find?_some he
      simp [hk, h]

theorem FaultUnit.entry_remove_other (f : FaultUnit) (h : k ≠ j) : (f.remove j).entry k = f.entry k := by
  unfold FaultUnit.remove FaultUnit.entry
  rw [List.find?_filter]
  congr 1
  funext e
  by_cases hk : e.kind = k <;> simp [hk, h]

theorem FaultUnit.entry_dropCause_other (f : FaultUnit) (h : k ≠ j) : (f.dropCause j).entry k = f.entry k := by
  unfold FaultUnit.dropCause FaultUnit.entry
  rw [find_map_of_keeps (fun a => by split <;> rfl)]
  cases he : f.active.find? (fun e => e.kind == k) with
  | none => rfl
  | some e =>
    have hk : e.kind = k := by simpa using List.find?_some he
    simp [hk, h]

/-- What a raise or an end of cause of another kind leaves: this kind's entry, the reserve mark and the response table. -/
structure KeepsEntry (k : FaultKind) (s t : State) : Prop where
  entry : t.faults.entry k = s.faults.entry k
  reserve : t.faults.reserve = s.faults.reserve
  response : t.faults.response = s.faults.response

theorem KeepsEntry.of_eq (h : t.faults = s.faults) : KeepsEntry k s t := by constructor <;> rw [h]

theorem KeepsEntry.refl (s : State) : KeepsEntry k s s := .of_eq rfl

theorem KeepsEntry.trans (h : KeepsEntry k s t) (h' : KeepsEntry k t u) : KeepsEntry k s u :=
  ⟨h'.entry.trans h.entry, h'.reserve.trans h.reserve, h'.response.trans h.response⟩

theorem KeepsEntry.raiseCore (h : k ≠ j) (detail : Nat) (s : State) : KeepsEntry k s (s.raiseCore j detail) := by
  by_cases hm : s.mode = .halted
  · rw [show s.raiseCore j detail = s from if_pos hm]
    exact .refl s
  · have hf := State.raiseCore_faults hm j detail
    refine ⟨?_, ?_, ?_⟩ <;> rw [hf]
    · exact FaultUnit.entry_addRaise_other _ _ _ h
    all_goals unfold FaultUnit.addRaise; split <;> rfl

theorem KeepsEntry.endCause (h : k ≠ j) (s : State) : KeepsEntry k s (s.endCause j) := by
  unfold State.endCause
  split
  · exact .refl s
  · split
    · exact .refl s
    · split
      · exact ⟨FaultUnit.entry_dropCause_other _ h, rfl, rfl⟩
      · have hf : (s.removeFault j).faults = s.faults.remove j := State.noteRestriction_faults _ _
        refine ⟨?_, ?_, ?_⟩ <;> rw [hf]
        · exact FaultUnit.entry_remove_other _ h
        all_goals rfl

theorem KeepsEntry.saturation_id (h : k ≠ .frictionSaturated) (r : BlendResult) (s : State) : KeepsEntry k s (s.saturation id r) := by
  unfold State.saturation
  split
  · have hset : KeepsEntry k s (s.setBbu { s.bbu with saturated := true }) := .of_eq rfl
    have hraise := hset.trans (KeepsEntry.raiseCore h r.shortDetail _)
    unfold State.raiseWith
    dsimp only
    split
    · exact hraise.trans (.of_eq ((State.safeCause_engine _).only .faults (by decide)))
    · exact hraise
  · split
    · have hset : KeepsEntry k s (s.setBbu { s.bbu with saturated := false }) := .of_eq rfl
      exact hset.trans (.endCause h _)
    · exact .refl s

theorem KeepsEntry.cutReblend (h : k ≠ .frictionSaturated) (slipCut : Bool) (s : State) : KeepsEntry k s (s.cutReblend slipCut) := by
  unfold State.cutReblend
  split
  · rw [State.applyBlend_eq]
    exact (KeepsEntry.of_eq (State.driveBlend_only .faults (by decide))).trans (.saturation_id h _ _)
  · exact .refl s

/-- What a raise hands on keeps the entry that the raise has made, and the reserve mark. -/
theorem State.raise_entry (h : k ≠ .frictionSaturated) (j : FaultKind) (detail : Nat) (s : State) :
    KeepsEntry k (s.raiseCore j detail) (s.raise j detail) := by
  cases hb : becameSafeStop s (s.raiseCore j detail)
  · rw [State.raise_rests hb]
    exact .refl _
  · rw [State.raise_stops hb]
    exact (KeepsEntry.cutReblend h _ _).trans (.of_eq ((State.safeCause_engine _).only .faults (by decide)))

theorem State.entry_raise_new (h : k ≠ .frictionSaturated) (hm : s.mode ≠ .halted) (detail : Nat) (he : s.faults.entry k = none) :
    (s.raise k detail).faults.entry k = some (s.faults.newEntry k detail s.runTime) := by
  rw [(State.raise_entry h k detail s).entry, State.raiseCore_faults hm, FaultUnit.entry_addRaise_new _ _ _ he]

theorem State.entry_raise_again {e : ActiveFault} (h : k ≠ .frictionSaturated) (hm : s.mode ≠ .halted) (detail : Nat)
    (he : s.faults.entry k = some e) : (s.raise k detail).faults.entry k = some (e.again detail) := by
  rw [(State.raise_entry h k detail s).entry, State.raiseCore_faults hm, FaultUnit.entry_addRaise_again _ _ he]

theorem State.reserve_raise (k : FaultKind) (detail : Nat) (s : State) : (s.raise k detail).faults.reserve = s.faults.reserve := by
  rw [(State.raise_entry (k := .zoneReserve) (by decide) k detail s).reserve]
  by_cases hm : s.mode = .halted
  · rw [show s.raiseCore k detail = s from if_pos hm]
  · rw [State.raiseCore_faults hm]
    unfold FaultUnit.addRaise
    split <;> rfl

/-- A raise takes the level to SAFE_STOP when it makes an entry of that level below it (R192, R195). -/
theorem State.becameSafeStop_iff (hm : s.mode ≠ .halted) :
    becameSafeStop s (s.raiseCore k detail) = true ↔ s.RaiseStops k := by
  simp only [becameSafeStop, Bool.and_eq_true, bne_iff_ne, ne_eq, beq_iff_eq, State.RaiseStops]
  refine and_congr_right fun hbelow => ?_
  rw [State.level_safeStop_iff] at hbelow ⊢
  unfold State.Faulted at hbelow ⊢
  rw [State.raiseCore_faults hm]
  unfold FaultUnit.addRaise
  split
  · next hn =>
    refine ⟨fun ⟨e, he, hl⟩ => ⟨hn, ?_⟩, fun ⟨_, hl⟩ => ⟨_, List.mem_append_right _ (List.mem_singleton.mpr rfl), hl⟩⟩
    rcases List.mem_append.mp he with he | he
    · exact absurd ⟨e, he, hl⟩ hbelow
    · rw [List.mem_singleton.mp he] at hl
      exact hl
  · next e he =>
    refine ⟨fun ⟨x, hx, hl⟩ => ?_, fun ⟨hn, _⟩ => absurd (he.symm.trans hn) nofun⟩
    obtain ⟨y, hy, rfl⟩ := List.mem_map.mp hx
    refine absurd ⟨y, hy, ?_⟩ hbelow
    split at hl <;> exact hl

/-- The reserve watch by what it finds (R197). -/
theorem State.reserveWatch_raises {soc : Nat} (hs : s.nodes.socSeen = some soc) (hz : s.demand.zone = true)
    (hr : s.faults.reserve = false) (hl : soc < s.par .socReserve) :
    s.reserveWatch = (s.setFaults { s.faults with reserve := true }).raise .zoneReserve (soc / 10) := by
  simp only [State.reserveWatch, hs, hz, hr, hl, Bool.true_eq_false, Bool.false_eq_true, if_false, if_true]

theorem State.reserveWatch_ends {soc : Nat} (hs : s.nodes.socSeen = some soc) (hz : s.demand.zone = true)
    (hr : s.faults.reserve = true) (hl : s.par .socReserve + 20 ≤ soc) : s.reserveWatch = s.endReserve := by
  simp only [State.reserveWatch, hs, hz, hr, hl, Bool.true_eq_false, if_false, if_true, State.endReserve]

theorem State.reserveWatch_rests (h : s.demand.zone = false ∨ s.nodes.socSeen = none ∨
    (∃ soc, s.nodes.socSeen = some soc ∧ s.faults.reserve = false ∧ s.par .socReserve ≤ soc) ∨
    (∃ soc, s.nodes.socSeen = some soc ∧ s.faults.reserve = true ∧ soc < s.par .socReserve + 20)) : s.reserveWatch = s := by
  unfold State.reserveWatch
  rcases h with hz | hs | ⟨soc, hs, hr, hl⟩ | ⟨soc, hs, hr, hl⟩
  · simp only [hz, if_true]
    split <;> rfl
  · rw [hs]
  · simp [hs, hr, Nat.not_lt.mpr hl]
  · simp [hs, hr, Nat.not_le.mpr hl]

theorem State.reserveWatch_only (s : State) : OnlyChanges [.nlc, .bbu, .esc, .log, .wear, .faults, .notices] s s.reserveWatch := by
  have hset (b : Bool) : OnlyChanges [.faults] s (s.setFaults { s.faults with reserve := b }) := by simp
  unfold State.reserveWatch
  split
  · exact .refl _ s
  · split
    · exact .refl _ s
    · split
      · split
        · exact ((hset false).mono (by decide)).trans ((State.endCause_only _ _).mono (by decide))
        · exact .refl _ s
      · split
        · exact ((hset true).mono (by decide)).trans (State.raise_only _ _ _)
        · exact .refl _ s

/-- The examination of the SOC below READY's halt: the mark, the entry and what else changes (R197). -/
structure ReserveWatched (s t : State) : Prop where
  examined : ReserveExamined s t
  only : OnlyChanges [.nlc, .bbu, .esc, .log, .wear, .faults, .notices] s t
  quiet : ¬s.RaiseStops .zoneReserve ∨ t.faults.reserve = s.faults.reserve → OnlyChanges [.faults, .notices] s t
  same : t.faults.reserve = s.faults.reserve → t = s

theorem State.reserveWatch_spec (hm : s.mode ≠ .halted) : ReserveWatched s s.reserveWatch := by
  have hwatch := State.reserveWatch_only s
  have hsoc : s.reserveWatch.nodes.socSeen = s.nodes.socSeen := congrArg _ (hwatch .nodes (by decide))
  have hzone : s.reserveWatch.demand.zone = s.demand.zone := congrArg _ (hwatch .demand (by decide))
  have hpar : s.reserveWatch.par .socReserve = s.par .socReserve := hwatch.par (by decide) _
  by_cases hrest : s.demand.zone = false ∨ s.nodes.socSeen = none ∨
      (∃ soc, s.nodes.socSeen = some soc ∧ s.faults.reserve = false ∧ s.par .socReserve ≤ soc) ∨
      (∃ soc, s.nodes.socSeen = some soc ∧ s.faults.reserve = true ∧ soc < s.par .socReserve + 20)
  · have h := State.reserveWatch_rests hrest
    rw [h]
    refine ⟨⟨fun soc hs hz hr hl => ?_, fun soc hs hz hr hl => ?_, fun _ => ⟨rfl, rfl⟩⟩, .refl _ s, fun _ => .refl _ s, fun _ => rfl⟩
    all_goals
      rcases hrest with h1 | h1 | ⟨soc', h1, h2, h3⟩ | ⟨soc', h1, h2, h3⟩ <;> simp_all
    all_goals omega
  · obtain ⟨hz, hsome, hlow, hhigh⟩ : s.demand.zone = true ∧ s.nodes.socSeen ≠ none ∧
        (∀ soc, s.nodes.socSeen = some soc → s.faults.reserve = false → soc < s.par .socReserve) ∧
        (∀ soc, s.nodes.socSeen = some soc → s.faults.reserve = true → s.par .socReserve + 20 ≤ soc) := by
      simp only [not_or, not_exists, not_and, Nat.not_le, Nat.not_lt, Bool.not_eq_false] at hrest
      exact hrest
    obtain ⟨soc, hs⟩ := Option.ne_none_iff_exists'.mp hsome
    have hset (b : Bool) : OnlyChanges [.faults] s (s.setFaults { s.faults with reserve := b }) := by simp
    cases hr : s.faults.reserve with
    | false =>
      have hl := hlow soc hs hr
      have heq := State.reserveWatch_raises hs hz hr hl
      have hu := hset true
      have hunlc : (s.setFaults { s.faults with reserve := true }).faults = { s.faults with reserve := true } := rfl
      generalize s.setFaults { s.faults with reserve := true } = u at heq hu hunlc
      have hum : u.mode ≠ .halted := by rw [hu .mode (by decide)]; exact hm
      have hnew := State.entry_raise_new (k := .zoneReserve) (by decide) hum (soc / 10)
      have hagain (e : ActiveFault) := State.entry_raise_again (k := .zoneReserve) (e := e) (by decide) hum (soc / 10)
      have hmark : s.reserveWatch.faults.reserve = true := by rw [heq, State.reserve_raise, hunlc]
      have hold : u.faults.entry .zoneReserve = s.faults.entry .zoneReserve := by rw [hunlc]; rfl
      rw [← heq, hold, hunlc, hu .runTime (by decide)] at hnew
      rw [← heq, hold] at hagain
      refine ⟨⟨fun soc' hs' _ _ _ => ?_, fun _ _ _ hr' => absurd (hr.symm.trans hr') nofun, fun hk => ?_⟩, hwatch, fun hq => ?_,
        fun h => absurd ((hmark.symm.trans h).trans hr) nofun⟩
      · obtain rfl : soc = soc' := Option.some.inj ((hs.symm.trans hsoc.symm).trans hs')
        exact ⟨hmark, fun hn => hnew hn, fun e he => hagain e he⟩
      · rw [hzone, hsoc, hpar] at hk
        exact absurd hk hrest
      · have hno : ¬u.RaiseStops .zoneReserve := by
          rcases hq with hq | hq
          · rintro ⟨h1, h2, h3⟩
            refine hq ⟨?_, hold ▸ h2, ?_⟩
            · rw [ne_eq, State.level_safeStop_iff] at h1 ⊢
              simpa only [State.Faulted, hunlc] using h1
            · rw [hunlc] at h3
              exact h3
          · exact absurd ((hmark.symm.trans hq).trans hr) nofun
        rw [heq, State.raise_rests (Bool.eq_false_iff.mpr fun hb => hno ((State.becameSafeStop_iff hum).mp hb))]
        exact (hu.mono (by decide)).trans (State.raiseCore_only _ _ _)
    | true =>
      have hl := hhigh soc hs hr
      have heq := State.reserveWatch_ends hs hz hr hl
      have hu := hset false
      have hmark : s.reserveWatch.faults.reserve = false := by
        rw [heq, State.endReserve, State.reserve_endCause]
        rfl
      refine ⟨⟨fun _ _ _ hr' => absurd (hr.symm.trans hr') nofun, fun _ _ _ _ _ => ⟨hmark, ?_⟩, fun hk => ?_⟩, hwatch, fun _ => ?_,
        fun h => absurd ((hmark.symm.trans h).trans hr) nofun⟩
      · rw [heq, State.endReserve]
        exact State.entry_endCause_self (by rw [hu .mode (by decide)]; exact hm) rfl
      · rw [hzone, hsoc, hpar] at hk
        exact absurd hk hrest
      · rw [heq, State.endReserve]
        exact (hu.mono (by decide)).trans (State.endCause_only _ _)

theorem ReserveExamined.after (h : ReserveExamined s u) (hu : OnlyChanges bs u t)
    (hb : ∀ b ∈ [Block.params, .demand, .nodes, .faults], b ∉ bs := by decide) : ReserveExamined s t := by
  have hsoc : t.nodes = u.nodes := hu .nodes (hb _ (by decide))
  have hzone : t.demand = u.demand := hu .demand (hb _ (by decide))
  have hfaults : t.faults = u.faults := hu .faults (hb _ (by decide))
  have hpar : t.par .socReserve = u.par .socReserve := hu.par (hb _ (by decide)) _
  constructor <;> rw [hsoc, hzone, hfaults, hpar]
  · exact h.raised
  · exact h.ended
  · exact h.kept

theorem ReserveExamined.before (h : ReserveExamined u t) (hu : OnlyChanges bs s u)
    (hb : ∀ b ∈ [Block.faults, .runTime], b ∉ bs := by decide) : ReserveExamined s t := by
  have hfaults : u.faults = s.faults := hu .faults (hb _ (by decide))
  have htime : u.runTime = s.runTime := hu .runTime (hb _ (by decide))
  obtain ⟨hr, he, hk⟩ := h
  rw [hfaults] at he hk
  rw [hfaults, htime] at hr
  exact ⟨hr, he, hk⟩

end


/-! ## 3. What an operation offers (R67, R68)

Most operations touch the setpoint queue through `State.offer` alone. `Offers P` says so, with the offers they may make in `P`; what an
offer leaves in the queue is then said once. -/

section
variable {s t u : State} {n : NodeAddr} {k : EntryKind} {p : List Byte} {o : Origin} {bs : List Block}

/-- From `s` to `t` the queue changes by offers of `P` alone, and the records stand. -/
inductive Offers (P : NodeAddr → EntryKind → List Byte → Origin → Prop) : State → State → Prop
  | rest {s t : State} (hnlc : t.nlc = s.nlc) (hnodes : t.nodes = s.nodes) : Offers P s t
  | offer {n : NodeAddr} {k : EntryKind} {p : List Byte} {o : Origin} (h : P n k p o) (s : State) : Offers P s (s.offer n k p o)
  | trans {s t u : State} (h : Offers P s t) (h' : Offers P t u) : Offers P s u

/-- The offers of the ESC: commands, and ENG FORCE 0. -/
def EngineOffer (n : NodeAddr) (k : EntryKind) (p : List Byte) (o : Origin) : Prop :=
  n = .eng ∧ o = .engine ∧ (k = .command ∨ (k = .force ∧ p = [0, 0]))

/-- The offers of a blend. -/
def BlendOffer (n : NodeAddr) (_ : EntryKind) (_ : List Byte) (o : Origin) : Prop := n ≠ .eng ∧ o = .blend

/-- The offers a raise may make: those of a cut re-blend, and those of stop cause SAFE. -/
def RaiseOffer (n : NodeAddr) (k : EntryKind) (p : List Byte) (o : Origin) : Prop := BlendOffer n k p o ∨ EngineOffer n k p o

variable {P Q : NodeAddr → EntryKind → List Byte → Origin → Prop}

namespace Offers

theorem refl (s : State) : Offers P s s := .rest rfl rfl

theorem off (h : OnlyChanges bs s t) (hb : Block.nlc ∉ bs ∧ Block.nodes ∉ bs := by decide) : Offers P s t :=
  .rest (h .nlc hb.1) (h .nodes hb.2)

theorem mono (h : Offers P s t) (hPQ : ∀ {n k p o}, P n k p o → Q n k p o) : Offers Q s t := by
  induction h with
  | rest hnlc hnodes => exact .rest hnlc hnodes
  | offer h s => exact .offer (hPQ h) s
  | trans _ _ ih ih' => exact .trans ih ih'

theorem nodes (h : Offers P s t) : t.nodes = s.nodes := by
  induction h with
  | rest _ hnodes => exact hnodes
  | offer h s => exact State.offer_only _ _ _ _ s .nodes (by decide)
  | trans _ _ ih ih' => exact ih'.trans ih

theorem takes (h : Offers P s t) (n : NodeAddr) : t.takes n = s.takes n := by
  unfold State.takes State.node
  rw [h.nodes]

end Offers

/-- Entries of a node and kind stay queued under offers that do not replace them. -/
theorem Queued.offers (h : Queued n k p o s) (hst : Offers P s t) (hP : ∀ q o', P n k q o' → q = p ∧ o' = o) : Queued n k p o t := by
  induction hst with
  | rest hnlc _ =>
    unfold Queued
    rw [hnlc]
    exact h
  | @offer m j q o' hp s =>
    by_cases hmj : m = n ∧ j = k
    · obtain ⟨rfl, rfl⟩ := hmj
      obtain ⟨rfl, rfl⟩ := hP q o' hp
      by_cases ht : s.takes m = true
      · exact State.offered_offer _ _ _ _ s ht
      · rw [show s.offer m j q o' = s from if_neg ht]
        exact h
    · exact h.offerAt (by rcases not_and_or.mp hmj with hm | hj; exacts [.inl hm, .inr hj]) _ _
  | trans _ _ ih ih' => exact ih' (ih h)

theorem Offered.offers (h : Offered s n k p o u) (hut : Offers P u t) (hP : ∀ q o', P n k q o' → q = p ∧ o' = o) : Offered s n k p o t :=
  fun ht => (h ht).offers hut hP

/-- A node that takes no offers and has no waiting entry. -/
def State.Deserted (s : State) (n : NodeAddr) : Prop := s.takes n = false ∧ ∀ e ∈ s.nlc.queue, e.target = n → e.inFlight = true

theorem State.Deserted.kick (h : ∀ e ∈ s.nlc.queue, e.target = n → e.inFlight = true) : ∀ e ∈ s.kick.nlc.queue, e.target = n → e.inFlight = true := by
  unfold State.kick
  split
  · unfold State.startFrame
    split
    · exact h
    · next e he =>
      intro x hx
      obtain ⟨-, front, back, hq, hstart⟩ := startFirst_eq he
      have hx' : x ∈ startFirst s.nlc.queue := hx
      rw [hstart] at hx'
      rw [hq] at h
      rcases List.mem_append.mp hx' with hx' | hx'
      · exact h x (List.mem_append_left _ hx')
      · rcases List.mem_cons.mp hx' with rfl | hx'
        · exact fun _ => rfl
        · exact h x (List.mem_append_right _ (List.mem_cons_of_mem _ hx'))
  · exact h

theorem State.Deserted.offer (h : s.Deserted n) (m : NodeAddr) (j : EntryKind) (q : List Byte) (o' : Origin) :
    (s.offer m j q o').Deserted n := by
  obtain ⟨htakes, hqueue⟩ := h
  refine ⟨((State.offer_only m j q o' s).takes (by decide) n).trans htakes, ?_⟩
  unfold State.offer State.offerAt
  split
  · next hm =>
    have hne : m ≠ n := by
      rintro rfl
      exact absurd (hm.symm.trans htakes) nofun
    split
    · intro e he
      obtain ⟨x, hx, rfl⟩ := List.mem_map.mp he
      split
      · exact hqueue x hx
      · exact hqueue x hx
    · refine State.Deserted.kick fun e he => ?_
      rcases mem_enqueue.mp he with rfl | he
      · exact fun ht => absurd ht hne
      · exact hqueue e he
  · exact hqueue

theorem State.Deserted.offers (h : s.Deserted n) (hst : Offers P s t) : t.Deserted n := by
  induction hst with
  | rest hnlc hnodes => exact ⟨by unfold State.takes State.node; rw [hnodes]; exact h.1, by rw [hnlc]; exact h.2⟩
  | offer _ s => exact h.offer _ _ _ _
  | trans _ _ ih ih' => exact ih' (ih h)

/-! ### The operations by their offers -/

namespace Offers

theorem ite {c : Prop} [Decidable c] {a b : State} (ha : Offers P s a) (hb : Offers P s b) : Offers P s (if c then a else b) := by
  split <;> assumption

theorem setEsc (s : State) (x : EngineUnit) : Offers P s (s.setEsc x) := .rest rfl rfl

theorem setBbu (s : State) (x : BrakeUnit) : Offers P s (s.setBbu x) := .rest rfl rfl

theorem setEngine (m : EngineState) (s : State) : Offers P s (s.setEngine m) :=
  .off (bs := [.progress, .esc, .wear, .faults, .notices]) (by simp (disch := decide))

theorem offerNoForce (s : State) : Offers EngineOffer s s.offerNoForce := .offer ⟨rfl, rfl, .inr ⟨rfl, forcePayload_zero⟩⟩ s

theorem offerStop (s : State) : Offers EngineOffer s s.offerStop := .offer ⟨rfl, rfl, .inl rfl⟩ s

theorem enterStopping (s : State) : Offers EngineOffer s s.enterStopping :=
  (((ite (offerNoForce s) (refl s)).trans ((setEsc _ _).trans (offerStop _))).trans (setEsc _ _)).trans (setEngine _ _)

theorem enterCooldown (c : StopCause) (s : State) : Offers EngineOffer s (s.enterCooldown c) := by
  have hcool := ((offerNoForce s).trans (setEsc _ { s.offerNoForce.esc with
    stopCause := some c, cooldownTimer := some (s.offerNoForce.par .tCool * 1000) })).trans (setEngine .cooldown _)
  exact ite (hcool.trans (enterStopping _)) hcool

theorem abandonCrank (c : StopCause) (s : State) : Offers EngineOffer s (s.abandonCrank c) := (setEsc _ _).trans (enterStopping _)

theorem stopRunning (c : StopCause) (immediate : Bool) (s : State) : Offers EngineOffer s (s.stopRunning c immediate) :=
  ite ((setEsc _ _).trans (enterStopping _)) (enterCooldown _ _)

theorem stopCranking (c : StopCause) (s : State) : Offers EngineOffer s (s.stopCranking c) := by
  unfold State.stopCranking
  split
  case h_5 => exact ite (refl s) (abandonCrank _ s)
  case h_6 => exact refl s
  all_goals exact abandonCrank _ s

theorem stopCooling (c : StopCause) (immediate : Bool) (s : State) : Offers EngineOffer s (s.stopCooling c immediate) := by
  unfold State.stopCooling
  split
  case h_5 => exact ite ((setEsc _ _).trans (enterStopping _)) (refl s)
  case h_6 => exact refl s
  all_goals exact setEsc _ _

theorem stopCause (c : StopCause) (immediate : Bool) (s : State) : Offers EngineOffer s (s.stopCause c immediate) := by
  unfold State.stopCause
  split
  · exact stopRunning _ _ s
  · exact stopRunning _ _ s
  · exact stopCranking _ s
  · exact stopCranking _ s
  · exact stopCooling _ _ s
  · exact setEsc _ _
  · exact refl s
  · exact refl s

theorem safeCause (s : State) : Offers EngineOffer s s.safeCause := ite (stopCause _ _ s) (refl s)

theorem engineLost (s : State) : Offers EngineOffer s s.engineLost :=
  ite (refl s) (((ite (offerNoForce s) (refl s)).trans (setEsc _ _)).trans (setEngine _ _))

theorem offerBlend (r : BlendResult) (s : State) : Offers BlendOffer s (s.offerBlend r) :=
  ((Offers.offer ⟨by decide, rfl⟩ s).trans (.offer ⟨by decide, rfl⟩ _)).trans (.offer ⟨by decide, rfl⟩ _)

theorem driveBlend (slipCut : Bool) (dt : Nat) (r : BlendResult) (s : State) : Offers BlendOffer s (s.driveBlend slipCut dt r) := by
  unfold State.driveBlend
  dsimp only
  generalize s.bbu.energies r s.demand.record.speed dt = e
  have hoffers := (setBbu (P := BlendOffer) s (s.bbu.blended r e)).trans (offerBlend r _)
  generalize (s.setBbu (s.bbu.blended r e)).offerBlend r = a at hoffers
  have hpads : OnlyChanges [.wear, .notices] a (a.padWear e.whole.front e.whole.rear) := by simp (disch := decide)
  generalize a.padWear e.whole.front e.whole.rear = b at hpads
  have hlog (f : FedBlend) : OnlyChanges [.log, .notices] b (b.logBlend f) := by simp (disch := decide)
  exact (hoffers.trans (.off hpads)).trans (ite (refl b) (.off (hlog _)))

theorem saturation_id (r : BlendResult) (s : State) : Offers EngineOffer s (s.saturation id r) := by
  unfold State.saturation State.raiseWith
  dsimp only
  have hraise := (setBbu (P := EngineOffer) s { s.bbu with saturated := true }).trans
    (.off (State.raiseCore_only .frictionSaturated r.shortDetail _))
  have hend := (setBbu (P := EngineOffer) s { s.bbu with saturated := false }).trans
    (.off (State.endCause_only .frictionSaturated _))
  exact ite (ite (hraise.trans (safeCause _)) hraise) (ite hend (refl s))

theorem cutReblend (slipCut : Bool) (s : State) : Offers RaiseOffer s (s.cutReblend slipCut) := by
  unfold State.cutReblend
  split
  · rw [State.applyBlend_eq]
    exact ((driveBlend _ _ _ s).mono .inl).trans ((saturation_id _ _).mono .inr)
  · exact refl s

theorem raise (k : FaultKind) (detail : Nat) (s : State) : Offers RaiseOffer s (s.raise k detail) := by
  have hcore : Offers RaiseOffer s (s.raiseCore k detail) := .off (State.raiseCore_only k detail s)
  exact ite ((hcore.trans (cutReblend false _)).trans ((safeCause _).mono .inr)) hcore

end Offers

end


/-! ## 4. What a parameter acts on at once (O29) -/

section
variable {s t u : State} {n m : NodeAddr} {bs : List Block}

/-- An item as a change of thresholds finds it again. -/
def State.foundWear (s : State) (k : WearKind) : WearItem := s.refound k (s.wearItem k)

theorem State.foundWear_eq (s : State) (k : WearKind) : s.foundWear k = { s.wearItem k with
    state := if (s.wearItem k).state = .unknown then .unknown else s.wearStateFor k (s.wearItem k).value } := by
  unfold State.foundWear State.refound
  split
  · next h => rw [← h]
  · rfl

theorem State.foundWear_of_putWear {j k : WearKind} (h : j ≠ k) (w : WearItem) (s : State) :
    (s.putWear k w).foundWear j = s.foundWear j := by
  have hpar (p : Param) : (s.putWear k w).par p = s.par p := (State.putWear_only s k w).par (by decide) p
  unfold State.foundWear State.refound State.wearStateFor
  rw [State.wearItem_putWear_other _ _ h, hpar, hpar]

theorem State.noticeOf_of_notices (h : t.notices = s.notices) (j : NoticeKind) : t.noticeOf j = s.noticeOf j := by
  unfold State.noticeOf
  rw [h]

/-- A list of items found again: each by its own value, and notice WEAR for those whose state changes (R167, R168). -/
theorem State.recheck_spec (ks : List WearKind) (hd : ks.Nodup) (s : State) :
    let t := ks.foldl (fun s k => s.putWear k (s.refound k (s.wearItem k))) s
    (∀ k, t.wearItem k = if k ∈ ks then s.foundWear k else s.wearItem k) ∧
    ((∀ k ∈ ks, (s.foundWear k).state = (s.wearItem k).state) → t.notices = s.notices) ∧
    (∀ k ∈ ks, (s.foundWear k).state ≠ (s.wearItem k).state →
      (∀ j ∈ ks, j ≠ k → (s.foundWear j).state = (s.wearItem j).state) → Noted .wear k.code s t) ∧
    OnlyChanges [.wear, .notices] s t := by
  induction ks generalizing s with
  | nil => exact ⟨fun k => by simp, fun _ => rfl, fun k hk => (by cases hk), .refl _ s⟩
  | cons k ks ih =>
    obtain ⟨hk, hd⟩ := List.nodup_cons.mp hd
    obtain ⟨hitem, hsame, hnoted, honly⟩ := ih hd (s.putWear k (s.foundWear k))
    have hne (j : WearKind) (hj : j ∈ ks) : j ≠ k := fun h => hk (h ▸ hj)
    have hfound (j : WearKind) (hj : j ∈ ks) := State.foundWear_of_putWear (hne j hj) (s.foundWear k) s
    have hother (j : WearKind) (hj : j ∈ ks) := State.wearItem_putWear_other s (s.foundWear k) (hne j hj)
    have hput := State.putWear_only s k (s.foundWear k)
    have hquiet (h : (s.foundWear k).state = (s.wearItem k).state) : (s.putWear k (s.foundWear k)).notices = s.notices := by
      rw [State.putWear, if_pos h.symm]
      rfl
    refine ⟨fun j => ?_, fun h => ?_, fun j hj hch hothers => ?_, hput.trans honly⟩
    · rw [List.foldl_cons]
      refine (hitem j).trans ?_
      by_cases hjk : j = k
      · rw [if_neg (hjk ▸ hk), if_pos (hjk ▸ List.mem_cons_self ..), hjk, State.wearItem_putWear_same]
      · by_cases hj : j ∈ ks
        · rw [if_pos hj, if_pos (List.mem_cons_of_mem _ hj), hfound j hj]
        · rw [if_neg hj, if_neg (by simp [hjk, hj]), State.wearItem_putWear_other _ _ hjk]
    · have hk' := h k (List.mem_cons_self ..)
      refine (hsame fun j hj => ?_).trans (hquiet hk')
      rw [hfound j hj, hother j hj]
      exact h j (List.mem_cons_of_mem _ hj)
    · by_cases hjk : j = k
      · -- The first item changes; the rest give no notice.
        subst hjk
        have hrest := hsame fun i hi => by
          rw [hfound i hi, hother i hi]
          exact hothers i (List.mem_cons_of_mem _ hi) (hne i hi)
        have hfirst : Noted .wear j.code s (s.putWear j (s.foundWear j)) := by
          unfold Noted
          rw [State.putWear, if_neg (fun h => hch h.symm)]
          exact State.noticeOf_notify_same (s.setWearItem j _) .wear _
        exact (State.noticeOf_of_notices hrest _).trans hfirst
      · have hj : j ∈ ks := (List.mem_cons.mp hj).resolve_left hjk
        have hk' := hothers k (List.mem_cons_self ..) (fun h => hjk h.symm)
        have hlast := hnoted j hj (by rw [hfound j hj, hother j hj]; exact hch) fun i hi hij => by
          rw [hfound i hi, hother i hi]
          exact hothers i (List.mem_cons_of_mem _ hi) hij
        exact hlast.trans (by rw [State.noticeOf_of_notices (hquiet hk')])

/-- The node list around one of its nodes. -/
theorem allNodes_around (n : NodeAddr) : ∃ front back, allNodes = front ++ n :: back ∧ n ∉ front ∧ n ∉ back := by
  obtain ⟨front, back, h⟩ := List.append_of_mem (show n ∈ allNodes by cases n <;> decide)
  have hd : allNodes.Nodup := by decide
  rw [h] at hd
  have hn := List.nodup_middle.mp hd
  have hno := (List.nodup_cons.mp hn).1
  exact ⟨front, back, h, fun hf => hno (List.mem_append_left _ hf), fun hb => hno (List.mem_append_right _ hb)⟩

/-- One operation per node, each changing its own record alone, seen at one node: the operation acts on that record as it stood, and
what it leaves there the others keep. -/
theorem foldl_allNodes_at {f : State → NodeAddr → State} (hf : ∀ m s, OnlyChanges bs s (f s m))
    (hother : ∀ m n s, n ≠ m → (f s m).node n = s.node n) (n : NodeAddr) (s : State) :
    ∃ u, OnlyChanges bs s u ∧ u.node n = s.node n ∧ (allNodes.foldl f s).node n = (f u n).node n ∧
      ∀ P : State → Prop, (∀ m v, m ≠ n → v.node n = (f u n).node n → OnlyChanges bs s v → P v → P (f v m)) → P (f u n) →
        P (allNodes.foldl f s) := by
  obtain ⟨front, back, heq, hfront, hback⟩ := allNodes_around n
  have hbefore : OnlyChanges bs s (front.foldl f s) ∧ (front.foldl f s).node n = s.node n :=
    List.foldlRecOn front f (motive := fun v => OnlyChanges bs s v ∧ v.node n = s.node n) ⟨.refl _ s, rfl⟩ fun v hv m hm =>
      ⟨hv.1.trans (hf m v), (hother m n v (fun h => hfront (h ▸ hm))).trans hv.2⟩
  let u := front.foldl f s
  have hafter (P : State → Prop)
      (hP : ∀ m v, m ≠ n → v.node n = (f u n).node n → OnlyChanges bs s v → P v → P (f v m)) (h : P (f u n)) :
      (back.foldl f (f u n)).node n = (f u n).node n ∧ P (back.foldl f (f u n)) := by
    have hall := List.foldlRecOn back f
      (motive := fun v => OnlyChanges bs s v ∧ v.node n = (f u n).node n ∧ P v) ⟨hbefore.1.trans (hf n u), rfl, h⟩
      fun v hv m hm =>
        have hm' : m ≠ n := fun h => hback (h ▸ hm)
        ⟨hv.1.trans (hf m v), (hother m n v hm'.symm).trans hv.2.1, hP m v hm' hv.2.1 hv.1 hv.2.2⟩
    exact hall.2
  have hfold : allNodes.foldl f s = back.foldl f (f u n) := by rw [heq, List.foldl_append, List.foldl_cons]
  refine ⟨u, hbefore.1, hbefore.2, ?_, fun P hP h => ?_⟩
  · rw [hfold]
    exact (hafter (fun _ => True) (fun _ _ _ _ _ _ => trivial) trivial).1
  · rw [hfold]
    exact (hafter P hP h).2

end


section
variable {s t u : State} {n m : NodeAddr} {bs : List Block}

/-! ### The presence timers (R54) -/

/-- What re-timing the presence timers may change. -/
def retimeBlocks : List Block := [.progress, .hli, .nlc, .nodes, .bbu, .esc, .log, .wear, .faults, .notices]

theorem State.becomeStale_spec (n : NodeAddr) (s : State) :
    (s.becomeStale n).node n = { s.node n with
      presence := .stale, staleTime := some s.runTime, staleTimer := none, lostTimer := some (s.par .tLost) } ∧
    (∀ m, m ≠ n → (s.becomeStale n).node m = s.node m) ∧ (n = .bat → s.mode ≠ .halted → (s.becomeStale n).Raised .batStale) ∧
    (n ≠ .bat → OnlyChanges [.nodes] s (s.becomeStale n)) ∧
    OnlyChanges [.nlc, .nodes, .bbu, .esc, .log, .wear, .faults, .notices] s (s.becomeStale n) := by
  unfold State.becomeStale
  dsimp only
  generalize hu : s.setNode n { s.node n with
    presence := .stale, staleTime := some s.runTime, staleTimer := none, lostTimer := some (s.par .tLost) } = u
  have hsu : OnlyChanges [.nodes] s u := by rw [← hu]; simp
  have hself : u.node n = _ := hu ▸ State.node_setNode_same s n _
  have hother (m : NodeAddr) (hm : m ≠ n) : u.node m = s.node m := hu ▸ State.node_setNode_other s _ hm
  have hr := State.raise_only .batStale 3 u
  split
  · next hb =>
    refine ⟨(hr.node (by decide) n).trans hself, fun m hm => (hr.node (by decide) m).trans (hother m hm), fun _ hh => ?_,
      fun h => absurd hb h, (hsu.mono (by decide)).trans (hr.mono (by decide))⟩
    exact State.raised_raise (by rw [hsu .mode (by decide)]; exact hh) (by decide) 3
  · next hb => exact ⟨hself, hother, fun h => absurd h hb, fun _ => hsu, hsu.mono (by decide)⟩

theorem State.retimeStale_rests (h : (s.node n).presence ≠ .present) : s.retimeStale n = s := by
  unfold State.retimeStale
  split
  · next hp _ => exact absurd hp h
  · rfl

theorem State.retimeStale_present {since : Time} (hp : (s.node n).presence = .present) (hf : (s.node n).freshTime = some since) :
    s.retimeStale n = if s.par .tStale ≤ elapsed s.runTime since then s.becomeStale n
      else s.setNode n { s.node n with staleTimer := some (s.par .tStale - elapsed s.runTime since) } := by
  simp only [State.retimeStale, hp, hf]

theorem State.retimeStale_other (hm : m ≠ n) (s : State) : (s.retimeStale n).node m = s.node m := by
  unfold State.retimeStale
  split
  · dsimp only
    split
    · exact (State.becomeStale_spec n s).2.1 m hm
    · exact State.node_setNode_other _ _ hm
  · rfl

theorem State.retimeStale_only (n : NodeAddr) (s : State) :
    OnlyChanges [.nlc, .nodes, .bbu, .esc, .log, .wear, .faults, .notices] s (s.retimeStale n) := by
  unfold State.retimeStale
  split
  · dsimp only
    split
    · exact (State.becomeStale_spec n s).2.2.2.2
    · simp
  · exact .refl _ s

/-- The raise of one record's staleness stands as the other records are re-timed. -/
theorem State.Raised.retimeStale (h : s.Raised .batStale) (n : NodeAddr) : (s.retimeStale n).Raised .batStale := by
  have hset (x : NodeRecord) : OnlyChanges [.nodes] s (s.setNode n x) := by simp
  unfold State.retimeStale
  split
  · dsimp only
    split
    · unfold State.becomeStale
      dsimp only
      have hs := State.Faulted.after h (hset { s.node n with
        presence := .stale, staleTime := some s.runTime, staleTimer := none, lostTimer := some (s.par .tLost) })
      split
      · exact hs.raise (.raised (by decide)) _ _
      · exact hs
    · exact State.Faulted.after h (hset _)
  · exact h

/-- A change of t_stale, at every node (R54). -/
theorem State.retimeStales_spec (hm : s.mode ≠ .halted) : let t := allNodes.foldl (fun s n => s.retimeStale n) s
    (∀ n, ((s.node n).presence ≠ .present → t.node n = s.node n) ∧
      ∀ since, (s.node n).presence = .present → (s.node n).freshTime = some since →
        (elapsed s.runTime since < s.par .tStale →
          t.node n = { s.node n with staleTimer := some (s.par .tStale - elapsed s.runTime since) }) ∧
        (s.par .tStale ≤ elapsed s.runTime since →
          t.node n = { s.node n with presence := .stale, staleTime := some s.runTime, staleTimer := none,
                                     lostTimer := some (s.par .tLost) } ∧
          (n = .bat → t.Raised .batStale))) ∧
    OnlyChanges [.nlc, .nodes, .bbu, .esc, .log, .wear, .faults, .notices] s t := by
  dsimp only
  refine ⟨fun n => ?_, OnlyChanges.foldl (fun u n => State.retimeStale_only n u) allNodes s⟩
  obtain ⟨u, hu, hnode, hat, hkeeps⟩ := foldl_allNodes_at (f := fun s n => s.retimeStale n) (fun m s => State.retimeStale_only m s)
    (fun m n s h => State.retimeStale_other h s) n s
  rw [hat]
  have hpar (p : Param) : u.par p = s.par p := hu.par (by decide) p
  have htime : u.runTime = s.runTime := hu .runTime (by decide)
  refine ⟨fun hp => ?_, fun since hp hf => ⟨fun hl => ?_, fun hl => ⟨?_, fun hb => ?_⟩⟩⟩
  · rw [State.retimeStale_rests (by rw [hnode]; exact hp), hnode]
  all_goals
    have hrun := State.retimeStale_present (s := u) (n := n) (by rw [hnode]; exact hp) (by rw [hnode]; exact hf)
    rw [hpar, htime, hnode] at hrun
  · rw [hrun, if_neg (Nat.not_le.mpr hl), State.node_setNode_same]
  · rw [hrun, if_pos hl, (State.becomeStale_spec n u).1, hpar, htime, hnode]
  · refine hkeeps (fun v => v.Raised .batStale) (fun m v _ _ _ hv => hv.retimeStale m) ?_
    show (u.retimeStale n).Raised .batStale
    rw [hrun, if_pos hl]
    exact (State.becomeStale_spec n u).2.2.1 hb (by rw [hu .mode (by decide)]; exact hm)

end


section
variable {s t u : State} {n m : NodeAddr} {bs : List Block}

/-! ### The lost timers (R54, R73) -/

/-- The host link from `s` to `t` but for replies that have joined the line. -/
def OnlyReplies (s t : State) : Prop := ∃ due, LineGrows due s t ∧ t.hli.access = s.hli.access

theorem OnlyReplies.refl (h : s.hli.ordered) : OnlyReplies s s := ⟨[], .refl h, rfl⟩

theorem OnlyReplies.ordered (h : OnlyReplies s t) : t.hli.ordered := let ⟨_, hgrow, _⟩ := h; hgrow.ordered

theorem OnlyReplies.trans (h : OnlyReplies s t) (h' : OnlyReplies t u) : OnlyReplies s u :=
  let ⟨_, hgrow, hacc⟩ := h
  let ⟨_, hgrow', hacc'⟩ := h'
  ⟨_, hgrow.trans hgrow', hacc'.trans hacc⟩

theorem OnlyReplies.off (ho : s.hli.ordered) (h : OnlyChanges bs s t) (hb : Block.hli ∉ bs := by decide) : OnlyReplies s t :=
  ⟨[], .of_eq ho (h .hli hb), congrArg HostLink.access (h .hli hb)⟩

theorem OnlyReplies.releaseReply (status : Byte) (code : Option Completion) (e : Entry) (ho : s.hli.ordered) :
    OnlyReplies s (s.releaseReply status code e) := by
  unfold State.releaseReply
  split
  · obtain ⟨hl, ho', hs, hf, ha, hfe, hce⟩ := State.ready_spec _ s ho
    exact ⟨_, ⟨hl, ho', hs, hf, hfe, hce⟩, ha⟩
  all_goals exact .refl ho

theorem OnlyReplies.nodeLostQueue (n : NodeAddr) (ho : s.hli.ordered) : OnlyReplies s (s.nodeLostQueue n) := by
  let gone := s.nlc.queue.filter (fun e => e.target == n && !e.inFlight)
  let a := s.setNlc { s.nlc with queue := s.nlc.queue.filter (fun e => !(e.target == n && !e.inFlight)) }
  let b := gone.foldl (fun s e => s.releaseReply stLinkFail e.last e) a
  let c := b.setNode n { b.node n with held := false }
  have ha : OnlyReplies s a := .off (bs := [.nlc]) ho (by simp [a])
  have hb : OnlyReplies s b := List.foldlRecOn (motive := OnlyReplies s) gone _ ha fun v hv e _ =>
    hv.trans (.releaseReply _ _ _ hv.ordered)
  have hlast : OnlyChanges [.nlc, .nodes] b (s.nodeLostQueue n) := by
    unfold State.nodeLostQueue State.dropWaiting
    simp [b, a, gone]
  exact hb.trans (.off hb.ordered hlast)

theorem State.Deserted.nodeLostQueue (h : s.Deserted n) (hm : m ≠ n) : (s.nodeLostQueue m).Deserted n := by
  obtain ⟨htakes, hqueue⟩ := h
  obtain ⟨-, hother, -, -⟩ := State.nodeLostQueue_spec m s
  refine ⟨?_, fun e he => ?_⟩
  · rw [State.takes, hother n hm.symm]
    exact htakes
  · rw [State.nodeLostQueue, State.linkCheck_queue] at he
    obtain ⟨x, hx, rfl⟩ := List.mem_map.mp he
    have hxq : x ∈ (s.dropWaiting (fun e => e.target == m) (fun e => e.last)).nlc.queue := hx
    rw [show (s.dropWaiting _ _).nlc.queue = _ from congrArg LinkController.queue (State.dropWaiting_nlc _ _ s)] at hxq
    have hfly := hqueue x (List.mem_filter.mp hxq).1
    split <;> exact hfly

/-- The state as a record becomes LOST and its fault is raised, ahead of the hand-on of the loss (R52, R55). -/
def State.lossRaised (n : NodeAddr) (s : State) : State :=
  let s := s.setNode n { s.node n with presence := .lost, staleTimer := none, lostTimer := none }
  match lossFault n with
  | some k => s.raise k (nodeCode n)
  | none => s

theorem State.becomeLost_eq (n : NodeAddr) (s : State) : s.becomeLost n = (s.lossRaised n).handLoss n := rfl

theorem State.lossRaised_spec (n : NodeAddr) (s : State) :
    (s.lossRaised n).node n = { s.node n with presence := .lost, staleTimer := none, lostTimer := none } ∧
    (∀ m, m ≠ n → (s.lossRaised n).node m = s.node m) ∧
    (∀ k, lossFault n = some k → s.mode ≠ .halted → (s.lossRaised n).Raised k) ∧
    OnlyChanges [.nlc, .nodes, .bbu, .esc, .log, .wear, .faults, .notices] s (s.lossRaised n) := by
  unfold State.lossRaised
  dsimp only
  generalize hu : s.setNode n { s.node n with presence := .lost, staleTimer := none, lostTimer := none } = u
  have hsu : OnlyChanges [.nodes] s u := by rw [← hu]; simp
  have hself : u.node n = _ := hu ▸ State.node_setNode_same s n _
  have hother (m : NodeAddr) (hm : m ≠ n) : u.node m = s.node m := hu ▸ State.node_setNode_other s _ hm
  split
  · next k hk =>
    have hr := State.raise_only k (nodeCode n) u
    refine ⟨(hr.node (by decide) n).trans hself, fun m hm => (hr.node (by decide) m).trans (hother m hm), fun j hj hh => ?_,
      (hsu.mono (by decide)).trans (hr.mono (by decide))⟩
    obtain rfl : k = j := Option.some.inj (hk.symm.trans hj)
    refine State.raised_raise (by rw [hsu .mode (by decide)]; exact hh) ?_ _
    rintro rfl
    cases n <;> exact absurd hk (by decide)
  · next hk => exact ⟨hself, hother, fun j hj => absurd (hk.symm.trans hj) nofun, hsu.mono (by decide)⟩

theorem State.handLoss_only (n : NodeAddr) (s : State) : OnlyChanges retimeBlocks s (s.handLoss n) := by
  have ha : OnlyChanges retimeBlocks s (if n = .bat ∨ n = .inv then s.cutReblend false else s) :=
    OnlyChanges.ite.mpr ⟨fun _ => (State.cutReblend_only false s).mono (by decide), fun _ => .refl _ s⟩
  generalize hav : (if n = .bat ∨ n = .inv then s.cutReblend false else s) = a at ha
  have hb : OnlyChanges retimeBlocks a (if n = .eng then a.engineLost else a) :=
    OnlyChanges.ite.mpr ⟨fun _ => (State.engineLost_only a).mono (by decide), fun _ => .refl _ a⟩
  unfold State.handLoss
  dsimp only
  rw [hav]
  exact (ha.trans hb).trans ((State.nodeLostQueue_spec n _).2.2.2.mono (by decide))

theorem OnlyReplies.handLoss (n : NodeAddr) (ho : s.hli.ordered) : OnlyReplies s (s.handLoss n) := by
  have ha : OnlyChanges [.progress, .nlc, .bbu, .esc, .log, .wear, .faults, .notices] s (if n = .bat ∨ n = .inv then s.cutReblend false else s) :=
    OnlyChanges.ite.mpr ⟨fun _ => (State.cutReblend_only false s).mono (by decide), fun _ => .refl _ s⟩
  unfold State.handLoss
  dsimp only
  generalize (if n = .bat ∨ n = .inv then s.cutReblend false else s) = a at ha
  have hb : OnlyChanges [.progress, .nlc, .bbu, .esc, .log, .wear, .faults, .notices] a (if n = .eng then a.engineLost else a) :=
    OnlyChanges.ite.mpr ⟨fun _ => (State.engineLost_only a).mono (by decide), fun _ => .refl _ a⟩
  have hab := OnlyReplies.off ho (ha.trans hb)
  exact hab.trans (.nodeLostQueue n hab.ordered)

theorem State.Deserted.handLoss (h : s.Deserted n) (hm : m ≠ n) : (s.handLoss m).Deserted n :=
  State.Deserted.nodeLostQueue
    ((h.offers (Offers.ite (.cutReblend false s) (.refl s))).offers (Offers.ite (Offers.engineLost _) (.refl _))) hm

/-- What a record's loss does, at the record and elsewhere (R52, R55, R59, R73). -/
structure LosesNode (n : NodeAddr) (s t : State) : Prop where
  record : t.node n = { s.node n with presence := .lost, staleTimer := none, lostTimer := none, held := false }
  others : ∀ m, m ≠ n → t.node m = s.node m
  deserted : t.Deserted n
  raised : ∀ k, lossFault n = some k → s.mode ≠ .halted → t.Raised k
  replies : s.hli.ordered → OnlyReplies s t
  only : OnlyChanges retimeBlocks s t

theorem State.becomeLost_spec (n : NodeAddr) (s : State) : LosesNode n s (s.becomeLost n) := by
  obtain ⟨hself, hother, hraise, honly⟩ := State.lossRaised_spec n s
  rw [State.becomeLost_eq]
  generalize s.lossRaised n = v at hself hother hraise honly
  obtain ⟨hself', hother', hqueue, hlasts, -⟩ := State.handLoss_spec n v
  have hrecord : (v.handLoss n).node n =
      { s.node n with presence := .lost, staleTimer := none, lostTimer := none, held := false } := by rw [hself', hself]
  refine ⟨hrecord, fun m hm => (hother' m hm).trans (hother m hm), ⟨by simp [State.takes, hrecord, Presence.gone], hqueue⟩,
    fun k hk hh => ?_, fun ho => ?_, (honly.mono (by decide)).trans (State.handLoss_only n v)⟩
  · refine hlasts _ (.raised ?_) (hraise k hk hh)
    rintro rfl
    cases n <;> exact absurd hk (by decide)
  · have hv := OnlyReplies.off ho honly
    exact hv.trans (.handLoss n hv.ordered)

theorem State.Deserted.becomeLost (h : s.Deserted n) (hm : m ≠ n) : (s.becomeLost m).Deserted n := by
  have hset : (s.setNode m { s.node m with presence := .lost, staleTimer := none, lostTimer := none }).Deserted n :=
    ⟨by rw [State.takes, State.node_setNode_other _ _ hm.symm]; exact h.1, h.2⟩
  rw [State.becomeLost_eq]
  refine State.Deserted.handLoss ?_ hm
  unfold State.lossRaised
  dsimp only
  split
  · exact hset.offers (Offers.raise _ _ _)
  · exact hset

theorem State.Raised.becomeLost {k : FaultKind} (h : s.Raised k) (hk : k ≠ .frictionSaturated) (n : NodeAddr) : (s.becomeLost n).Raised k := by
  have hset : OnlyChanges [.nodes] s (s.setNode n { s.node n with presence := .lost, staleTimer := none, lostTimer := none }) := by simp
  have hs := State.Faulted.after h hset
  rw [State.becomeLost_eq]
  refine (State.handLoss_spec n _).2.2.2.1 _ (.raised hk) ?_
  unfold State.lossRaised
  dsimp only
  split
  · exact hs.raise (.raised hk) _ _
  · exact hs

theorem State.retimeLost_rests (h : (s.node n).presence ≠ .stale) : s.retimeLost n = s := by
  unfold State.retimeLost
  split
  · next hp _ => exact absurd hp h
  · rfl

theorem State.retimeLost_stale {since : Time} (hp : (s.node n).presence = .stale) (hf : (s.node n).staleTime = some since) :
    s.retimeLost n = if s.par .tLost ≤ elapsed s.runTime since then s.becomeLost n
      else s.setNode n { s.node n with lostTimer := some (s.par .tLost - elapsed s.runTime since) } := by
  simp only [State.retimeLost, hp, hf]

/-- Re-timing a lost timer is nothing, a change of the record's timer, or the loss of the node. -/
theorem State.retimeLost_cases (n : NodeAddr) (s : State) : s.retimeLost n = s ∨
    (s.node n).presence = .stale ∧ ((∃ x, s.retimeLost n = s.setNode n { s.node n with lostTimer := x }) ∨ s.retimeLost n = s.becomeLost n) := by
  unfold State.retimeLost
  split
  · next hp _ =>
    dsimp only
    split
    · exact .inr ⟨hp, .inr rfl⟩
    · exact .inr ⟨hp, .inl ⟨_, rfl⟩⟩
  · exact .inl rfl

theorem State.retimeLost_other (hm : m ≠ n) (s : State) : (s.retimeLost n).node m = s.node m := by
  rcases State.retimeLost_cases n s with h | ⟨-, ⟨x, h⟩ | h⟩ <;> rw [h]
  · exact State.node_setNode_other _ _ hm
  · exact (State.becomeLost_spec n s).others m hm

theorem State.retimeLost_only (n : NodeAddr) (s : State) : OnlyChanges retimeBlocks s (s.retimeLost n) := by
  rcases State.retimeLost_cases n s with h | ⟨-, ⟨x, h⟩ | h⟩ <;> rw [h]
  · exact .refl _ s
  · simp [retimeBlocks]
  · exact (State.becomeLost_spec n s).only

theorem OnlyReplies.retimeLost (n : NodeAddr) (ho : s.hli.ordered) : OnlyReplies s (s.retimeLost n) := by
  rcases State.retimeLost_cases n s with h | ⟨-, ⟨x, h⟩ | h⟩ <;> rw [h]
  · exact .refl ho
  · exact .off (bs := [.nodes]) ho (by simp)
  · exact (State.becomeLost_spec n s).replies ho

theorem State.Deserted.retimeLost (h : s.Deserted n) (hm : m ≠ n) : (s.retimeLost m).Deserted n := by
  rcases State.retimeLost_cases m s with h' | ⟨-, ⟨x, h'⟩ | h'⟩ <;> rw [h']
  · exact h
  · exact ⟨by rw [State.takes, State.node_setNode_other _ _ hm.symm]; exact h.1, h.2⟩
  · exact h.becomeLost hm

theorem State.Raised.retimeLost {k : FaultKind} (h : s.Raised k) (hk : k ≠ .frictionSaturated) (n : NodeAddr) : (s.retimeLost n).Raised k := by
  rcases State.retimeLost_cases n s with h' | ⟨-, ⟨x, h'⟩ | h'⟩ <;> rw [h']
  · exact h
  · exact State.Faulted.after (bs := [.nodes]) h (by simp)
  · exact State.Raised.becomeLost h hk n

/-- A change of t_lost, at every node (R54, R73). -/
theorem State.retimeLosts_spec (hm : s.mode ≠ .halted) : let t := allNodes.foldl (fun s n => s.retimeLost n) s
    (∀ n, ((s.node n).presence ≠ .stale → t.node n = s.node n) ∧
      ∀ since, (s.node n).presence = .stale → (s.node n).staleTime = some since →
        (elapsed s.runTime since < s.par .tLost →
          t.node n = { s.node n with lostTimer := some (s.par .tLost - elapsed s.runTime since) }) ∧
        (s.par .tLost ≤ elapsed s.runTime since →
          t.node n = { s.node n with presence := .lost, staleTimer := none, lostTimer := none, held := false } ∧
          (∀ e ∈ t.nlc.queue, e.target = n → e.inFlight = true) ∧ (∀ k, lossFault n = some k → t.Raised k))) ∧
    (s.hli.ordered → OnlyReplies s t) ∧ OnlyChanges retimeBlocks s t := by
  dsimp only
  refine ⟨fun n => ?_, fun ho => ?_, OnlyChanges.foldl (fun u n => State.retimeLost_only n u) allNodes s⟩
  swap
  · exact List.foldlRecOn (motive := OnlyReplies s) allNodes _ (.refl ho) fun v hv n _ => hv.trans (.retimeLost n hv.ordered)
  obtain ⟨u, hu, hnode, hat, hkeeps⟩ := foldl_allNodes_at (f := fun s n => s.retimeLost n) (fun m s => State.retimeLost_only m s)
    (fun m n s h => State.retimeLost_other h s) n s
  rw [hat]
  have hpar (p : Param) : u.par p = s.par p := hu.par (by decide) p
  have htime : u.runTime = s.runTime := hu .runTime (by decide)
  have hum : u.mode ≠ .halted := by rw [hu .mode (by decide)]; exact hm
  refine ⟨fun hp => ?_, fun since hp hf => ⟨fun hl => ?_, fun hl => ?_⟩⟩
  · rw [State.retimeLost_rests (by rw [hnode]; exact hp), hnode]
  all_goals
    have hrun := State.retimeLost_stale (s := u) (n := n) (by rw [hnode]; exact hp) (by rw [hnode]; exact hf)
    rw [hpar, htime] at hrun
  · rw [hrun, if_neg (Nat.not_le.mpr hl), State.node_setNode_same, hnode]
  · rw [if_pos hl] at hrun
    have hloss := State.becomeLost_spec n u
    rw [← hrun] at hloss
    refine ⟨by rw [hloss.record, hnode], ?_, fun k hk => ?_⟩
    · exact (hkeeps (fun v => v.Deserted n) (fun m v hne _ _ hv => hv.retimeLost hne) hloss.deserted).2
    · refine hkeeps (fun v => v.Raised k) (fun m v _ _ _ hv => State.Raised.retimeLost hv ?_ m) (hloss.raised k hk hum)
      rintro rfl
      cases n <;> exact absurd hk (by decide)

end


/-! ### CONFIG_SET (R217, R218, R219) -/

section
variable {s t : State} {p : Param}

/-- The parameters on which something acts at once. -/
def actingParams : List Param :=
  [.padWarn, .padLimit, .batteryWarn, .batteryLimit, .startsWarn, .startsLimit, .tStale, .tLost, .tSlip, .socReserve]

theorem State.configActs_threshold (h : p ∈ [Param.padWarn, .padLimit, .batteryWarn, .batteryLimit, .startsWarn, .startsLimit]) (s : State) :
    s.configActs p = s.recheckWear := by
  have hthreshold : isThreshold p = true := by
    simp only [List.mem_cons, List.not_mem_nil, or_false] at h
    rcases h with rfl | rfl | rfl | rfl | rfl | rfl <;> rfl
  exact if_pos hthreshold

theorem State.configActs_other (h : p ∉ actingParams) (s : State) : s.configActs p = s := by
  have hthreshold : isThreshold p = true → p ∈ actingParams := by cases p <;> decide
  unfold State.configActs
  split
  · next ht => exact absurd (hthreshold ht) h
  · split
    all_goals first | rfl | exact absurd (by decide) h

/-- A parameter outside the pairs and P40 takes the value held to its range. -/
theorem configValue_unpaired (h : ∀ q ∈ [Param.mMin, .mMax, .vLo, .vHi, .socStart, .socStop, .attention], p ≠ q) (ps : Params) (v : Nat) :
    configValue ps p v = max (paramRow p).lo (min (paramRow p).hi v) := by
  cases p <;> first | rfl | exact absurd rfl (h _ (by decide))

theorem State.recheckWear_only (s : State) : OnlyChanges [.wear, .notices] s s.recheckWear := by simp

theorem State.retimeSlip_only (s : State) : OnlyChanges [.bbu] s s.retimeSlip := by simp

theorem State.retimeSlip_rests (h : s.bbu.slipHold = none) : s.retimeSlip = s := by
  unfold State.retimeSlip
  split
  · next hs _ => exact absurd (h.symm.trans hs) nofun
  · rfl
  · rfl

theorem State.retimeSlip_runs {since : Time} (h : s.bbu.slipHold ≠ none) (hl : s.bbu.lastSlip = some since) :
    s.retimeSlip.bbu = { s.bbu with
      slipHold := if s.par .tSlip ≤ elapsed s.runTime since then none else some (s.par .tSlip - elapsed s.runTime since) } := by
  obtain ⟨x, hx⟩ := Option.ne_none_iff_exists'.mp h
  simp only [State.retimeSlip, hx, hl]
  rfl

theorem State.configActs_only (p : Param) (s : State) : OnlyChanges retimeBlocks s (s.configActs p) := by
  by_cases hp : p ∈ actingParams
  · simp only [actingParams, List.mem_cons, List.not_mem_nil, or_false] at hp
    rcases hp with rfl | rfl | rfl | rfl | rfl | rfl | rfl | rfl | rfl | rfl
    case inr.inr.inr.inr.inr.inr.inl =>
      exact OnlyChanges.foldl (fun u n => (State.retimeStale_only n u).mono (by decide)) allNodes s
    case inr.inr.inr.inr.inr.inr.inr.inl => exact OnlyChanges.foldl (fun u n => State.retimeLost_only n u) allNodes s
    case inr.inr.inr.inr.inr.inr.inr.inr.inl => exact (State.retimeSlip_only s).mono (by decide)
    case inr.inr.inr.inr.inr.inr.inr.inr.inr => exact (State.reserveWatch_only s).mono (by decide)
    all_goals exact (State.recheckWear_only s).mono (by decide)
  · rw [State.configActs_other hp]
    exact .refl _ s

/-- But for a loss of nodes, what acts at once leaves the host link alone. -/
theorem State.configActs_hli (h : p ≠ .tLost) (s : State) : (s.configActs p).hli = s.hli := by
  by_cases hp : p ∈ actingParams
  · simp only [actingParams, List.mem_cons, List.not_mem_nil, or_false] at hp
    rcases hp with rfl | rfl | rfl | rfl | rfl | rfl | rfl | rfl | rfl | rfl
    case inr.inr.inr.inr.inr.inr.inl =>
      exact OnlyChanges.foldl (fun u n => State.retimeStale_only n u) allNodes s .hli (by decide)
    case inr.inr.inr.inr.inr.inr.inr.inl => exact absurd rfl h
    case inr.inr.inr.inr.inr.inr.inr.inr.inl => exact State.retimeSlip_only s .hli (by decide)
    case inr.inr.inr.inr.inr.inr.inr.inr.inr => exact State.reserveWatch_only s .hli (by decide)
    all_goals exact State.recheckWear_only s .hli (by decide)
  · rw [State.configActs_other hp]

/-- The replies that come ahead of the reply to a CONFIG_SET: those a LOST node releases (R73; log 51). -/
theorem State.configActs_grows (p : Param) (hm : s.mode ≠ .halted) (ho : s.hli.ordered) :
    ∃ due, (p ≠ .tLost → due = []) ∧ LineGrows due s (s.configActs p) := by
  by_cases hp : p = .tLost
  · subst hp
    obtain ⟨due, hgrow, -⟩ := (State.retimeLosts_spec hm).2.1 ho
    exact ⟨due, fun h => absurd rfl h, hgrow⟩
  · exact ⟨[], fun _ => rfl, .of_eq ho (State.configActs_hli hp s)⟩

theorem State.takeConfigSet_id (id : Byte) (v : BitVec 32) (s : State) : s.takeConfigSet (id :: be32 v.toNat) =
    match paramOfId id.toNat with
    | none => .now s (configReply stValue id 0)
    | some p =>
      if s.configMode p = false then .now s (configReply stMode id (s.par p))
      else if (paramRow p).service = true ∧ s.hli.access ≠ .service then .now s (configReply stLevel id (s.par p))
      else .now ((s.setParams (setParam s.params p (configValue s.params p v.toNat))).configActs p)
        (configReply (okOrClamped (configValue s.params p v.toNat != v.toNat)) id (configValue s.params p v.toNat)) := by
  have hv : unsigned (field (id :: be32 v.toNat) 1 4) = v.toNat := unsigned_be32 v
  unfold State.takeConfigSet
  simp only [hv]
  rfl

theorem State.configMode_iff (h : s.mode.live = true) : s.configMode p = true ↔ s.mode = .standby ∨ (paramRow p).live = true := by
  cases hm : s.mode <;> simp_all [State.configMode, Mode.live]

end

/-- Settles O29. -/
theorem configSetTakesTheClampedValue : Obligations.ConfigSetTakesTheClampedValue := by
  intro tag id val s i h hlaw
  let u := s.afterSlot i tag 0x0A
  let owner := State.takeConfigSet (id :: be32 val.toNat)
  let t := s.plain tag 0x0A true owner
  have howner : owner u = _ := State.takeConfigSet_id id val u
  have hu : OnlyChanges [.hli] s u := State.onlyChanges_afterSlot
  have hmode {p : Param} : u.configMode p = true ↔ s.mode = .standby ∨ (paramRow p).live = true := State.configMode_iff (s := u) h.live
  refine ⟨t, State.powered_on h.powered _, fun hid => State.plain_reads h (howner.trans (by rw [hid]; rfl)), fun p hid => ?_⟩
  rw [hid] at howner
  dsimp only at howner
  refine ⟨fun hm hl => State.plain_reads h (howner.trans (if_pos ?_)), fun hm hs ha => State.plain_reads h (howner.trans ?_), fun hm hs => ?_⟩
  · rw [Bool.eq_false_iff, ne_eq, hmode]
    exact fun hx => hx.elim hm (fun hx => absurd (hl.symm.trans hx) nofun)
  · rw [if_neg (by rw [hmode.mpr (.inl hm)]; decide), if_pos ⟨hs, by rw [show u.hli.access = .drive from ha]; decide⟩]
    rfl
  -- The parameter is taken; what acts on it follows.
  have hx := configValue_range hlaw p val.toNat
  have hunpaired (hne) := configValue_unpaired (p := p) hne s.params val.toNat
  let x := configValue s.params p val.toNat
  let v := u.setParams (setParam u.params p x)
  let w := v.configActs p
  have ho : owner u = .now w (configReply (okOrClamped (x != val.toNat)) id x) := by
    rw [howner, if_neg (by rw [hmode.mpr hm]; decide), if_neg ?_]
    · rfl
    · rintro ⟨h1, h2⟩
      rcases hs with hs | hs
      · exact absurd (hs.symm.trans h1) nofun
      · exact h2 hs
  have hv : OnlyChanges [.params] u v := by simp [v]
  have hsv : OnlyChanges [.params, .hli] s v := (hu.mono (by decide)).trans (hv.mono (by decide))
  have hw : OnlyChanges retimeBlocks v w := State.configActs_only p v
  have ht : OnlyChanges [.hli] w t := State.onlyChanges_plain_run h ho
  have hvm : v.mode ≠ .halted := by
    rw [hsv .mode (by decide)]
    exact Mode.not_halted_of_live h.live
  have hvpar (q : Param) : v.par q = if q = p then x else s.par q := by
    by_cases hq : q = p
    · rw [if_pos hq, hq]
      exact getParam_setParam_same _ _ _
    · rw [if_neg hq]
      exact getParam_setParam_other _ _ hq
  have htpar (q : Param) : t.par q = v.par q := (ht.par (by decide) q).trans (hw.par (by decide) q)
  have htp : t.par p = x := (htpar p).trans ((hvpar p).trans (if_pos rfl))
  obtain ⟨due, hdue, hgrow⟩ := State.configActs_grows p hvm (s := v) h.ordered
  have hreplied := (State.replied_run h ho ((LineGrows.of_eq (s := u) (t := v) h.ordered rfl).trans hgrow)).1
  have hnode (n : NodeAddr) : v.node n = s.node n := hsv.node (by decide) n
  have htime : v.runTime = s.runTime := hsv .runTime (by decide)
  have honly {bs : List Block} (hb : OnlyChanges bs v w) : OnlyChanges (.params :: .hli :: bs) s t :=
    (hsv.mono (by simp)).trans ((hb.mono (by simp)).trans (ht.mono (by simp)))
  refine ⟨fun q => (htpar q).trans (hvpar q), htp ▸ hx.1, htp ▸ hx.2, fun hne => htp.trans (hunpaired hne), ⟨due, hdue, ?_⟩, fun hp => ?_,
    fun hp n => ?_, fun hp n => ?_, fun hp => ?_, fun hp => ?_, fun hp => ?_⟩
  · rw [htp]
    exact hreplied
  · have heq : w = v.recheckWear := State.configActs_threshold hp v
    obtain ⟨hitem, hsame, hnoted, hb⟩ := State.recheck_spec allWear (by decide) v
    rw [show (allWear.foldl (fun s k => s.putWear k (s.refound k (s.wearItem k))) v) = w from heq.symm] at hitem hsame hnoted hb
    have hall (k : WearKind) : k ∈ allWear := by cases k <;> decide
    have hold (k : WearKind) : v.wearItem k = s.wearItem k := hsv.wearItem (by decide) k
    have hnew (k : WearKind) : t.wearItem k = v.foundWear k := by rw [ht.wearItem (by decide), hitem, if_pos (hall k)]
    refine ⟨fun k => ?_, fun hst => ?_, fun k hk hothers => ?_, honly hb⟩
    · have hstate (value : Nat) : t.wearStateFor k value = v.wearStateFor k value := by
        simp only [State.wearStateFor, htpar]
      rw [hnew, State.foundWear_eq, hold, hstate]
    · refine (ht .notices (by decide)).trans ((hsame fun k _ => ?_).trans (hsv .notices (by decide)))
      rw [← hnew, hold]
      exact hst k
    · refine ((hnoted k (hall k) ?_ fun j _ hj => ?_).before hsv).after ht
      · rw [← hnew, hold]
        exact hk
      · rw [← hnew, hold]
        exact hothers j hj
  · subst hp
    obtain ⟨hrest, hat⟩ := (State.retimeStales_spec hvm).1 n
    rw [show (allNodes.foldl (fun s n => s.retimeStale n) v) = w from rfl, hnode] at hrest hat
    rw [htime, hvpar .tLost, if_neg (by decide)] at hat
    rw [ht.node (by decide), htpar]
    exact ⟨hrest, fun since hp hf => ⟨(hat since hp hf).1, fun hl => ⟨((hat since hp hf).2 hl).1,
      fun hn => State.Faulted.after (((hat since hp hf).2 hl).2 hn) ht⟩⟩⟩
  · subst hp
    obtain ⟨hrest, hat⟩ := (State.retimeLosts_spec hvm).1 n
    rw [show (allNodes.foldl (fun s n => s.retimeLost n) v) = w from rfl, hnode] at hrest hat
    rw [htime] at hat
    rw [ht.node (by decide), htpar, show t.nlc = w.nlc from ht .nlc (by decide)]
    refine ⟨hrest, fun since hp hf => ⟨(hat since hp hf).1, fun hl => ?_⟩⟩
    obtain ⟨hrecord, hqueue, hraised⟩ := (hat since hp hf).2 hl
    exact ⟨hrecord, hqueue, fun k hk => State.Faulted.after (hraised k hk) ht⟩
  · subst hp
    have hb : OnlyChanges [.bbu] v w := State.retimeSlip_only v
    have hbbu : v.bbu = s.bbu := hsv .bbu (by decide)
    refine ⟨honly hb, fun hn => ?_, fun since hn hl => ?_⟩
    · have hrest : w = v := State.retimeSlip_rests (hbbu ▸ hn)
      rw [ht .bbu (by decide), hrest, hbbu]
    · have hruns := State.retimeSlip_runs (s := v) (hbbu ▸ hn) (hbbu ▸ hl)
      rw [htime, hbbu] at hruns
      rw [ht .bbu (by decide), htpar]
      exact hruns
  · subst hp
    have hwatch : ReserveWatched v w := State.reserveWatch_spec hvm
    have hfaults : v.faults = s.faults := hsv .faults (by decide)
    have htf : t.faults = w.faults := ht .faults (by decide)
    have hstops : v.RaiseStops .zoneReserve ↔ s.RaiseStops .zoneReserve := by
      unfold State.RaiseStops
      rw [hsv.level (by decide), hfaults]
    rw [htf]
    refine ⟨(hwatch.examined.before hsv).after ht, honly (hwatch.only.mono (by decide)), fun hq => honly (hwatch.quiet ?_), fun hq => ?_⟩
    · rw [hfaults, hstops]
      exact hq
    · have hrest : w = v := hwatch.same (by rw [hfaults]; exact hq)
      exact honly (bs := []) (by rw [hrest]; exact .refl _ v)
  · exact honly (bs := []) (by rw [show w = v from State.configActs_other hp v]; exact .refl _ v)

end Sys2Proof.Machine

/-! The freshness timer, and what the hand-on of the split shares with a DEMAND. -/

namespace Sys2Proof.Machine

-- In order: proofs elaborated side by side wait for one another in too many threads.
set_option Elab.async false

/-! ## 1. Which operations offer ENG FORCE (R151, R152) -/

section
variable {s t u : State} {c : StopCause} {immediate : Bool} {n : NodeAddr} {k : EntryKind} {p : List Byte} {o : Origin}

/-- Any offer but ENG FORCE. -/
def NoForce (n : NodeAddr) (k : EntryKind) (_ : List Byte) (_ : Origin) : Prop := n ≠ .eng ∨ k ≠ .force

/-- The offers of an evaluation point: commands to the engine. -/
def CommandOffer (n : NodeAddr) (k : EntryKind) (_ : List Byte) (_ : Origin) : Prop := n = .eng ∧ k = .command

theorem CommandOffer.noForce (h : CommandOffer n k p o) : NoForce n k p o := .inr (by rw [h.2]; decide)

theorem BlendOffer.noForce (h : BlendOffer n k p o) : NoForce n k p o := .inl h.1

namespace Offers

theorem offerStop_noForce (s : State) : Offers NoForce s s.offerStop := .offer (.inr (by decide)) s

theorem enterStopping_idle (h : s.esc.machine.inService = false) : Offers NoForce s s.enterStopping := by
  unfold State.enterStopping
  rw [h]
  exact (((setEsc _ _).trans (offerStop_noForce _)).trans (setEsc _ _)).trans (setEngine _ _)

theorem abandonCrank_idle (h : s.esc.machine.inService = false) : Offers NoForce s (s.abandonCrank c) :=
  (setEsc _ _).trans (enterStopping_idle h)

theorem stopCranking_idle (h : s.esc.machine.inService = false) : Offers NoForce s (s.stopCranking c) := by
  unfold State.stopCranking
  split
  case h_5 => exact ite (refl s) (abandonCrank_idle h)
  case h_6 => exact refl s
  all_goals exact abandonCrank_idle h

theorem stopCooling_idle (h : s.esc.machine.inService = false) : Offers NoForce s (s.stopCooling c immediate) := by
  unfold State.stopCooling
  split
  case h_5 => exact ite ((setEsc _ _).trans (enterStopping_idle h)) (refl s)
  case h_6 => exact refl s
  all_goals exact setEsc _ _

/-- An engine that is not in service is stopped without ENG FORCE. -/
theorem stopCause_idle (h : s.esc.machine.inService = false) : Offers NoForce s (s.stopCause c immediate) := by
  unfold State.stopCause
  split
  · next hm => rw [hm] at h; exact absurd h (by decide)
  · next hm => rw [hm] at h; exact absurd h (by decide)
  · exact stopCranking_idle h
  · exact stopCranking_idle h
  · exact stopCooling_idle h
  · exact setEsc _ _
  · exact refl s
  · exact refl s

theorem offerStart (s : State) : Offers CommandOffer s s.offerStart := by
  have hoffer : Offers CommandOffer s (s.offer .eng .command startPayload .engine) := .offer ⟨rfl, rfl⟩ s
  unfold State.offerStart
  dsimp only
  generalize s.offer .eng .command startPayload .engine = a at hoffer
  have hworn : OnlyChanges [.wear, .notices] a a.startWear := by simp (disch := decide)
  exact ite (hoffer.trans (.off hworn)) hoffer

theorem enterCranking (c : CrankCause) (s : State) : Offers CommandOffer s (s.enterCranking c) :=
  ((offerStart s).trans (setEsc _ _)).trans (setEngine _ _)

theorem evaluateStart (s : State) : Offers CommandOffer s s.evaluateStart := by
  unfold State.evaluateStart
  split
  · split
    · exact ite (enterCranking _ s) (refl s)
    · exact refl s
  · exact ite ((setEsc _ _).trans (setEngine _ _)) (refl s)
  all_goals exact refl s

end Offers

/-- A step that may stop the engine, and offers ENG FORCE only where it takes it out of service. -/
structure StopsQuietly (s t : State) : Prop where
  machine : s.esc.machine.StopsTo t.esc.machine
  idle : s.esc.machine.inService = false → Offers NoForce s t
  running : Offers NoForce s t ∨ t.esc.machine = .cooldown ∨ t.esc.machine = .stopping

namespace StopsQuietly

theorem off (h : Offers NoForce s t) (he : t.esc = s.esc) : StopsQuietly s t := ⟨by rw [he]; exact .refl _, fun _ => h, .inl h⟩

theorem refl (s : State) : StopsQuietly s s := .off (.refl s) rfl

theorem trans (h : StopsQuietly s t) (h' : StopsQuietly t u) : StopsQuietly s u := by
  have hidle (hs : s.esc.machine.inService = false) : t.esc.machine.inService = false := by
    rcases h.machine with heq | ⟨-, heq | heq⟩ <;> rw [heq]
    · exact hs
    · rfl
    · rfl
  refine ⟨h.machine.trans h'.machine, fun hs => (h.idle hs).trans (h'.idle (hidle hs)), ?_⟩
  rcases h.running with hq | hstopped
  · exact h'.running.imp_left hq.trans
  · refine .inr ?_
    rcases h'.machine with heq | ⟨-, heq⟩
    · rw [heq]
      exact hstopped
    · exact heq

theorem stopCause (c : StopCause) (immediate : Bool) (s : State) : StopsQuietly s (s.stopCause c immediate) := by
  refine ⟨State.stopCause_machine s c immediate, fun h => .stopCause_idle h, ?_⟩
  cases h : s.esc.machine.inService with
  | false => exact .inl (.stopCause_idle h)
  | true => exact .inr (State.stopCause_leaves h)

theorem safeCause (s : State) : StopsQuietly s s.safeCause := by
  unfold State.safeCause
  split
  · exact stopCause _ _ s
  · exact refl s

theorem saturation_id (r : BlendResult) (s : State) : StopsQuietly s (s.saturation id r) := by
  have hbbu (x : BrakeUnit) : StopsQuietly s (s.setBbu x) := .off (.setBbu s x) rfl
  have hraise (x : State) : StopsQuietly x (x.raiseCore .frictionSaturated r.shortDetail) :=
    .off (.off (State.raiseCore_only _ _ x)) (State.raiseCore_only _ _ x .esc (by decide))
  have hend (x : State) : StopsQuietly x (x.endCause .frictionSaturated) :=
    .off (.off (State.endCause_only _ x)) (State.endCause_only _ x .esc (by decide))
  unfold State.saturation State.raiseWith
  dsimp only
  split
  · split
    · exact ((hbbu _).trans (hraise _)).trans (safeCause _)
    · exact (hbbu _).trans (hraise _)
  · split
    · exact (hbbu _).trans (hend _)
    · exact refl s

theorem driveBlend (slipCut : Bool) (dt : Nat) (r : BlendResult) (s : State) : StopsQuietly s (s.driveBlend slipCut dt r) :=
  .off ((Offers.driveBlend slipCut dt r s).mono BlendOffer.noForce) (State.driveBlend_only .esc (by decide))

end StopsQuietly

/-- Offers of one payload from two origins: the entry stays queued, from one or the other. -/
theorem Queued.offers_either {P : NodeAddr → EntryKind → List Byte → Origin → Prop} {o o₂ : Origin}
    (h : Queued n k p o s ∨ Queued n k p o₂ s) (hst : Offers P s t) (hP : ∀ q o', P n k q o' → q = p ∧ (o' = o ∨ o' = o₂)) :
    Queued n k p o t ∨ Queued n k p o₂ t := by
  induction hst with
  | rest hnlc _ =>
    unfold Queued
    rw [hnlc]
    exact h
  | @offer m j q o' hp s =>
    by_cases hmj : m = n ∧ j = k
    · obtain ⟨rfl, rfl⟩ := hmj
      obtain ⟨rfl, ho⟩ := hP q o' hp
      by_cases ht : s.takes m = true
      · have hoffered := State.offered_offer m j q o' s ht
        rcases ho with rfl | rfl
        · exact .inl hoffered
        · exact .inr hoffered
      · rw [show s.offer m j q o' = s from if_neg ht]
        exact h
    · have hne : m ≠ n ∨ j ≠ k := by rcases not_and_or.mp hmj with hm | hj; exacts [.inl hm, .inr hj]
      exact h.imp (fun h => h.offerAt hne _ _) (fun h => h.offerAt hne _ _)
  | trans _ _ ih ih' => exact ih' (ih h)

/-- The offers of an engine that is stopped, started or left, and of a blend, supersede ENG FORCE by a 0 of the ESC alone. -/
theorem RaiseOffer.force {q : List Byte} (h : RaiseOffer .eng .force q o) : q = [0, 0] ∧ o = .engine := by
  rcases h with h | ⟨-, ho, h | h⟩
  · exact absurd rfl h.1
  · exact absurd h (by decide)
  · exact ⟨h.2, ho⟩

theorem NoForce.force {q : List Byte} : ¬NoForce .eng .force q o := fun h => h.elim (fun h => h rfl) fun h => h rfl

end

/-! ## 2. The hand-on of the elapsed values (R136, R137) -/

section
variable {s t u : State} {r : SplitResult} {dt : Nat}

theorem State.elapsedHandOn_only (s : State) : OnlyChanges [.nlc, .esc, .wear, .notices] s s.elapsedHandOn := by
  have he := (State.evaluateStart_spec s).1
  unfold State.elapsedHandOn
  dsimp only
  generalize s.evaluateStart = v at he
  exact he.trans (OnlyChanges.ite.mpr ⟨fun _ => (EngineOnly.stopCause v .auto false).only.mono (by decide), fun _ => .refl _ v⟩)

/-- The state with the elapsed values of a time step, ahead of the hand-on (R136). -/
def State.stepElapsed (dt : Nat) (s : State) : State :=
  s.setPsu { s.psu with above := elapsedAfter (decide (s.psu.result.fECap < s.psu.result.fReq)) s.psu.above dt,
                        sufficient := elapsedAfter s.sufficient s.psu.sufficient dt }

theorem State.updateElapsed_eq (dt : Nat) (s : State) : s.updateElapsed dt = (s.stepElapsed dt).elapsedHandOn := rfl

theorem State.stepElapsed_only (dt : Nat) (s : State) : OnlyChanges [.psu] s (s.stepElapsed dt) := by simp [State.stepElapsed]

/-- Both elapsed values after a result has been put in place of the old one (R122, R123, R134, R136). -/
theorem State.stepElapsed_handsOn (hr : u.psu = { s.psu with result := r }) (hn : u.nodes = s.nodes) (hp : u.params = s.params) :
    HandsOn r dt s (u.stepElapsed dt) := by
  have hsoc : u.nodes.socSeen = s.nodes.socSeen := congrArg _ hn
  have hstop : u.par .socStop = s.par .socStop := by unfold State.par; rw [hp]
  have habove : (u.stepElapsed dt).psu.above = elapsedAfter (decide (r.fECap < r.fReq)) s.psu.above dt := by
    show elapsedAfter _ u.psu.above dt = _
    rw [hr]
  have hsuff : (u.stepElapsed dt).psu.sufficient = elapsedAfter (decide (r.fReq ≤ r.fECap) &&
      (match s.nodes.socSeen with | some soc => decide (s.par .socStop ≤ soc) | none => false)) s.psu.sufficient dt := by
    show elapsedAfter u.sufficient u.psu.sufficient dt = _
    unfold State.sufficient
    rw [hsoc, hstop, hr] <;> rfl
  refine ⟨?_, ?_, fun soc hs hle hcap => ?_, fun h => ?_⟩
  · show u.psu.result = r
    rw [hr]
  · rw [habove]
    unfold elapsedAfter
    by_cases hcap : r.fECap < r.fReq <;> simp [hcap, satAdd, max32]
  · rw [hsuff, hs]
    simp [elapsedAfter, hle, hcap, satAdd, max32]
  · rw [hsuff]
    rcases h with h | h
    · simp [elapsedAfter, Nat.not_le.mpr h]
    · cases hs : s.nodes.socSeen with
      | none => simp [elapsedAfter]
      | some soc => simp [elapsedAfter, Nat.not_le.mpr (h soc hs)]

theorem HandsOn.of_psu (h : HandsOn r dt s u) (ht : t.psu = u.psu) : HandsOn r dt s t := by
  constructor <;> rw [ht]
  exacts [h.result, h.above, h.grows, h.ends]

end


/-! ## 3. A blend, said once (R94, R99, R101) -/

section
variable {s t u : State} {r : BlendResult} {slipCut : Bool} {dt : Nat}

theorem BlendInputs.fReg_of_forced {i : BlendInputs} {p : Params}
    (h : i.slip = true ∨ i.nodeLost = true ∨ i.level = .safeStop ∨ i.reverse = true ∨ i.held = true) : i.tReg p = 0 ∧ i.fReg p = 0 := by
  have hcand : i.fCand p = 0 := Nat.le_zero.mp (BlendInputs.fRestr_of_forced (p := p) h ▸ BlendInputs.fCand_le.2.2.2)
  have htorque : i.tReg p = 0 := by simp [BlendInputs.tReg, motorTorque, hcand]
  exact ⟨htorque, by simp [BlendInputs.fReg, wheelForce, htorque]⟩

/-- The three setpoints of a blend stand in the queue (R101). -/
structure BlendOffered (r : BlendResult) (s t : State) : Prop where
  front : Offered s .bkf .pressure (1 :: be16 r.pFront) .blend t
  rear : Offered s .bkr .pressure (1 :: be16 r.pRear) .blend t
  torque : Offered s .inv .torque (be16 (twos16 (-(r.tReg : Int)))) .blend t

theorem BlendOffered.offers {P : NodeAddr → EntryKind → List Byte → Origin → Prop} (h : BlendOffered r s u) (hut : Offers P u t)
    (hP : ∀ n k q o, P n k q o → n = .eng) : BlendOffered r s t := by
  obtain ⟨hf, hr, ht⟩ := h
  exact ⟨hf.offers hut fun _ _ hp => absurd (hP _ _ _ _ hp) (by decide), hr.offers hut fun _ _ hp => absurd (hP _ _ _ _ hp) (by decide),
    ht.offers hut fun _ _ hp => absurd (hP _ _ _ _ hp) (by decide)⟩

theorem BlendOffered.before (h : BlendOffered r u t) (hn : u.nodes = s.nodes) : BlendOffered r s t := by
  have htakes (n : NodeAddr) (ht : s.takes n = true) : u.takes n = true := by
    unfold State.takes State.node at ht ⊢
    rw [hn]
    exact ht
  exact ⟨fun ht => h.front (htakes _ ht), fun ht => h.rear (htakes _ ht), fun ht => h.torque (htakes _ ht)⟩

theorem EngineOffer.eng {n : NodeAddr} {k : EntryKind} {p : List Byte} {o : Origin} (h : EngineOffer n k p o) : n = .eng := h.1

theorem State.offerBlend_offered (r : BlendResult) (s : State) : BlendOffered r s (s.offerBlend r) := by
  let a := s.offer .bkf .pressure (controlPayload r.pFront) .blend
  let b := a.offer .bkr .pressure (controlPayload r.pRear) .blend
  have ha : OnlyChanges [.nlc] s a := State.offer_only _ _ _ _ _
  have hb : OnlyChanges [.nlc] a b := State.offer_only _ _ _ _ _
  have hfront : Offered s .bkf .pressure (1 :: be16 r.pFront) .blend a := State.offered_offer _ _ _ _ _
  have hrear : Offered a .bkr .pressure (1 :: be16 r.pRear) .blend b := State.offered_offer _ _ _ _ _
  have htorque : Offered b .inv .torque (be16 (twos16 (-(r.tReg : Int)))) .blend (s.offerBlend r) := State.offered_offer _ _ _ _ _
  exact ⟨(hfront.offer (.inl (by decide))).offer (.inl (by decide)), (hrear.before ha).offer (.inl (by decide)),
    (htorque.before hb).before ha⟩

/-- The energy sums of a blend in a state (R102). -/
def State.blendEnergies (s : State) (dt : Nat) (r : BlendResult) : Joules := s.bbu.energies r s.demand.record.speed dt

theorem State.driveBlend_spec (slipCut : Bool) (dt : Nat) (r : BlendResult) (s : State) :
    (s.driveBlend slipCut dt r).bbu = s.bbu.blended r (s.blendEnergies dt r) ∧ BlendOffered r s (s.driveBlend slipCut dt r) ∧
      (r.trigger = .held → OnlyChanges [.nlc, .bbu, .wear, .notices] s (s.driveBlend slipCut dt r)) := by
  unfold State.driveBlend State.blendEnergies
  dsimp only
  generalize s.bbu.energies r s.demand.record.speed dt = e
  have ha : OnlyChanges [.bbu] s (s.setBbu (s.bbu.blended r e)) := by simp
  have habbu : (s.setBbu (s.bbu.blended r e)).bbu = s.bbu.blended r e := rfl
  generalize s.setBbu (s.bbu.blended r e) = a at ha habbu
  have hoffered := State.offerBlend_offered r a
  have hb : OnlyChanges [.nlc] a (a.offerBlend r) := by simp [State.offerBlend]
  generalize a.offerBlend r = b at hoffered hb
  have hc : OnlyChanges [.wear, .notices] b (b.padWear e.whole.front e.whole.rear) := by simp (disch := decide)
  generalize b.padWear e.whole.front e.whole.rear = c at hc
  have hd (f : FedBlend) : OnlyChanges [.log, .wear, .notices] b (if r.trigger = .held then c else c.logBlend f) :=
    (hc.mono (by decide)).trans (OnlyChanges.ite.mpr ⟨fun _ => .refl _ c, fun _ => by simp (disch := decide)⟩)
  refine ⟨?_, ?_, fun ht => ?_⟩
  · rw [hd _ .bbu (by decide), hb .bbu (by decide), habbu]
  · exact (hoffered.offers (P := EngineOffer) (.off (hd _)) fun _ _ _ _ => EngineOffer.eng).before (ha .nodes (by decide))
  · rw [if_pos ht]
    exact (ha.mono (by decide)).trans ((hb.mono (by decide)).trans (hc.mono (by decide)))

/-- With no recovery left a raise finds nothing to cut (R86). -/
theorem State.cutReblend_idle (h : s.bbu.prev = 0) : s.cutReblend slipCut = s := if_neg (by simp [h])

theorem State.saturation_cut_idle (h : s.bbu.prev = 0) (r : BlendResult) : s.saturation (State.cutReblend false) r = s.saturation id r := by
  have hcut : ((s.setBbu { s.bbu with saturated := true }).raiseCore .frictionSaturated r.shortDetail).cutReblend false =
      (s.setBbu { s.bbu with saturated := true }).raiseCore .frictionSaturated r.shortDetail := by
    refine State.cutReblend_idle ?_
    rw [State.raiseCore_only _ _ _ .bbu (by decide)]
    exact h
  unfold State.saturation State.raiseWith
  dsimp only
  rw [hcut]
  rfl

/-- After a blend the saturated flag is that of its shortfall; nothing else of the BBU moves (R99). -/
theorem State.saturation_id_bbu (r : BlendResult) (s : State) : (s.saturation id r).bbu = { s.bbu with saturated := r.short } := by
  unfold State.saturation State.raiseWith
  dsimp only
  by_cases hs : r.short = true
  · rw [if_pos hs, hs]
    have hraise := State.raiseCore_only .frictionSaturated r.shortDetail (s.setBbu { s.bbu with saturated := true }) .bbu (by decide)
    generalize (s.setBbu { s.bbu with saturated := true }).raiseCore .frictionSaturated r.shortDetail = v at hraise
    split
    · exact ((State.safeCause_engine _).only .bbu (by decide)).trans hraise
    · exact hraise
  · rw [if_neg hs, Bool.eq_false_iff.mpr hs]
    by_cases hsat : s.bbu.saturated = true
    · rw [if_pos hsat]
      exact State.endCause_only .frictionSaturated _ .bbu (by decide)
    · rw [if_neg hsat, ← Bool.eq_false_iff.mpr hsat]

end

/-! ## 4. The held computations (R84, R123) -/

section
variable {s t u : State}

/-- What the hand-on does to the queue: an evaluation point, which offers no ENG FORCE, and then perhaps stop cause AUTO. -/
theorem State.updateElapsed_offers (dt : Nat) (u : State) : ∃ v, Offers CommandOffer u v ∧
    (u.esc.machine = .stopping → v.esc.machine = .stopping) ∧ StopsQuietly v (u.updateElapsed dt) ∧
    Offers EngineOffer v (u.updateElapsed dt) := by
  rw [State.updateElapsed_eq]
  have hstep := State.stepElapsed_only dt u
  have hesc : (u.stepElapsed dt).esc = u.esc := hstep .esc (by decide)
  unfold State.elapsedHandOn
  dsimp only
  have hstart := Offers.evaluateStart (u.stepElapsed dt)
  have hother := State.evaluateStart_other (s := u.stepElapsed dt)
  generalize u.stepElapsed dt = w at hstep hesc hstart hother
  generalize w.evaluateStart = v at hstart hother
  refine ⟨v, (Offers.off hstep).trans hstart, fun hm => ?_, ?_, Offers.ite (.stopCause _ _ _) (.refl v)⟩
  · rw [hother (by rw [hesc, hm]; decide) (by rw [hesc, hm]; decide), hesc]
    exact hm
  · split
    · exact .stopCause _ _ v
    · exact .refl v

/-- A held split: its offers, and what its hand-on makes of them (R123). -/
structure SplitsHeld (s t : State) : Prop where
  handsOn : HandsOn .initial (s.par .tFresh) s t
  force : ∃ f v, Offered s .eng .force [0, 0] .split f ∧ Offers CommandOffer f v ∧ (s.esc.machine = .stopping → v.esc.machine = .stopping) ∧
    StopsQuietly v t ∧ Offers EngineOffer v t
  torque : s.demand.record.brake = 0 → Offered s .inv .torque [0, 0] .split t
  only : OnlyChanges [.nlc, .psu, .esc, .wear, .notices] s t

theorem State.heldSplit_spec (s : State) : SplitsHeld s s.heldSplit := by
  let d := s.setSplit .initial
  let e := if d.demand.record.brake = 0 then d.offerTorque 0 else d
  let f := e.offerForce 0
  have heq : s.heldSplit = f.updateElapsed (e.par .tFresh) := rfl
  have hd : OnlyChanges [.psu] s d := by simp [d, State.setSplit]
  have hdpsu : d.psu = { s.psu with result := .initial } := rfl
  have he : OnlyChanges [.nlc] d e := OnlyChanges.ite.mpr ⟨fun _ => State.offer_only _ _ _ _ d, fun _ => .refl _ d⟩
  have hf : OnlyChanges [.nlc] e f := State.offer_only _ _ _ _ _
  have hforce : Offered e .eng .force [0, 0] .split f := forcePayload_zero ▸ State.offered_offer .eng .force (forcePayload 0) .split e
  have htorque (hb : s.demand.record.brake = 0) : Offered s .inv .torque [0, 0] .split f := by
    have hoffer : e = d.offer .inv .torque (torquePayload 0) .split := if_pos hb
    have := State.offered_offer .inv .torque (torquePayload 0) .split d
    rw [← hoffer, torquePayload_zero] at this
    exact (this.before hd).offer (.inl (by decide))
  have hsf : OnlyChanges [.nlc, .psu] s f := (hd.mono (by decide)).trans ((he.mono (by decide)).trans (hf.mono (by decide)))
  have hfpsu : f.psu = { s.psu with result := .initial } := (hf .psu (by decide)).trans ((he .psu (by decide)).trans hdpsu)
  have hpar : e.par .tFresh = s.par .tFresh := (he.par (by decide) _).trans (hd.par (by decide) _)
  obtain ⟨v, hquiet, hstopping, hstops, hengine⟩ := State.updateElapsed_offers (e.par .tFresh) f
  have hfesc : f.esc = s.esc := hsf .esc (by decide)
  have hhands := State.stepElapsed_handsOn (dt := e.par .tFresh) hfpsu (hsf .nodes (by decide)) (hsf .params (by decide))
  have hstep := State.stepElapsed_only (e.par .tFresh) f
  have hlast := State.elapsedHandOn_only (f.stepElapsed (e.par .tFresh))
  rw [← State.updateElapsed_eq] at hlast
  rw [heq]
  refine ⟨?_, ⟨f, v, (hforce.before he).before hd, hquiet, fun hm => hstopping (hfesc ▸ hm), hstops, hengine⟩, fun hb => ?_, ?_⟩
  · rw [hpar] at hhands hlast ⊢
    exact hhands.of_psu (hlast .psu (by decide))
  · exact ((htorque hb).offers hquiet fun _ _ hp => absurd hp.1 (by decide)).offers hengine fun _ _ hp => absurd hp.1 (by decide)
  · exact (hsf.mono (by decide)).trans ((hstep.mono (by decide)).trans (hlast.mono (by decide)))

end


/-! ## 5. The expiry of the freshness timer (O35) -/

section
variable {s t u : State}

/-- A held blend, where the record asks for brake (R84, R101). -/
structure BlendsHeld (r : BlendResult) (s t : State) : Prop where
  result : t.bbu.result = r
  prev : t.bbu.prev = 0
  offered : BlendOffered r s t

/-- What a held blend leaves alone, with a brake request or none. -/
structure HeldQuietly (s t : State) : Prop where
  stops : StopsQuietly s t
  offers : Offers RaiseOffer s t
  raised : ∀ P, Lasts P → s.Faulted P → t.Faulted P
  only : OnlyChanges [.nlc, .bbu, .esc, .wear, .faults, .notices] s t

theorem State.blendResult_held (s : State) : (s.blendResult .held).fReg = 0 ∧ (s.blendResult .held).tReg = 0 ∧
    (s.blendResult .held).trigger = .held ∧ (s.blendResult .held).fDem = s.demand.record.mass * s.demand.record.brake / 100 := by
  obtain ⟨htorque, hforce⟩ := BlendInputs.fReg_of_forced (i := s.blendInputs true) (p := s.params) (.inr (.inr (.inr (.inr rfl))))
  exact ⟨hforce, htorque, rfl, rfl⟩

theorem State.heldBlend_spec (s : State) : HeldQuietly s s.heldBlend ∧ 
    (0 < s.demand.record.brake → BlendsHeld (s.blendResult .held) s s.heldBlend) ∧ (s.demand.record.brake = 0 → s.heldBlend = s) := by
  by_cases hb : 0 < s.demand.record.brake
  · have hrun : s.heldBlend = s.applyBlend (State.cutReblend false) false (s.par .tFresh) (s.blendResult .held) := if_pos hb
    obtain ⟨hreg, -, htrigger, -⟩ := s.blendResult_held
    generalize s.blendResult .held = r at hrun hreg htrigger
    rw [State.applyBlend_eq] at hrun
    obtain ⟨hbbu, hoffered, honly⟩ := State.driveBlend_spec false (s.par .tFresh) r s
    have hquiet := StopsQuietly.driveBlend false (s.par .tFresh) r s
    have hoffers := Offers.driveBlend false (s.par .tFresh) r s
    generalize s.driveBlend false (s.par .tFresh) r = v at hrun hbbu hoffered honly hquiet hoffers
    have hprev : v.bbu.prev = 0 := by
      rw [hbbu]
      exact hreg
    rw [State.saturation_cut_idle hprev] at hrun
    have hlast := State.saturation_id_bbu r v
    have hlastOffers := Offers.saturation_id r v
    have hlastOnly := State.saturation_id_only r v
    rw [hrun]
    refine ⟨⟨hquiet.trans (.saturation_id r v), (hoffers.mono .inl).trans (hlastOffers.mono .inr), fun P hP hs => ?_,
      ((honly htrigger).mono (by decide)).trans (hlastOnly.mono (by decide))⟩, fun _ => ⟨?_, ?_, ?_⟩, fun h0 => absurd h0 hb.ne'⟩
    · exact (hs.after (honly htrigger)).saturation_id hP
    · rw [hlast, hbbu]
      rfl
    · rw [hlast]
      exact hprev
    · exact hoffered.offers hlastOffers fun _ _ _ _ => EngineOffer.eng
  · have hrest : s.heldBlend = s := if_neg hb
    rw [hrest]
    exact ⟨⟨.refl s, .refl s, fun _ _ h => h, .refl _ s⟩, fun h => absurd h hb, fun _ => rfl⟩

/-- The stages of the expiry up to the held computations (R15). -/
def State.staleClosed (s : State) : State :=
  ((s.setDemand { s.demand with stale := true, freshness := none }).raise .demandStale 0).closeEvent .stale

structure StaleClosed (s t : State) : Prop where
  demand : t.demand = { s.demand with stale := true, freshness := none }
  raised : t.Raised .demandStale
  closed : t.log.current = none
  machine : s.esc.machine.StopsTo t.esc.machine
  only : OnlyChanges [.demand, .nlc, .bbu, .esc, .log, .wear, .faults, .notices] s t

theorem State.staleClosed_spec (hm : s.mode ≠ .halted) : StaleClosed s s.staleClosed := by
  unfold State.staleClosed
  have ha : OnlyChanges [.demand] s (s.setDemand { s.demand with stale := true, freshness := none }) := by simp
  have hademand : (s.setDemand { s.demand with stale := true, freshness := none }).demand =
      { s.demand with stale := true, freshness := none } := rfl
  generalize s.setDemand { s.demand with stale := true, freshness := none } = a at ha hademand
  have hb := State.raise_only .demandStale 0 a
  have hraised := State.raised_raise (s := a) (k := .demandStale) (by rw [ha .mode (by decide)]; exact hm) (by decide) 0
  have hmachine := State.raise_machine .demandStale 0 a
  rw [ha .esc (by decide)] at hmachine
  generalize a.raise .demandStale 0 = b at hb hraised hmachine
  have hc : OnlyChanges [.log, .notices] b (b.closeEvent .stale) := by simp
  refine ⟨?_, State.Faulted.after hraised hc, State.closeEvent_current _ _, ?_,
    (ha.mono (by decide)).trans ((hb.mono (by decide)).trans (hc.mono (by decide)))⟩
  · rw [hc .demand (by decide), hb .demand (by decide), hademand]
  · rw [hc .esc (by decide)]
    exact hmachine

theorem State.goStale_eq (s : State) : s.goStale =
    (s.staleClosed.heldSplit.heldBlend).setDemand { (s.staleClosed.heldSplit.heldBlend).demand with
      freshness := some ((s.staleClosed.heldSplit.heldBlend).par .tFresh) } := by
  simp only [State.goStale, State.staleClosed]

end

/-- Settles O35. -/
theorem freshnessExpiryHoldsTheDemand : Obligations.FreshnessExpiryHoldsTheDemand := by
  intro s h
  refine ⟨fun ht => (State.powered_on h _).trans (congrArg _ (State.expireLive_other ht)), fun hm ht => ?_⟩
  have hrun : exec .freshnessTimerExpiry s = .next s.freshnessExpires :=
    (State.powered_on h _).trans (congrArg _ (State.expireLive_ended hm ht))
  refine ⟨s.freshnessExpires, hrun, fun hready => ?_, fun hother => ?_⟩
  swap
  · rw [show s.freshnessExpires = s.setDemand { s.demand with freshness := none } from if_neg hother]
    exact ⟨rfl, by simp⟩
  have hblocks : OnlyChanges (.demand :: .psu :: raiseBlocks) s s.goStale := by simp (disch := decide)
  rw [show s.freshnessExpires = s.goStale from if_pos hready]
  rw [State.goStale_eq] at hblocks ⊢
  -- The stages: the raise and the end of the event, the held split, the held blend, the timer.
  have hclosed := State.staleClosed_spec (Mode.not_halted_of_live hm)
  generalize s.staleClosed = a at hclosed hblocks
  have hsplit := State.heldSplit_spec a
  generalize a.heldSplit = b at hsplit hblocks
  obtain ⟨hquiet, hheld, hrest⟩ := State.heldBlend_spec b
  have hresult := State.blendResult_held b
  generalize b.blendResult .held = r at hheld hresult
  generalize b.heldBlend = c at hquiet hheld hrest hblocks
  have hlast : OnlyChanges [.demand] c (c.setDemand { c.demand with freshness := some (c.par .tFresh) }) := by simp
  have htdemand : (c.setDemand { c.demand with freshness := some (c.par .tFresh) }).demand =
      { c.demand with freshness := some (c.par .tFresh) } := rfl
  generalize c.setDemand { c.demand with freshness := some (c.par .tFresh) } = t at hlast htdemand hblocks
  have hac : OnlyChanges [.nlc, .bbu, .psu, .esc, .wear, .faults, .notices] a c :=
    (hsplit.only.mono (by decide)).trans (hquiet.only.mono (by decide))
  have hsb : OnlyChanges [.demand, .nlc, .bbu, .psu, .esc, .log, .wear, .faults, .notices] s b :=
    (hclosed.only.mono (by decide)).trans (hsplit.only.mono (by decide))
  have hbdemand : b.demand = { s.demand with stale := true, freshness := none } := (hsplit.only .demand (by decide)).trans hclosed.demand
  have hpar (p : Param) : a.par p = s.par p := hclosed.only.par (by decide) p
  have htbbu : t.bbu = c.bbu := hlast .bbu (by decide)
  obtain ⟨f, v, hforce, hstart, hstopping, hauto, hautoOffers⟩ := hsplit.force
  have hforce' : Offered s .eng .force [0, 0] .split f := hforce.before hclosed.only
  refine ⟨?_, ?_, ?_, ?_, fun htakes => ?_, fun hcool hstands => ?_, fun hb => ?_, fun hb => ?_, hblocks⟩
  · rw [htdemand, hac .demand (by decide), hclosed.demand, hac.par (by decide), hpar]
  · refine State.Faulted.after (hquiet.raised _ (.raised (by decide)) (State.Faulted.after hclosed.raised hsplit.only)) hlast
  · rw [hlast .log (by decide), hac .log (by decide)]
    exact hclosed.closed
  · obtain ⟨hr, habove, hgrows, hends⟩ := hsplit.handsOn
    have hpsu : t.psu = b.psu := (hlast .psu (by decide)).trans (hquiet.only .psu (by decide))
    have hold : a.psu = s.psu := hclosed.only .psu (by decide)
    rw [hpar, hold] at habove hgrows
    rw [hclosed.only .nodes (by decide), hpar] at hgrows hends
    exact HandsOn.of_psu ⟨hr, habove, hgrows, hends⟩ hpsu
  · have hqueued := hforce' htakes
    have hv : Queued .eng .force [0, 0] .split v := hqueued.offers hstart fun _ _ hp => absurd hp.2 (by decide)
    have hb := Queued.offers_either (o₂ := .engine) (.inl hv) ((hautoOffers.mono .inr).trans hquiet.offers)
      fun _ _ hp => ⟨hp.force.1, .inr hp.force.2⟩
    exact hb.imp (fun hq => hq.after hlast) (fun hq => hq.after hlast)
  · -- A machine that stands has not been taken out of service after the offer.
    have hstops := hauto.trans hquiet.stops
    have hmachine : c.esc.machine = s.esc.machine := by
      rw [← hlast .esc (by decide)]
      exact hstands
    have hcalm : Offers NoForce v c := by
      by_cases hs : s.esc.machine = .stopping
      · have ha : a.esc.machine = .stopping := (hclosed.machine.stands (.inr (.inr hs))).trans hs
        exact hstops.idle (by rw [hstopping ha]; rfl)
      · refine hstops.running.resolve_right ?_
        rw [hmachine]
        exact fun h => h.elim hcool hs
    exact ((hforce'.offers hstart fun _ _ hp => absurd hp.2 (by decide)).offers hcalm fun _ _ hp => absurd hp NoForce.force).after hlast
  · have hcb : c = b := hrest (by rw [hbdemand]; exact hb)
    have htorque := (hsplit.torque (by rw [hclosed.demand]; exact hb)).before hclosed.only
    rw [← hcb] at htorque
    exact htorque.after hlast
  · have hb' : 0 < b.demand.record.brake := by
      rw [hbdemand]
      exact hb
    obtain ⟨hcr, hprev, hoffered⟩ := hheld hb'
    obtain ⟨hreg, htreg, htrigger, hfdem⟩ := hresult
    have ho := hoffered.before (hsb .nodes (by decide))
    rw [htbbu, hcr]
    refine ⟨htrigger, hreg, hprev, hfdem.trans ?_, ?_, ho.front.after hlast, ho.rear.after hlast⟩
    · rw [hbdemand]
    · have htorque := ho.torque.after hlast
      rw [htreg] at htorque
      exact htorque

end Sys2Proof.Machine

namespace Sys2Proof.Machine

-- In order: proofs elaborated side by side wait for one another in too many threads.
set_option Elab.async false

/-! ## 6. A raise that takes the level to SAFE_STOP, and one that does not (R86, R196) -/

section
variable {s t u : State} {k : FaultKind} {j : NoticeKind} {detail : Nat}

/-- The notices that a raise and its cut re-blend may give. -/
def raiseNotices : List NoticeKind := [.faultRaised, .faultCleared, .restriction, .wear]

/-- A change of faults and blend that leaves the engine and its notices alone. -/
structure LeavesEngine (s t : State) : Prop where
  offers : Offers BlendOffer s t
  notices : ∀ j ∉ raiseNotices, t.noticeOf j = s.noticeOf j
  only : OnlyChanges [.nlc, .bbu, .log, .wear, .faults, .notices] s t

theorem LeavesEngine.refl (s : State) : LeavesEngine s s := ⟨.refl s, fun _ _ => rfl, .refl _ s⟩

theorem LeavesEngine.trans (h : LeavesEngine s t) (h' : LeavesEngine t u) : LeavesEngine s u :=
  ⟨h.offers.trans h'.offers, fun j hj => (h'.notices j hj).trans (h.notices j hj), h.only.trans h'.only⟩

theorem LeavesEngine.off {bs : List Block} (h : OnlyChanges bs s t) (hb : bs ⊆ [.bbu, .log, .wear, .faults] := by decide) :
    LeavesEngine s t :=
  have hm := h.mono hb
  ⟨.off hm, fun j _ => hm.noticeOf (by decide) j, hm.mono (by decide)⟩

theorem State.noticeOf_noteRestriction (hr : j ≠ .restriction) (s before : State) : (s.noteRestriction before).noticeOf j = s.noticeOf j := by
  unfold State.noteRestriction
  split
  · rfl
  · exact State.noticeOf_notify_other _ _ hr

theorem State.noticeOf_raiseCore (hf : j ≠ .faultRaised) (hr : j ≠ .restriction) (s : State) :
    (s.raiseCore k detail).noticeOf j = s.noticeOf j := by
  unfold State.raiseCore
  split
  · rfl
  · exact (State.noticeOf_noteRestriction hr _ _).trans (State.noticeOf_notify_other _ _ hf)

theorem State.noted_raiseCore (hm : s.mode ≠ .halted) : Noted .faultRaised k.code s (s.raiseCore k detail) := by
  unfold State.raiseCore Noted
  rw [if_neg hm]
  exact (State.noticeOf_noteRestriction (by decide) _ _).trans (State.noticeOf_notify_same _ .faultRaised _)

theorem LeavesEngine.raiseCore (k : FaultKind) (detail : Nat) (s : State) : LeavesEngine s (s.raiseCore k detail) := by
  have h := State.raiseCore_only k detail s
  refine ⟨.off h, fun j hj => State.noticeOf_raiseCore ?_ ?_ s, h.mono (by decide)⟩
  · rintro rfl; exact hj (by decide)
  · rintro rfl; exact hj (by decide)

theorem LeavesEngine.endCause (k : FaultKind) (s : State) : LeavesEngine s (s.endCause k) := by
  have h := State.endCause_only k s
  refine ⟨.off h, fun j hj => State.noticeOf_endCause k ?_ ?_ s, h.mono (by decide)⟩
  · rintro rfl; exact hj (by decide)
  · rintro rfl; exact hj (by decide)

theorem State.noticeOf_addEnergy (hw : j ≠ .wear) (k : WearKind) (unit amount : Nat) (s : State) :
    (s.addEnergy k unit amount).noticeOf j = s.noticeOf j := State.noticeOf_putWear _ _ _ hw

theorem State.noticeOf_padWear (hw : j ≠ .wear) (front rear : Nat) (s : State) : (s.padWear front rear).noticeOf j = s.noticeOf j := by
  have haxle (left right : WearKind) (temps : Option Int × Option Int) (joules : Nat) (s : State) :
      (s.padAxle left right temps joules).noticeOf j = s.noticeOf j := by
    unfold State.padAxle
    dsimp only
    exact (State.noticeOf_addEnergy hw _ _ _ _).trans (State.noticeOf_addEnergy hw _ _ _ _)
  unfold State.padWear
  dsimp only
  exact (haxle _ _ _ _ _).trans (haxle _ _ _ _ _)

theorem LeavesEngine.driveBlend (slipCut : Bool) (dt : Nat) (r : BlendResult) (s : State) : LeavesEngine s (s.driveBlend slipCut dt r) := by
  refine ⟨.driveBlend slipCut dt r s, fun j hj => ?_, State.driveBlend_only.mono (by decide)⟩
  have hw : j ≠ .wear := by rintro rfl; exact hj (by decide)
  unfold State.driveBlend
  dsimp only
  generalize s.bbu.energies r s.demand.record.speed dt = e
  have ha : OnlyChanges [.nlc, .bbu] s ((s.setBbu (s.bbu.blended r e)).offerBlend r) := by simp
  generalize (s.setBbu (s.bbu.blended r e)).offerBlend r = a at ha
  have hb := State.noticeOf_padWear hw e.whole.front e.whole.rear a
  generalize a.padWear e.whole.front e.whole.rear = b at hb
  have hlog (f : FedBlend) : OnlyChanges [.log] b (if r.trigger = .held then b else b.logBlend f) :=
    OnlyChanges.ite.mpr ⟨fun _ => .refl _ b, fun _ => by simp (disch := decide)⟩
  exact ((hlog _).noticeOf (by decide) j).trans (hb.trans (ha.noticeOf (by decide) j))

/-- At SAFE_STOP a shortfall halts nothing further (R196). -/
theorem LeavesEngine.saturation_id (h : s.level = .safeStop) (r : BlendResult) : LeavesEngine s (s.saturation id r) := by
  have hset (b : Bool) : LeavesEngine s (s.setBbu { s.bbu with saturated := b }) := .off (bs := [.bbu]) (by simp)
  have hlevel : (s.setBbu { s.bbu with saturated := true }).level = .safeStop := h
  unfold State.saturation State.raiseWith
  dsimp only
  split
  · rw [if_neg (by simp [becameSafeStop, hlevel])]
    exact (hset true).trans (.raiseCore _ _ _)
  · split
    · exact (hset false).trans (.endCause _ _)
    · exact .refl s

theorem LeavesEngine.cutReblend (h : s.level = .safeStop) (slipCut : Bool) : LeavesEngine s (s.cutReblend slipCut) := by
  unfold State.cutReblend
  split
  · rw [State.applyBlend_eq]
    have hd := LeavesEngine.driveBlend slipCut 0 (s.blendResult .cut) s
    exact hd.trans (.saturation_id (by rw [State.driveBlend_only.level (by decide)]; exact h) _)
  · exact .refl s

/-- A cut re-blend at SAFE_STOP recovers nothing (R86, R93). -/
theorem State.cutReblend_cuts (h : s.level = .safeStop) (hm : s.mode = .ready) (hp : 0 < s.bbu.prev) (slipCut : Bool) :
    (s.cutReblend slipCut).bbu.result = s.blendResult .cut ∧ (s.blendResult .cut).fReg = 0 ∧ (s.blendResult .cut).tReg = 0 ∧
      (s.cutReblend slipCut).bbu.prev = 0 := by
  obtain ⟨htorque, hforce⟩ := BlendInputs.fReg_of_forced (i := s.blendInputs false) (p := s.params) (.inr (.inr (.inl h)))
  have hrun : s.cutReblend slipCut = s.applyBlend id slipCut 0 (s.blendResult .cut) := if_pos ⟨hm, hp⟩
  have hr : (s.blendResult .cut).fReg = 0 := hforce
  rw [hrun, State.applyBlend_eq, State.saturation_id_bbu, (State.driveBlend_spec _ _ _ _).1]
  exact ⟨rfl, hr, htorque, hr⟩

/-- A raise that takes the level to SAFE_STOP: the raise with its cut re-blend, and then stop cause SAFE (R196). -/
structure Halts (k : FaultKind) (s t : State) : Prop where
  stages : ∃ v, LeavesEngine s v ∧ t = v.safeCause ∧ (s.mode = .ready → 0 < s.bbu.prev →
      v.bbu.result.trigger = .cut ∧ v.bbu.result.fReg = 0 ∧ v.bbu.prev = 0) ∧
    (s.mode ≠ .ready ∨ s.bbu.prev = 0 → OnlyChanges [.faults, .notices] s v)
  level : t.level = .safeStop

theorem State.raise_halts (hm : s.mode ≠ .halted) (hk : k ≠ .frictionSaturated) (h : s.RaiseStops k) : Halts k s (s.raise k detail) := by
  have hb : becameSafeStop s (s.raiseCore k detail) = true := (State.becameSafeStop_iff hm).mpr h
  have hlevel := State.level_raise (s := s) (k := k) (detail := detail) hk hb
  rw [State.raise_stops hb] at hlevel ⊢
  have hcore := State.raiseCore_only k detail s
  have hleaves := LeavesEngine.raiseCore k detail s
  have hsafe : (s.raiseCore k detail).level = .safeStop := by simpa [becameSafeStop] using (Bool.and_eq_true_iff.mp hb).2
  generalize s.raiseCore k detail = a at hcore hleaves hsafe hlevel
  refine ⟨⟨a.cutReblend false, hleaves.trans (.cutReblend hsafe false), rfl, fun hmode hp => ?_, fun hidle => ?_⟩, hlevel⟩
  · obtain ⟨hr, hf, -, hprev⟩ := State.cutReblend_cuts hsafe (by rw [hcore .mode (by decide)]; exact hmode)
      (by rw [hcore .bbu (by decide)]; exact hp) false
    rw [hr]
    exact ⟨rfl, hf, hprev⟩
  · have hrest : a.cutReblend false = a := by
      refine if_neg ?_
      rw [hcore .mode (by decide), hcore .bbu (by decide)]
      rintro ⟨h1, h2⟩
      rcases hidle with hi | hi
      · exact hi h1
      · omega
    rw [hrest]
    exact hcore

theorem State.raise_only_faults (hm : s.mode ≠ .halted) (h : ¬s.RaiseStops k) : s.raise k detail = s.raiseCore k detail :=
  State.raise_rests (Bool.eq_false_iff.mpr fun hb => h ((State.becameSafeStop_iff hm).mp hb))

/-- The watch raises: the mark, and the raise (R197). -/
def State.ReserveRaises (s : State) : Prop := s.faults.reserve = false ∧ ∃ soc, s.nodes.socSeen = some soc ∧ soc < s.par .socReserve

/-- The watch by what it raises, in a zone (R197). -/
theorem State.reserveWatch_zone (hm : s.mode ≠ .halted) (hz : s.demand.zone = true) :
    (s.ReserveRaises → s.RaiseStops .zoneReserve → ∃ a, OnlyChanges [.faults] s a ∧ Halts .zoneReserve a s.reserveWatch) ∧
    (¬(s.ReserveRaises ∧ s.RaiseStops .zoneReserve) → LeavesEngine s s.reserveWatch ∧ OnlyChanges [.faults, .notices] s s.reserveWatch) ∧
    (s.ReserveRaises → ¬s.RaiseStops .zoneReserve → Noted .faultRaised FaultKind.zoneReserve.code s s.reserveWatch) := by
  have hset : OnlyChanges [.faults] s (s.setFaults { s.faults with reserve := true }) := by simp
  have hfaults : (s.setFaults { s.faults with reserve := true }).faults = { s.faults with reserve := true } := rfl
  have hraise (soc : Nat) (hs : s.nodes.socSeen = some soc) := State.reserveWatch_raises hs hz
  generalize s.setFaults { s.faults with reserve := true } = a at hset hfaults hraise
  have ham : a.mode ≠ .halted := by rw [hset .mode (by decide)]; exact hm
  have hstops : a.RaiseStops .zoneReserve ↔ s.RaiseStops .zoneReserve := by
    unfold State.RaiseStops
    have hlevel : a.level = s.level := by
      unfold State.level
      rw [hfaults]
    rw [hlevel, hfaults]
    rfl
  refine ⟨fun ⟨hr, soc, hs, hl⟩ hstop => ⟨a, hset, ?_⟩, fun hno => ?_, fun ⟨hr, soc, hs, hl⟩ hstop => ?_⟩
  · rw [hraise soc hs hr hl]
    exact State.raise_halts ham (by decide) (hstops.mpr hstop)
  · by_cases hr : s.ReserveRaises
    · obtain ⟨hr', soc, hs, hl⟩ := hr
      rw [hraise soc hs hr' hl, State.raise_only_faults ham (fun h => hno ⟨⟨hr', soc, hs, hl⟩, hstops.mp h⟩)]
      exact ⟨(LeavesEngine.off hset).trans (.raiseCore _ _ _), (hset.mono (by decide)).trans (State.raiseCore_only _ _ _)⟩
    · have hends (x : FaultUnit) : LeavesEngine s ((s.setFaults x).endCause .zoneReserve) ∧
          OnlyChanges [.faults, .notices] s ((s.setFaults x).endCause .zoneReserve) := by
        have hx : OnlyChanges [.faults] s (s.setFaults x) := by simp
        exact ⟨(LeavesEngine.off hx).trans (.endCause _ _), (hx.mono (by decide)).trans (State.endCause_only _ _)⟩
      have hrest : LeavesEngine s s ∧ OnlyChanges [.faults, .notices] s s := ⟨.refl s, .refl _ s⟩
      unfold State.reserveWatch
      split
      · exact hrest
      · next soc hs =>
        split
        · exact hrest
        · split
          · split
            · exact hends _
            · exact hrest
          · next hr' =>
            rw [if_neg fun hl => hr ⟨Bool.eq_false_iff.mpr hr', soc, hs, hl⟩]
            exact hrest
  · rw [hraise soc hs hr hl, State.raise_only_faults ham (fun h => hstop (hstops.mp h))]
    exact (State.noted_raiseCore ham).before hset

end


/-! ## 7. The zone requests (O15) -/

section
variable {s t u v : State}

/-- The engine that stop cause ZONE stops at once. -/
def EngineUnit.zoneStopped (e : EngineUnit) (tStop : Nat) : EngineUnit :=
  { e with machine := .stopping, stopCause := some .zone, cooldownTimer := none, crankTimer := none, restTimer := none,
           stopTimer := some tStop, stopExpiries := 0 }

/-- What stop cause ZONE makes of the engine, by the state it finds (R151, R152). -/
structure ZoneStops (s t : State) : Prop where
  cools : s.esc.machine = .warmup ∨ s.esc.machine = .run → 0 < s.par .tCool →
    t.esc = { s.esc with machine := .cooldown, stopCause := some .zone, cooldownTimer := some (s.par .tCool * 1000) } ∧
    Offered s .eng .force [0, 0] .engine t ∧ Noted .engine 5 s t
  stops : s.esc.machine = .warmup ∨ s.esc.machine = .run → s.par .tCool = 0 →
    t.esc = s.esc.zoneStopped (s.par .tStop) ∧ Offered s .eng .force [0, 0] .engine t ∧ Offered s .eng .command [2] .engine t
  abandons : s.esc.machine = .cranking ∨ s.esc.machine = .retryWait → s.esc.crankCause ≠ some .hostOverride →
    t.esc = { s.esc.zoneStopped (s.par .tStop) with crankCause := none } ∧ Offered s .eng .command [2] .engine t ∧ Noted .engine 6 s t
  goesOn : s.esc.machine = .cranking ∨ s.esc.machine = .retryWait → s.esc.crankCause = some .hostOverride → t.esc = s.esc
  cooling : s.esc.machine = .cooldown → t.esc = { s.esc with stopCause := some .zone }
  stopping : s.esc.machine = .stopping → t.esc = { s.esc with
    stopCause := some .zone, latch := if s.esc.latch = some true then some true else none }
  rests : s.esc.machine = .off ∨ s.esc.machine = .fault → t.esc = s.esc

theorem inService_iff {m : EngineState} : m.inService = true ↔ m = .warmup ∨ m = .run := by cases m <;> simp [EngineState.inService]

theorem State.stopCause_zone (s : State) : ZoneStops s (s.stopCause .zone false) := by
  refine ⟨fun hm ht => ?_, fun hm ht => ?_, fun hm hc => ?_, fun hm hc => ?_, fun hm => ?_, fun hm => ?_, fun hm => ?_⟩
  · have hcool := State.stopCause_cools (c := .zone) (inService_iff.mpr hm) ht
    exact ⟨hcool.esc, hcool.force, hcool.noted⟩
  · rw [State.stopCause_inService (inService_iff.mpr hm), State.stopRunning_cools (.inl rfl)]
    obtain ⟨hesc, hstop, hforce, -⟩ := State.enterCooldown_stops (c := .zone) (inService_iff.mpr hm) ht
    exact ⟨hesc, hforce, hstop⟩
  · rw [State.stopCause_crank hm, show s.stopCranking .zone = s.abandonCrank .zone from if_neg hc]
    obtain ⟨hesc, hstop, hnoted, -⟩ := State.abandonCrank_spec (c := .zone) hm
    exact ⟨hesc, hstop, hnoted⟩
  · rw [State.stopCause_crank hm, show s.stopCranking .zone = s from if_pos hc]
  · rw [State.stopCause_cooldown hm]
    rfl
  · rw [State.stopCause_stopping hm]
    simp [State.stopStopping]
  · rw [State.stopCause_rest hm]

/-- The engine as stop cause SAFE leaves it where stop cause ZONE has come first (R151, R152, R196). -/
structure ZoneHalts (s t : State) : Prop where
  cools : s.esc.machine = .warmup ∨ s.esc.machine = .run → 0 < s.par .tCool →
    t.esc = { s.esc with machine := .cooldown, stopCause := some .safe, cooldownTimer := some (s.par .tCool * 1000) }
  stops : s.esc.machine = .warmup ∨ s.esc.machine = .run → s.par .tCool = 0 →
    t.esc = { s.esc.zoneStopped (s.par .tStop) with stopCause := some .safe, latch := none }
  abandons : s.esc.machine = .cranking ∨ s.esc.machine = .retryWait →
    t.esc.machine = .stopping ∧ t.esc.stopCause = some .safe ∧ t.esc.crankCause = none
  cooling : s.esc.machine = .cooldown → t.esc = { s.esc with stopCause := some .safe }
  stopping : s.esc.machine = .stopping → t.esc = { s.esc with stopCause := some .safe, latch := none }
  rests : s.esc.machine = .off ∨ s.esc.machine = .fault → t.esc = s.esc

theorem State.stopCause_safe_cooldown (h : v.esc.machine = .cooldown) : (v.stopCause .safe false).esc = { v.esc with stopCause := some .safe } := by
  rw [State.stopCause_cooldown h]
  rfl

theorem State.stopCause_safe_stopping (h : v.esc.machine = .stopping) :
    (v.stopCause .safe false).esc = { v.esc with stopCause := some .safe, latch := none } := by
  rw [State.stopCause_stopping h]
  rfl

theorem ZoneStops.halts (h : ZoneStops s u) (hv : v.esc = u.esc) : ZoneHalts s (v.stopCause .safe false) := by
  refine ⟨fun hm ht => ?_, fun hm ht => ?_, fun hm => ?_, fun hm => ?_, fun hm => ?_, fun hm => ?_⟩
  · have hesc := hv.trans (h.cools hm ht).1
    rw [State.stopCause_safe_cooldown (by rw [hesc]), hesc]
  · have hesc := hv.trans (h.stops hm ht).1
    rw [State.stopCause_safe_stopping (by rw [hesc]; rfl), hesc]
  · by_cases hc : s.esc.crankCause = some .hostOverride
    · have hesc := hv.trans (h.goesOn hm hc)
      have hvm : v.esc.machine = .cranking ∨ v.esc.machine = .retryWait := by rw [hesc]; exact hm
      rw [State.stopCause_crank hvm, show v.stopCranking .safe = v.abandonCrank .safe from rfl, (State.abandonCrank_spec hvm).1]
      exact ⟨rfl, rfl, rfl⟩
    · have hesc := hv.trans (h.abandons hm hc).1
      rw [State.stopCause_safe_stopping (by rw [hesc]; rfl), hesc]
      exact ⟨rfl, rfl, rfl⟩
  · have hesc := hv.trans (h.cooling hm)
    rw [State.stopCause_safe_cooldown (by rw [hesc]; exact hm), hesc]
  · have hesc := hv.trans (h.stopping hm)
    rw [State.stopCause_safe_stopping (by rw [hesc]; exact hm), hesc]
  · have hesc := hv.trans (h.rests hm)
    rw [State.stopCause_rest (by rw [hesc]; exact hm)]
    exact hesc

theorem State.enterStopping_schedule (s : State) : s.enterStopping.esc.schedule = s.esc.schedule := by
  rw [State.enterStopping_eq, State.setEngine_esc]
  simp [State.stopOffered_esc]

theorem State.enterCooldown_schedule (c : StopCause) (s : State) : (s.enterCooldown c).esc.schedule = s.esc.schedule := by
  have he : s.offerNoForce.esc = s.esc := State.offer_esc ..
  unfold State.enterCooldown
  dsimp only
  split
  · rw [State.enterStopping_schedule, State.setEngine_esc]
    show s.offerNoForce.esc.schedule = _
    rw [he]
  · rw [State.setEngine_esc]
    show s.offerNoForce.esc.schedule = _
    rw [he]

theorem State.stopRunning_schedule (c : StopCause) (immediate : Bool) (s : State) :
    (s.stopRunning c immediate).esc.schedule = s.esc.schedule := by
  unfold State.stopRunning
  split
  · exact State.enterStopping_schedule _
  · exact State.enterCooldown_schedule c s

theorem State.abandonCrank_schedule (c : StopCause) (s : State) : (s.abandonCrank c).esc.schedule = s.esc.schedule :=
  State.enterStopping_schedule _

theorem State.stopCranking_schedule (c : StopCause) (s : State) : (s.stopCranking c).esc.schedule = s.esc.schedule := by
  unfold State.stopCranking
  split
  case h_5 =>
    split
    · rfl
    · exact State.abandonCrank_schedule _ s
  case h_6 => rfl
  all_goals exact State.abandonCrank_schedule _ s

/-- No stop cause touches the pre-start schedule. -/
theorem State.stopCause_schedule (c : StopCause) (immediate : Bool) (s : State) : (s.stopCause c immediate).esc.schedule = s.esc.schedule := by
  unfold State.stopCause
  split
  · exact State.stopRunning_schedule c immediate s
  · exact State.stopRunning_schedule c immediate s
  · exact State.stopCranking_schedule c s
  · exact State.stopCranking_schedule c s
  · unfold State.stopCooling
    split
    case h_5 =>
      split
      · exact State.enterStopping_schedule _
      · rfl
    all_goals rfl
  · rfl
  · rfl
  · rfl

theorem State.safeCause_schedule (s : State) : s.safeCause.esc.schedule = s.esc.schedule := by
  unfold State.safeCause
  split
  · exact State.stopCause_schedule _ _ s
  · rfl

/-- What an entry to the zone leaves, by what the reserve watch then raises (R19, R86, R196, R197). -/
structure EntersZone (s t : State) : Prop where
  demand : t.demand = { s.demand with zone := true }
  schedule : t.esc.schedule = s.esc.schedule
  examined : ReserveExamined s t
  calm : ¬((s.ReserveRaises ∧ s.RaiseStops .zoneReserve) ∧ s.demand.motion = .standstill) → ZoneStops s t
  safe : s.ReserveRaises ∧ s.RaiseStops .zoneReserve → s.demand.motion = .standstill → ZoneHalts s t
  level : s.ReserveRaises ∧ s.RaiseStops .zoneReserve → t.level = .safeStop
  cut : s.ReserveRaises ∧ s.RaiseStops .zoneReserve → s.mode = .ready → 0 < s.bbu.prev →
    t.bbu.result.trigger = .cut ∧ t.bbu.result.fReg = 0 ∧ t.bbu.prev = 0
  uncut : ¬(s.ReserveRaises ∧ s.RaiseStops .zoneReserve) ∨ s.mode ≠ .ready ∨ s.bbu.prev = 0 →
    t.bbu = s.bbu ∧ t.log = s.log ∧ t.wear = s.wear
  noted : s.ReserveRaises → ¬(s.ReserveRaises ∧ s.RaiseStops .zoneReserve) → Noted .faultRaised FaultKind.zoneReserve.code s t
  only : OnlyChanges [.demand, .nlc, .bbu, .esc, .log, .wear, .faults, .notices] s t

theorem ZoneStops.carry (h : ZoneStops s u) (hesc : t.esc = u.esc)
    (hoffered : ∀ {k p}, Offered s .eng k p .engine u → Offered s .eng k p .engine t) (hnotice : t.noticeOf .engine = u.noticeOf .engine) :
    ZoneStops s t := by
  have hnoted {d} (hn : Noted .engine d s u) : Noted .engine d s t := hnotice.trans hn
  refine ⟨fun hm ht => ?_, fun hm ht => ?_, fun hm hc => ?_, fun hm hc => ?_, fun hm => ?_, fun hm => ?_, fun hm => ?_⟩ <;> rw [hesc]
  · obtain ⟨he, hf, hn⟩ := h.cools hm ht
    exact ⟨he, hoffered hf, hnoted hn⟩
  · obtain ⟨he, hf, hs⟩ := h.stops hm ht
    exact ⟨he, hoffered hf, hoffered hs⟩
  · obtain ⟨he, hs, hn⟩ := h.abandons hm hc
    exact ⟨he, hoffered hs, hnoted hn⟩
  · exact h.goesOn hm hc
  · exact h.cooling hm
  · exact h.stopping hm
  · exact h.rests hm

/-- A change that leaves the engine keeps what stop cause ZONE has made of it. -/
theorem ZoneStops.leaves (h : ZoneStops s u) (hut : LeavesEngine u t) : ZoneStops s t :=
  h.carry (hut.only .esc (by decide)) (fun ho => ho.offers hut.offers fun _ _ hp => absurd rfl hp.1) (hut.notices .engine (by decide))

theorem ZoneStops.before {bs : List Block} (h : ZoneStops u t) (hsu : OnlyChanges bs s u)
    (hb : ∀ b ∈ [Block.params, .nodes, .esc, .notices], b ∉ bs := by decide) : ZoneStops s t := by
  obtain ⟨h1, h2, h3, h4, h5, h6, h7⟩ := h
  have hnodes := hb .nodes (by decide)
  have hnotices := hb .notices (by decide)
  have hpar (p : Param) : u.par p = s.par p := hsu.par (hb _ (by decide)) p
  have hesc : u.esc = s.esc := hsu .esc (hb _ (by decide))
  simp only [hesc, hpar] at h1 h2 h3 h4 h5 h6 h7
  refine ⟨fun hm ht => ?_, fun hm ht => ?_, fun hm hc => ?_, h4, h5, h6, h7⟩
  · obtain ⟨he, hf, hn⟩ := h1 hm ht
    exact ⟨he, hf.before hsu hnodes, hn.before hsu hnotices⟩
  · obtain ⟨he, hf, hs⟩ := h2 hm ht
    exact ⟨he, hf.before hsu hnodes, hs.before hsu hnodes⟩
  · obtain ⟨he, hs, hn⟩ := h3 hm hc
    exact ⟨he, hs.before hsu hnodes, hn.before hsu hnotices⟩

theorem ZoneHalts.before {bs : List Block} (h : ZoneHalts u t) (hsu : OnlyChanges bs s u)
    (hb : ∀ b ∈ [Block.params, .esc], b ∉ bs := by decide) : ZoneHalts s t := by
  obtain ⟨h1, h2, h3, h4, h5, h6⟩ := h
  have hpar (p : Param) : u.par p = s.par p := hsu.par (hb _ (by decide)) p
  have hesc : u.esc = s.esc := hsu .esc (hb _ (by decide))
  simp only [hesc, hpar] at h1 h2 h3 h4 h5 h6
  exact ⟨h1, h2, h3, h4, h5, h6⟩

theorem State.enterZone_spec (hm : s.mode ≠ .halted) :
    EntersZone s (((s.setDemand { s.demand with zone := true }).stopCause .zone false).reserveWatch) := by
  have ha : OnlyChanges [.demand] s (s.setDemand { s.demand with zone := true }) := by simp
  have hademand : (s.setDemand { s.demand with zone := true }).demand = { s.demand with zone := true } := rfl
  generalize s.setDemand { s.demand with zone := true } = a at ha hademand
  have hzone := (State.stopCause_zone a).before ha
  have hb := EngineOnly.stopCause a .zone false
  have hsched := State.stopCause_schedule .zone false a
  rw [ha .esc (by decide)] at hsched
  generalize a.stopCause .zone false = b at hzone hb hsched
  have hsb : OnlyChanges [.demand, .nlc, .esc, .notices] s b := (ha.mono (by decide)).trans (hb.only.mono (by decide))
  have hbdemand : b.demand = { s.demand with zone := true } := (hb.only .demand (by decide)).trans hademand
  have hbm : b.mode ≠ .halted := by rw [hsb .mode (by decide)]; exact hm
  have hwatched := State.reserveWatch_spec hbm
  obtain ⟨hhalts, hcalm, hnoted⟩ := State.reserveWatch_zone hbm (by rw [hbdemand])
  have hraises : b.ReserveRaises ↔ s.ReserveRaises := by
    unfold State.ReserveRaises
    rw [hsb .faults (by decide), hsb .nodes (by decide), hsb.par (by decide)]
  have hstops : b.RaiseStops .zoneReserve ↔ s.RaiseStops .zoneReserve := by
    unfold State.RaiseStops
    rw [hsb.level (by decide), hsb .faults (by decide)]
  rw [hraises, hstops] at hhalts hcalm hnoted
  generalize b.reserveWatch = t at hwatched hhalts hcalm hnoted
  have hfaultRaised : b.noticeOf .faultRaised = s.noticeOf .faultRaised :=
    (hb.notices _ (by decide)).trans (ha.noticeOf (by decide) _)
  have hmotion : b.demand.motion = s.demand.motion := by rw [hbdemand]
  have hbbu : b.bbu = s.bbu := hsb .bbu (by decide)
  refine ⟨(hwatched.only .demand (by decide)).trans hbdemand, ?_, hwatched.examined.before hsb, fun hno => ?_, fun hh hstill => ?_,
    fun hh => ?_, fun hh hready hp => ?_, fun hno => ?_, fun hr hno => ?_, (hsb.mono (by decide)).trans (hwatched.only.mono (by decide))⟩
  · by_cases hh : s.ReserveRaises ∧ s.RaiseStops .zoneReserve
    · obtain ⟨x, hx, ⟨v, hv, hsafe, -, -⟩, -⟩ := hhalts hh.1 hh.2
      rw [hsafe, State.safeCause_schedule, hv.only .esc (by decide), hx .esc (by decide)]
      exact hsched
    · rw [(hcalm hh).2 .esc (by decide)]
      exact hsched
  · by_cases hh : s.ReserveRaises ∧ s.RaiseStops .zoneReserve
    · obtain ⟨x, hx, ⟨v, hv, hsafe, -, -⟩, -⟩ := hhalts hh.1 hh.2
      have hstill : v.demand.motion ≠ .standstill := by
        rw [hv.only .demand (by decide), hx .demand (by decide), hmotion]
        exact fun hstill => hno ⟨hh, hstill⟩
      rw [hsafe, show v.safeCause = v from if_neg hstill]
      exact hzone.leaves ((LeavesEngine.off hx).trans hv)
    · exact hzone.leaves (hcalm hh).1
  · obtain ⟨x, hx, ⟨v, hv, hsafe, -, -⟩, -⟩ := hhalts hh.1 hh.2
    have hvstill : v.demand.motion = .standstill := by
      rw [hv.only .demand (by decide), hx .demand (by decide), hmotion]
      exact hstill
    rw [hsafe, show v.safeCause = v.stopCause .safe false from if_pos hvstill]
    exact hzone.halts ((hv.only .esc (by decide)).trans (hx .esc (by decide)))
  · obtain ⟨x, hx, -, hlevel⟩ := hhalts hh.1 hh.2
    exact hlevel
  · obtain ⟨x, hx, ⟨v, hv, hsafe, hcuts, -⟩, -⟩ := hhalts hh.1 hh.2
    rw [hsafe, (State.safeCause_engine v).only .bbu (by decide)]
    refine hcuts ?_ ?_
    · rw [hx .mode (by decide), hsb .mode (by decide)]
      exact hready
    · rw [hx .bbu (by decide), hbbu]
      exact hp
  · have hkeeps : OnlyChanges [.nlc, .esc, .faults, .notices] b t := by
      by_cases hh : s.ReserveRaises ∧ s.RaiseStops .zoneReserve
      · obtain ⟨x, hx, ⟨v, hv, hsafe, -, hidle⟩, -⟩ := hhalts hh.1 hh.2
        rw [hsafe]
        have hxv := hidle (by
          rw [hx .mode (by decide), hsb .mode (by decide), hx .bbu (by decide), hbbu]
          exact hno.resolve_left (not_not.mpr hh))
        exact (hx.mono (by decide)).trans ((hxv.mono (by decide)).trans ((State.safeCause_engine v).only.mono (by decide)))
      · exact (hcalm hh).2.mono (by decide)
    have hst : OnlyChanges [.demand, .nlc, .esc, .faults, .notices] s t := (hsb.mono (by decide)).trans (hkeeps.mono (by decide))
    exact ⟨hst .bbu (by decide), hst .log (by decide), hst .wear (by decide)⟩
  · have hn := hnoted hr (fun hs => hno ⟨hr, hs⟩)
    exact hn.trans (by rw [hfaultRaised])

end

/-- Settles O15. -/
theorem zoneRequestsMoveTheFlag : Obligations.ZoneRequestsMoveTheFlag := by
  intro tag s i h
  have hm := Mode.not_halted_of_live h.live
  refine ⟨fun hz => ?_, fun hz => ?_, fun hz => ?_, fun hz => ?_⟩
  · let u := s.afterSlot i tag 0x02
    have hu : OnlyChanges [.hli] s u := State.onlyChanges_afterSlot
    have hzone : EntersZone u _ := State.enterZone_spec (s := u) hm
    have ho : State.takeZoneEnter u = .route (((u.setDemand { u.demand with zone := true }).stopCause .zone false).reserveWatch) stOk 0 :=
      if_neg (by rw [show u.demand.zone = false from hz]; decide)
    generalize ((u.setDemand { u.demand with zone := true }).stopCause .zone false).reserveWatch = v at hzone ho
    have hs := State.served_route h (owner := State.takeZoneEnter) ho hzone.only
    generalize ht : s.plain tag 0x02 true State.takeZoneEnter = t at hs
    have hesc : t.esc = v.esc := hs.rest .esc (by decide)
    have hdemand : t.demand = { s.demand with zone := true } := (hs.rest .demand (by decide)).trans hzone.demand
    refine ⟨t, (State.powered_on h.powered _).trans (congrArg _ ht), ?_, hdemand, ?_, (hzone.examined.before hu).after hs.rest, ?_, hs.only⟩
    · have ha := hs.answered
      rw [State.routeReply, hdemand] at ha
      exact ha
    · rw [hesc]
      exact hzone.schedule
    · have hstops : ZoneStops u v → ZoneStops s t := fun hx =>
        (hx.carry hesc (fun ho => ho.after hs.rest) (hs.rest.noticeOf (by decide) _)).before hu
      have hhalts : ZoneHalts u v → ZoneHalts s t := fun hx => by
        have hx' := hx.before hu
        obtain ⟨h1, h2, h3, h4, h5, h6⟩ := hx'
        rw [← hesc] at h1 h2 h3 h4 h5 h6
        exact ⟨h1, h2, h3, h4, h5, h6⟩
      have hbbu : t.bbu = v.bbu := hs.rest .bbu (by decide)
      refine ⟨fun hno => ?_, fun hh hstill => ?_, fun hh => ?_, fun hh hready hp => ?_, fun hno => ?_, fun hr hno => ?_⟩
      · obtain ⟨h1, h2, h3, h4, h5, h6, h7⟩ := hstops (hzone.calm hno)
        exact ⟨h1, h2, h3, h4, h5, h6, h7⟩
      · obtain ⟨h1, h2, h3, h4, h5, h6⟩ := hhalts (hzone.safe hh hstill)
        exact ⟨h1, h2, h3, h4, h5, h6⟩
      · rw [hs.rest.level (by decide)]
        exact hzone.level hh
      · rw [hbbu]
        exact hzone.cut hh hready hp
      · rw [hbbu, hs.rest .log (by decide), hs.rest .wear (by decide)]
        exact hzone.uncut hno
      · exact ((hzone.noted hr hno).before hu).after hs.rest
  · let u := s.afterSlot i tag 0x02
    have ho : State.takeZoneEnter u = .now u ([stOk, 0, 1] ++ scheduleBytes s.esc.schedule) := by
      rw [State.takeZoneEnter, if_pos (show u.demand.zone = true from hz), Taken.route, State.routeReply, show u.demand.zone = true from hz]
      rfl
    exact ⟨_, State.powered_on h.powered _, State.plain_reads h ho⟩
  · let u := s.afterSlot i tag 0x02
    have hu : OnlyChanges [.hli] s u := State.onlyChanges_afterSlot
    have ha : OnlyChanges [.demand] u (u.setDemand { u.demand with zone := false }) := by simp
    have hademand : (u.setDemand { u.demand with zone := false }).demand = { s.demand with zone := false } := rfl
    have ho : State.takeZoneExit u = .route ((u.setDemand { u.demand with zone := false }).endReserve.evaluateStart) stOk 1 :=
      if_pos (show u.demand.zone = true from hz)
    generalize u.setDemand { u.demand with zone := false } = a at ha hademand ho
    have hset : OnlyChanges [.faults] a (a.setFaults { a.faults with reserve := false }) := by simp
    have hb : OnlyChanges [.faults, .notices] a a.endReserve := (hset.mono (by decide)).trans (State.endCause_only _ _)
    have hmark : a.endReserve.faults.reserve = false := State.reserve_endCause _ _
    have hentry : a.endReserve.faults.entry .zoneReserve = none := by
      refine State.entry_endCause_self ?_ rfl
      rw [hset .mode (by decide), ha .mode (by decide), hu .mode (by decide)]
      exact hm
    have hengine : a.endReserve.noticeOf .engine = a.noticeOf .engine :=
      (State.noticeOf_endCause _ (by decide) (by decide) _).trans (hset.noticeOf (by decide) _)
    generalize a.endReserve = b at hb hmark hentry hengine ho
    obtain ⟨hv, -⟩ := b.evaluateStart_spec
    have hsb : OnlyChanges [.hli, .demand, .faults, .notices] s b :=
      (hu.mono (by decide)).trans ((ha.mono (by decide)).trans (hb.mono (by decide)))
    have hub : OnlyChanges [.demand, .faults, .notices] u b := (ha.mono (by decide)).trans (hb.mono (by decide))
    have hnoted {d t} (hn : Noted .engine d b t) : Noted .engine d s t := by
      refine hn.trans ?_
      rw [hengine, ha.noticeOf (by decide), hu.noticeOf (by decide)]
    have hs : Served [.nlc, .esc, .wear, .demand, .faults, .notices] tag 0x02 _ i s b.evaluateStart _ :=
      State.served_route h (owner := State.takeZoneExit) ho ((hub.mono (by decide)).trans (hv.mono (by decide)))
    generalize ht : s.plain tag 0x02 true State.takeZoneExit = t at hs
    have hrest := hs.rest
    have hesc : t.esc = b.evaluateStart.esc := hrest .esc (by decide)
    have hbdemand : b.demand = { s.demand with zone := false } := (hb .demand (by decide)).trans hademand
    have htdemand : t.demand = { s.demand with zone := false } := (hrest .demand (by decide)).trans ((hv .demand (by decide)).trans hbdemand)
    have htfaults : t.faults = b.faults := (hrest .faults (by decide)).trans (hv .faults (by decide))
    have hbesc : b.esc = s.esc := hsb .esc (by decide)
    have hlevel : b.level = t.level := by unfold State.level; rw [htfaults]
    have hallowed : b.startAllowed = true ↔ s.StartFits t.level := by
      rw [State.startAllowed_iff, hbdemand, hlevel]
      unfold State.StartFits State.engReady
      rw [hbesc, hsb .mode (by decide), hsb .nodes (by decide), hsb.par (by decide), hsb.wearItem (by decide)]
      exact and_iff_right rfl
    have hcause (c : CrankCause) : b.FirstCause b.psu.above b.esc.schedule c ↔ s.FirstCause s.psu.above s.esc.schedule c := by
      unfold State.FirstCause State.AutoStands
      rw [hbesc, hsb .psu (by decide), hsb .nodes (by decide), hsb.par (by decide), hsb.par (by decide)]
    have hreturns : b.autoReturns = true ↔ s.Returns s.psu.above t.level := by
      rw [State.autoReturns_iff, hbdemand, hlevel]
      unfold State.Returns State.AutoStands
      rw [hbesc, hsb .mode (by decide), hsb .psu (by decide), hsb .nodes (by decide), hsb.par (by decide), hsb.par (by decide)]
      exact and_iff_right rfl
    refine ⟨t, (State.powered_on h.powered _).trans (congrArg _ ht), ?_, htdemand, by rw [htfaults]; exact hmark, by rw [htfaults]; exact hentry,
      fun hoff => ⟨fun hfits c hc => ?_, fun hno => ?_⟩, fun hcool => ⟨fun hr => ?_, fun hno => ?_⟩, fun h1 h2 => ?_, fun h1 => ?_,
      hs.only.mono (by decide)⟩
    · have hans := hs.answered
      rw [State.routeReply, htdemand] at hans
      exact hans
    · obtain ⟨-, hst, -⟩ := State.evaluateStart_starts (s := b) (by rw [hbesc]; exact hoff) ((hcause c).mpr hc) (hallowed.mpr hfits)
      have hstesc := hst.esc
      have hworn := hst.worn
      rw [hbesc, hsb.par (by decide)] at hstesc
      rw [hsb.wearItem (by decide), hsb .nodes (by decide)] at hworn
      exact ⟨hesc.trans hstesc, hst.start.after hrest, (hnoted hst.noted).after hrest, by rw [hrest.wearItem (by decide)]; exact hworn⟩
    · rw [hesc, State.evaluateStart_off (by rw [hbesc]; exact hoff) ?_, hbesc]
      simp only [hcause]
      exact hno.imp_left fun hx => Bool.eq_false_iff.mpr fun ha => hx (hallowed.mp ha)
    · have hbm : b.esc.machine = .cooldown := by rw [hbesc]; exact hcool
      obtain ⟨he, hn, -⟩ := State.returnToRun_spec hbm
      rw [← State.evaluateStart_returns hbm (hreturns.mpr hr)] at he hn
      rw [hbesc] at he
      exact ⟨hesc.trans he, (hnoted hn).after hrest⟩
    · rw [hesc, State.evaluateStart_cooldown (by rw [hbesc]; exact hcool) (Bool.eq_false_iff.mpr fun hr => hno (hreturns.mp hr)), hbesc]
    · rw [hesc, State.evaluateStart_other (by rw [hbesc]; exact h1) (by rw [hbesc]; exact h2), hbesc]
    · have honly : OnlyChanges [.esc, .notices] b b.evaluateStart := by
        by_cases hcool : b.esc.machine = .cooldown
        · cases hr : b.autoReturns with
          | true =>
            rw [State.evaluateStart_returns hcool hr]
            exact (State.returnToRun_spec hcool).2.2
          | false =>
            rw [State.evaluateStart_cooldown hcool hr]
            exact .refl _ b
        · rw [State.evaluateStart_other (by rw [hbesc]; exact h1) hcool]
          exact .refl _ b
      exact (hsb.mono (by decide)).trans ((honly.mono (by decide)).trans (hrest.mono (by decide)))
  · let u := s.afterSlot i tag 0x02
    have ho : State.takeZoneExit u = .now u ([stOk, 1, 0] ++ scheduleBytes s.esc.schedule) := by
      have hzu : u.demand.zone = false := hz
      rw [State.takeZoneExit, if_neg (by rw [hzu]; decide), Taken.route, State.routeReply, hzu]
      rfl
    exact ⟨_, State.powered_on h.powered _, State.plain_reads h ho⟩

end Sys2Proof.Machine

/-! The engine behind a DEMAND in READY (O13, O14). -/

namespace Sys2Proof.Machine

-- In order: proofs elaborated side by side wait for one another in too many threads.
set_option Elab.async false

/-! ## 1. The countdown and its evaluation point (R161, R162) -/

section
variable {f : DemandFields} {s t u v w b c h : State} {k : CrankCause} {bs : List Block}

/-- The level at which the entry to DUE finds the engine. -/
def State.countLevel (s : State) (f : DemandFields) : Level := ((s.takeRecord f).refresh).level

/-- The entry to DUE starts an engine that is OFF. -/
def State.StartsEarly (s : State) (f : DemandFields) : Prop :=
  s.entersDue f = true ∧ s.demand.zone = false ∧ s.StartFits (s.countLevel f)

/-- The entry to DUE returns an engine from COOLDOWN. -/
def State.ReturnsEarly (s : State) (f : DemandFields) : Prop :=
  s.demand.zone = false ∧ s.entersDue f = true ∧ s.Returns s.psu.above (s.countLevel f)

/-- The engine behind the countdown of a DEMAND, by the state it was in. -/
structure EngineCounted (f : DemandFields) (s c : State) : Prop where
  starts : s.esc.machine = .off → s.StartsEarly f → ∀ k, s.FirstCause s.psu.above (s.countedSchedule f) k → Started s c k
  off : s.esc.machine = .off → ¬s.StartsEarly f → c.esc = { s.esc with schedule := s.countedSchedule f }
  returns : s.esc.machine = .cooldown → s.ReturnsEarly f →
    c.esc = { s.esc with machine := .run, cooldownTimer := none, stopCause := none, schedule := s.scheduleAfter f } ∧ Noted .engine 4 s c
  cooling : s.esc.machine = .cooldown → ¬s.ReturnsEarly f → c.esc = { s.esc with schedule := s.scheduleAfter f }
  other : s.esc.machine ≠ .off → s.esc.machine ≠ .cooldown → c.esc = { s.esc with schedule := s.scheduleAfter f }
  quiet : c.esc.machine = s.esc.machine → c.noticeOf .engine = s.noticeOf .engine
  item : c.esc.machine ≠ .cranking ∨ s.esc.machine ≠ .off → c.wearItem .starts = s.wearItem .starts
  pads : ∀ j, j ≠ .starts → c.wearItem j = s.wearItem j
  only : OnlyChanges [.demand, .nlc, .esc, .wear, .faults, .notices] s c

/-- What an evaluation point reads of a state with another schedule, record and list of faults. -/
structure ReadsAs (s w : State) : Prop where
  esc : w.esc = { s.esc with schedule := w.esc.schedule }
  zone : w.demand.zone = s.demand.zone
  starts : w.wearItem .starts = s.wearItem .starts
  mode : w.mode = s.mode
  nodes : w.nodes = s.nodes
  params : ∀ p, w.par p = s.par p

theorem ReadsAs.startAllowed (h : ReadsAs s w) : w.startAllowed = true ↔ s.demand.zone = false ∧ s.StartFits w.level := by
  rw [State.startAllowed_iff, h.zone]
  unfold State.StartFits State.engReady
  rw [h.mode, h.nodes, h.params, h.starts, h.esc]

theorem ReadsAs.autoStands (h : ReadsAs s w) (n : Nat) : w.AutoStands n ↔ s.AutoStands n := by
  unfold State.AutoStands
  rw [h.nodes, h.params, h.params, h.esc]

theorem ReadsAs.firstCause (h : ReadsAs s w) (n : Nat) (sch : Option Schedule) (k : CrankCause) :
    w.FirstCause n sch k ↔ s.FirstCause n sch k := by
  unfold State.FirstCause
  simp only [h.autoStands]
  rw [h.nodes, h.params, h.esc]

theorem ReadsAs.autoReturns (h : ReadsAs s w) : w.autoReturns = true ↔ s.demand.zone = false ∧ s.Returns w.psu.above w.level := by
  rw [State.autoReturns_iff, h.zone]
  unfold State.Returns
  rw [h.autoStands, h.mode, h.esc]

/-- A start from a state that reads as another is a start of that other, if notices and coolant stand. -/
theorem ReadsAs.started (h : ReadsAs s w) (hst : Started w t k) (hn : w.noticeOf .engine = s.noticeOf .engine) : Started s t k := by
  obtain ⟨hesc, hstart, hnoted, hworn⟩ := hst
  rw [h.esc, h.params] at hesc
  rw [h.starts, h.nodes] at hworn
  exact ⟨hesc, hstart, hnoted.trans (by rw [hn]), hworn⟩

theorem State.entersDue_phase (h : s.entersDue f = true) : (s.countedSchedule f).map Schedule.phase = some .due := by
  simp only [State.entersDue, Bool.and_eq_true, beq_iff_eq] at h
  exact h.1

theorem State.evaluateStart_item (s : State) (j : WearKind) (h : s.esc.machine ≠ .off ∨ j ≠ .starts) : s.evaluateStart.wearItem j = s.wearItem j := by
  by_cases hoff : s.esc.machine = .off
  · have hj : j ≠ .starts := h.resolve_left (not_not.mpr hoff)
    by_cases hstart : s.startAllowed = true ∧ ∃ c, s.FirstCause s.psu.above s.esc.schedule c
    · obtain ⟨ha, c, hc⟩ := hstart
      exact (State.evaluateStart_starts hoff hc ha).2.2.1 j hj
    · rw [State.evaluateStart_off hoff (by grind)]
  · by_cases hcool : s.esc.machine = .cooldown
    · cases hr : s.autoReturns with
      | true =>
        rw [State.evaluateStart_returns hcool hr]
        exact (State.returnToRun_spec hcool).2.2.wearItem (by decide) j
      | false => rw [State.evaluateStart_cooldown hcool hr]
    · rw [State.evaluateStart_other hoff hcool]

/-- An evaluation point that leaves the machine state leaves the notice and the STARTS item too. -/
theorem State.evaluateStart_rests (h : s.evaluateStart.esc.machine = s.esc.machine) : s.evaluateStart = s := by
  by_cases hoff : s.esc.machine = .off
  · by_cases hstart : s.startAllowed = true ∧ ∃ c, s.FirstCause s.psu.above s.esc.schedule c
    · obtain ⟨ha, c, hc⟩ := hstart
      obtain ⟨-, hst, -, -⟩ := State.evaluateStart_starts hoff hc ha
      rw [hst.esc, hoff] at h
      exact absurd h nofun
    · exact State.evaluateStart_off hoff (by grind)
  · by_cases hcool : s.esc.machine = .cooldown
    · cases hr : s.autoReturns with
      | true =>
        rw [State.evaluateStart_returns hcool hr, (State.returnToRun_spec hcool).1, hcool] at h
        exact absurd h nofun
      | false => exact State.evaluateStart_cooldown hcool hr
    · exact State.evaluateStart_other hoff hcool

/-- The schedule as the evaluation point of the countdown finds it. -/
theorem State.countDown_acts (f : DemandFields) (s u : State) : ∃ w, OnlyChanges [.esc] u w ∧
    w.esc = { u.esc with schedule := if s.entersDue f = true ∧ u.esc.machine ≠ .off then none else s.countedSchedule f } ∧
    s.countDown f u = if s.entersDue f = true then w.evaluateStart else w := by
  unfold State.countDown State.scheduleDue
  by_cases hd : s.entersDue f = true
  · by_cases hoff : u.esc.machine = .off
    · refine ⟨u.setEsc { u.esc with schedule := s.countedSchedule f }, by simp, ?_, ?_⟩
      · rw [if_neg (fun h => h.2 hoff)]
        rfl
      · rw [if_pos hd, if_pos hd, if_pos (by exact hoff)]
    · refine ⟨u.setEsc { u.esc with schedule := none }, by simp, ?_, ?_⟩
      · rw [if_pos ⟨hd, hoff⟩]
        rfl
      · rw [if_pos hd, if_pos hd, if_neg (by exact hoff)]
        rfl
  · refine ⟨u.setEsc { u.esc with schedule := s.countedSchedule f }, by simp, ?_, ?_⟩
    · rw [if_neg (fun h => hd h.1)]
      rfl
    · rw [if_neg hd, if_neg hd]

theorem State.demandStages_counted (f : DemandFields) (s : State) : EngineCounted f s (s.demandStages f) := by
  obtain ⟨-, hao, hnotices, -, -⟩ := State.refreshed_spec f s
  obtain ⟨-, u, hau, hzone, hut⟩ := State.demandStages_spec f s
  have hulevel : u.level = s.countLevel f := hau.level (by decide)
  have hsu : OnlyChanges [.demand, .faults, .notices] s u := hao.trans (hau.mono (by decide))
  have huengine : u.noticeOf .engine = s.noticeOf .engine :=
    (hau.noticeOf (by decide) _).trans (hnotices _ (by decide) (by decide))
  generalize s.demandStages f = c at hut
  obtain ⟨w, huw, hwesc, hcount⟩ := State.countDown_acts f s u
  rw [hcount] at hut
  have huesc : u.esc = s.esc := hsu .esc (by decide)
  have hsched : w.esc.schedule = s.scheduleAfter f := by rw [hwesc, huesc]; rfl
  have hwesc' : w.esc = { s.esc with schedule := s.scheduleAfter f } := by rw [hwesc, huesc]; rfl
  have hsw : OnlyChanges [.demand, .esc, .faults, .notices] s w := (hsu.mono (by decide)).trans (huw.mono (by decide))
  have hwengine : w.noticeOf .engine = s.noticeOf .engine := (huw.noticeOf (by decide) _).trans huengine
  have hreads : ReadsAs s w := ⟨by rw [hwesc'], (congrArg DemandUnit.zone (huw .demand (by decide))).trans hzone, hsw.wearItem (by decide) _,
    hsw .mode (by decide), hsw .nodes (by decide), fun p => hsw.par (by decide) p⟩
  have hwlevel : w.level = s.countLevel f := (huw.level (by decide)).trans hulevel
  have hwpsu : w.psu = s.psu := hsw .psu (by decide)
  have hsw' (hd : ¬s.entersDue f = true) : OnlyChanges [.demand] w c := by
    rw [if_neg hd] at hut
    exact hut
  have hact (hd : s.entersDue f = true) : OnlyChanges [.demand] w.evaluateStart c := by
    rw [if_pos hd] at hut
    exact hut
  have hallowed : w.startAllowed = true ↔ s.demand.zone = false ∧ s.StartFits (s.countLevel f) := by
    rw [hreads.startAllowed, hwlevel]
  have hreturns : w.autoReturns = true ↔ s.demand.zone = false ∧ s.Returns s.psu.above (s.countLevel f) := by
    rw [hreads.autoReturns, hwlevel, hwpsu]
  have hmachine : w.esc.machine = s.esc.machine := by rw [hwesc']
  -- Where no evaluation point acts, the countdown leaves the schedule and nothing else.
  have hrests (h : s.entersDue f = true → w.evaluateStart = w) : OnlyChanges [.demand] w c := by
    by_cases hd : s.entersDue f = true
    · have := hact hd
      rw [h hd] at this
      exact this
    · exact hsw' hd
  have hcw : OnlyChanges [.demand, .nlc, .esc, .wear, .notices] w c := by
    by_cases hd : s.entersDue f = true
    · exact ((State.evaluateStart_spec w).1.mono (by decide)).trans ((hact hd).mono (by decide))
    · exact (hsw' hd).mono (by decide)
  have hwhole : c.esc.machine = s.esc.machine → OnlyChanges [.demand] w c := fun hc => hrests fun hd => by
    refine State.evaluateStart_rests ?_
    rw [← (hact hd) .esc (by decide), hc, hmachine]
  refine ⟨fun hoff hearly k hk => ?_, fun hoff hno => ?_, fun hcool hr => ?_, fun hcool hno => ?_, fun h1 h2 => ?_, fun hc => ?_, fun hc => ?_,
    fun j hj => ?_, (hsw.mono (by decide)).trans (hcw.mono (by decide))⟩
  · obtain ⟨hd, hfits⟩ := hearly
    have hsame : w.esc.schedule = s.countedSchedule f := by
      rw [hwesc, huesc]
      exact if_neg fun hx => hx.2 hoff
    obtain ⟨-, hst, -⟩ := State.evaluateStart_starts (s := w) (c := k) (by rw [hmachine]; exact hoff)
      (by rw [hreads.firstCause, hwpsu, hsame]; exact hk) (hallowed.mpr hfits)
    have hs := hreads.started hst hwengine
    have hlast := hact hd
    exact ⟨(hlast .esc (by decide)).trans hs.esc, hs.start.after hlast, hs.noted.after hlast, by rw [hlast.wearItem (by decide)]; exact hs.worn⟩
  · have hquiet := hrests fun hd => State.evaluateStart_off (by rw [hmachine]; exact hoff)
      (.inl (Bool.eq_false_iff.mpr fun ha => hno ⟨hd, hallowed.mp ha⟩))
    rw [hquiet .esc (by decide), hwesc, huesc, if_neg fun hx => hx.2 hoff]
  · obtain ⟨hz, hd, hr⟩ := hr
    have hwm : w.esc.machine = .cooldown := by rw [hmachine]; exact hcool
    obtain ⟨he, hn, -⟩ := State.returnToRun_spec hwm
    rw [← State.evaluateStart_returns hwm (hreturns.mpr ⟨hz, hr⟩)] at he hn
    have hlast := hact hd
    refine ⟨?_, Noted.after (hn.trans (by rw [hwengine])) hlast⟩
    rw [hlast .esc (by decide), he, hwesc']
  · have hquiet := hrests fun hd => State.evaluateStart_cooldown (by rw [hmachine]; exact hcool)
      (Bool.eq_false_iff.mpr fun ha => hno ⟨(hreturns.mp ha).1, hd, (hreturns.mp ha).2⟩)
    rw [hquiet .esc (by decide), hwesc']
  · have hquiet := hrests fun _ => State.evaluateStart_other (by rw [hmachine]; exact h1) (by rw [hmachine]; exact h2)
    rw [hquiet .esc (by decide), hwesc']
  · rw [(hwhole hc).noticeOf (by decide), hwengine]
  · by_cases hoff : s.esc.machine = .off
    · have hquiet := hrests fun hd => by
        by_cases hstart : w.startAllowed = true ∧ ∃ k, w.FirstCause w.psu.above w.esc.schedule k
        · obtain ⟨ha, k, hk⟩ := hstart
          obtain ⟨-, hst, -⟩ := State.evaluateStart_starts (s := w) (by rw [hmachine]; exact hoff) hk ha
          refine absurd ?_ (hc.resolve_right (not_not.mpr hoff))
          rw [(hact hd) .esc (by decide), hst.esc]
        · exact State.evaluateStart_off (by rw [hmachine]; exact hoff) (by grind)
      rw [hquiet.wearItem (by decide), hsw.wearItem (by decide)]
    · by_cases hd : s.entersDue f = true
      · rw [(hact hd).wearItem (by decide), State.evaluateStart_item _ _ (.inl (by rw [hmachine]; exact hoff)), hsw.wearItem (by decide)]
      · rw [(hsw' hd).wearItem (by decide), hsw.wearItem (by decide)]
  · by_cases hd : s.entersDue f = true
    · rw [(hact hd).wearItem (by decide), State.evaluateStart_item _ _ (.inr hj), hsw.wearItem (by decide)]
    · rw [(hsw' hd).wearItem (by decide), hsw.wearItem (by decide)]

end


/-! ## 2. From the countdown to the hand-on, and the hand-on (R136, R137, R144, R150, R151) -/

section
variable {f : DemandFields} {s t u b c h : State} {k : CrankCause} {bs : List Block}

/-- Any offer but a command to the engine. -/
def NoCommand (n : NodeAddr) (k : EntryKind) (_ : List Byte) (_ : Origin) : Prop := n ≠ .eng ∨ k ≠ .command

/-- What stands between the countdown and the hand-on leaves the engine, its notice, its commands and the STARTS item. -/
structure BeforeHandOn (c b : State) : Prop where
  offers : Offers NoCommand c b
  notice : b.noticeOf .engine = c.noticeOf .engine
  starts : b.wearItem .starts = c.wearItem .starts
  only : OnlyChanges [.nlc, .bbu, .psu, .log, .wear, .faults, .notices] c b

theorem BeforeHandOn.refl (c : State) : BeforeHandOn c c := ⟨.refl c, rfl, rfl, .refl _ c⟩

theorem BeforeHandOn.trans (h : BeforeHandOn c b) (h' : BeforeHandOn b u) : BeforeHandOn c u :=
  ⟨h.offers.trans h'.offers, h'.notice.trans h.notice, h'.starts.trans h.starts, h.only.trans h'.only⟩

theorem BeforeHandOn.off (hcb : OnlyChanges bs c b) (hb : bs ⊆ [.bbu, .psu, .log, .faults] := by decide) : BeforeHandOn c b :=
  have hm := hcb.mono hb
  ⟨.off hm, hm.noticeOf (by decide) _, hm.wearItem (by decide) _, hm.mono (by decide)⟩

theorem BeforeHandOn.offer {n : NodeAddr} {j : EntryKind} (p : List Byte) (o : Origin) (hn : n ≠ .eng ∨ j ≠ .command) (c : State) :
    BeforeHandOn c (c.offer n j p o) :=
  have hm := State.offer_only n j p o c
  ⟨.offer hn c, hm.noticeOf (by decide) _, hm.wearItem (by decide) _, hm.mono (by decide)⟩

/-- Stop cause AUTO arises at a hand-on in RUN (R150). -/
def State.AutoArises (s : State) : Prop :=
  s.esc.auto = true ∧ s.par .tElec * 1000 ≤ s.psu.sufficient ∧ (s.wearItem .starts).state ≠ .limit

theorem State.autoStops_iff : s.autoStops = true ↔ s.esc.machine = .run ∧ s.AutoArises := by
  simp [State.autoStops, State.AutoArises, and_assoc]

/-- What the hand-on makes of the engine, by the state it finds. -/
structure EngineHandedOn (b h : State) : Prop where
  starts : b.esc.machine = .off → b.startAllowed = true → ∀ k, b.FirstCause b.psu.above b.esc.schedule k → Started b h k
  off : b.esc.machine = .off → (b.startAllowed = false ∨ ∀ k, ¬b.FirstCause b.psu.above b.esc.schedule k) → h = b
  returns : b.esc.machine = .cooldown → b.autoReturns = true → ¬b.AutoArises →
    h.esc = { b.esc with machine := .run, cooldownTimer := none, stopCause := none } ∧ Noted .engine 4 b h
  turns : b.esc.machine = .cooldown → b.autoReturns = true → b.AutoArises → 0 < b.par .tCool →
    h.esc = { b.esc with cooldownTimer := some (b.par .tCool * 1000), stopCause := some .auto }
  cooling : b.esc.machine = .cooldown → b.autoReturns = false → h = b
  cools : b.esc.machine = .run → b.AutoArises → 0 < b.par .tCool → CoolsEngine .auto b h
  stops : b.esc.machine = .run → b.AutoArises → b.par .tCool = 0 →
    h.esc.machine = .stopping ∧ h.esc.stopCause = some .auto ∧ h.esc.schedule = b.esc.schedule ∧ Offered b .eng .command [2] .engine h
  rests : b.esc.machine ≠ .off → b.esc.machine ≠ .cooldown → (b.esc.machine = .run → ¬b.AutoArises) → h = b
  quiet : ¬b.AutoArises ∨ (b.esc.machine ≠ .run ∧ b.esc.machine ≠ .cooldown) → Offers CommandOffer b h

theorem State.elapsedHandOn_spec (b : State) : EngineHandedOn b b.elapsedHandOn := by
  have hquiet := Offers.evaluateStart b
  have hrun : b.elapsedHandOn = if b.evaluateStart.autoStops then b.evaluateStart.stopCause .auto false else b.evaluateStart := rfl
  rw [hrun]
  have starts (hoff : b.esc.machine = .off) (ha : b.startAllowed = true) (k : CrankCause)
      (hk : b.FirstCause b.psu.above b.esc.schedule k) : Started b b.evaluateStart k ∧ b.evaluateStart.autoStops = false := by
    obtain ⟨-, hst, -⟩ := State.evaluateStart_starts hoff hk ha
    refine ⟨hst, Bool.eq_false_iff.mpr fun hs => ?_⟩
    have hm := (State.autoStops_iff.mp hs).1
    rw [hst.esc] at hm
    exact absurd hm nofun
  have returned (hcool : b.esc.machine = .cooldown) (hr : b.autoReturns = true) :
      b.evaluateStart.esc = { b.esc with machine := .run, cooldownTimer := none, stopCause := none } ∧
      Noted .engine 4 b b.evaluateStart ∧ (b.evaluateStart.autoStops = true ↔ b.AutoArises) ∧ OnlyChanges [.esc, .notices] b b.evaluateStart := by
    obtain ⟨he, hn, honly⟩ := State.returnToRun_spec hcool
    rw [← State.evaluateStart_returns hcool hr] at he hn honly
    refine ⟨he, hn, ?_, honly⟩
    rw [State.autoStops_iff]
    unfold State.AutoArises
    rw [he, honly.par (by decide), honly .psu (by decide), honly.wearItem (by decide)]
    exact and_iff_right rfl
  have plain (hrest : b.evaluateStart = b) (hno : ¬(b.esc.machine = .run ∧ b.AutoArises)) :
      (if b.evaluateStart.autoStops then b.evaluateStart.stopCause .auto false else b.evaluateStart) = b := by
    rw [hrest, if_neg (fun hs => hno (State.autoStops_iff.mp hs))]
  have ran (hm : b.esc.machine = .run) : b.evaluateStart = b := State.evaluateStart_other (by rw [hm]; decide) (by rw [hm]; decide)
  refine ⟨fun hoff ha k hk => ?_, fun hoff hno => plain (State.evaluateStart_off hoff hno) fun h => absurd (hoff.symm.trans h.1) nofun,
    fun hcool hr hno => ?_, fun hcool hr ha ht => ?_, fun hcool hr => plain (State.evaluateStart_cooldown hcool hr) fun h =>
    absurd (hcool.symm.trans h.1) nofun, fun hm ha ht => ?_, fun hm ha ht => ?_, fun h1 h2 h3 =>
    plain (State.evaluateStart_other h1 h2) fun h => h3 h.1 h.2, fun hno => ?_⟩
  · obtain ⟨hst, hs⟩ := starts hoff ha k hk
    rw [hs]
    exact hst
  · obtain ⟨he, hn, hs, -⟩ := returned hcool hr
    rw [if_neg (fun h => hno (hs.mp h))]
    exact ⟨he, hn⟩
  · obtain ⟨he, -, hs, honly⟩ := returned hcool hr
    rw [if_pos (hs.mpr ha)]
    have hcools := State.stopCause_cools (s := b.evaluateStart) (c := .auto) (by rw [he]; rfl) (by rw [honly.par (by decide)]; exact ht)
    rw [hcools.esc, he, honly.par (by decide), ← hcool]
  · rw [ran hm, if_pos (State.autoStops_iff.mpr ⟨hm, ha⟩)]
    exact State.stopCause_cools (by rw [hm]; rfl) ht
  · rw [ran hm, if_pos (State.autoStops_iff.mpr ⟨hm, ha⟩), State.stopCause_inService (by rw [hm]; rfl), State.stopRunning_cools (.inl rfl)]
    obtain ⟨he, hstop, -, -⟩ := State.enterCooldown_stops (c := .auto) (s := b) (by rw [hm]; rfl) ht
    rw [he]
    exact ⟨rfl, rfl, rfl, hstop⟩
  · by_cases hs : b.evaluateStart.autoStops = true
    · exfalso
      by_cases hcool : b.esc.machine = .cooldown
      · cases hr : b.autoReturns with
        | true =>
          rcases hno with hno | hno
          · exact hno ((returned hcool hr).2.2.1.mp hs)
          · exact hno.2 hcool
        | false =>
          rw [State.evaluateStart_cooldown hcool hr] at hs
          exact absurd (hcool.symm.trans (State.autoStops_iff.mp hs).1) nofun
      · by_cases hoff : b.esc.machine = .off
        · by_cases hstart : b.startAllowed = true ∧ ∃ c, b.FirstCause b.psu.above b.esc.schedule c
          · obtain ⟨ha, k, hk⟩ := hstart
            exact absurd (hs.symm.trans (starts hoff ha k hk).2) nofun
          · rw [State.evaluateStart_off hoff (by grind)] at hs
            exact absurd (hoff.symm.trans (State.autoStops_iff.mp hs).1) nofun
        · rw [State.evaluateStart_other hoff hcool] at hs
          obtain ⟨hm, ha⟩ := State.autoStops_iff.mp hs
          exact hno.elim (fun h => h ha) fun h => h.1 hm
    · rw [if_neg hs]
      exact hquiet

end


/-! ## 3. The engine from the DEMAND to its reply -/

section
variable {f : DemandFields} {s t u b c h : State} {k : CrankCause} {bs : List Block} {sch : Option Schedule}

/-- A start that has been made before the hand-on is one of the whole DEMAND. -/
theorem Started.later (hst : Started s c k) (hcb : BeforeHandOn c b) : Started s b k := by
  obtain ⟨hesc, hstart, hnoted, hworn⟩ := hst
  exact ⟨(hcb.only .esc (by decide)).trans hesc,
    hstart.offers hcb.offers fun _ _ hp => (hp.elim (fun h => h rfl) fun h => h rfl).elim, hcb.notice.trans hnoted, by rw [hcb.starts]; exact hworn⟩

theorem Started.after (hst : Started s h k) (hht : OnlyChanges bs h t)
    (hb : ∀ x ∈ [Block.nlc, .esc, .wear, .notices], x ∉ bs := by decide) : Started s t k := by
  obtain ⟨hesc, hstart, hnoted, hworn⟩ := hst
  exact ⟨(hht .esc (hb _ (by decide))).trans hesc, hstart.after hht (hb _ (by decide)), hnoted.after hht (hb _ (by decide)),
    by rw [hht.wearItem (hb _ (by decide))]; exact hworn⟩

/-- With the engine as the DEMAND found it but for the schedule, the hand-on reads it so. -/
theorem EngineCounted.readsAs (hA : EngineCounted f s c) (hB : BeforeHandOn c b) (hesc : c.esc = { s.esc with schedule := sch })
    (hzone : c.demand.zone = s.demand.zone) : ReadsAs s b ∧ b.esc = { s.esc with schedule := sch } ∧ b.noticeOf .engine = s.noticeOf .engine := by
  have hbesc : b.esc = { s.esc with schedule := sch } := (hB.only .esc (by decide)).trans hesc
  have hitem : c.esc.machine ≠ .cranking ∨ s.esc.machine ≠ .off := by
    rw [hesc]
    by_cases hoff : s.esc.machine = .off
    · exact .inl (by show s.esc.machine ≠ _; rw [hoff]; decide)
    · exact .inr hoff
  refine ⟨⟨by rw [hbesc], ?_, hB.starts.trans (hA.item hitem), ?_, ?_, fun p => ?_⟩, hbesc, hB.notice.trans (hA.quiet (by rw [hesc]))⟩
  · rw [hB.only .demand (by decide)]
    exact hzone
  · rw [hB.only .mode (by decide), hA.only .mode (by decide)]
  · rw [hB.only .nodes (by decide), hA.only .nodes (by decide)]
  · rw [hB.only.par (by decide), hA.only.par (by decide)]

/-- Stop cause AUTO, in RUN or COOLDOWN, by the values that the hand-on leaves. -/
theorem State.autoArises_iff (hauto : b.esc.auto = s.esc.auto) (hpsu : t.psu = b.psu) (hpar : ∀ p, b.par p = s.par p)
    (hitem : b.wearItem .starts = s.wearItem .starts) (hm : s.esc.machine = .run ∨ s.esc.machine = .cooldown) :
    ¬s.AutoStopFails t ↔ b.AutoArises := by
  unfold State.AutoStopFails State.AutoArises
  rw [hauto, hpsu, hpar, hitem]
  rcases hm with hm | hm <;> simp [hm]

theorem engineFollows (hA : EngineCounted f s c) (hzone : c.demand.zone = s.demand.zone) (hB : BeforeHandOn c b)
    (hC : EngineHandedOn b h) (honly : OnlyChanges [.nlc, .esc, .wear, .notices] b h) (hht : OnlyChanges [.hli] h t) :
    EngineFollows f s t := by
  have hpsu : t.psu = b.psu := (hht .psu (by decide)).trans (honly .psu (by decide))
  have hlevel : t.level = b.level := (hht.level (by decide)).trans (honly.level (by decide))
  have htesc : t.esc = h.esc := hht .esc (by decide)
  have hbesc : b.esc = c.esc := hB.only .esc (by decide)
  have hpar (p : Param) : b.par p = s.par p := (hB.only.par (by decide) p).trans (hA.only.par (by decide) p)
  have hescapes {x : EngineUnit} (hh : h = b) (hb : b.esc = x) : t.esc = x := by rw [htesc, hh, hb]
  refine ⟨fun hoff => ?_, fun hcool => ?_, fun hrun hfails => ?_, fun h1 h2 hfails => ?_⟩
  · dsimp only
    refine ⟨fun hearly k hk => ?_, fun hno hlate k hk => ?_, fun hno hlate => ?_⟩
    · have hst := (hA.starts hoff hearly k hk).later hB
      have hm : b.esc.machine = .cranking := by rw [hst.esc]
      have hh := hC.rests (by rw [hm]; decide) (by rw [hm]; decide) fun hr => absurd (hm.symm.trans hr) nofun
      rw [hh] at hht
      exact hst.after hht
    · obtain ⟨hreads, hb, hn⟩ := hA.readsAs hB (hA.off hoff hno) hzone
      have hst := hC.starts (by rw [hb]; exact hoff) (hreads.startAllowed.mpr ⟨hlate.1, hlevel ▸ hlate.2⟩) k
        (by rw [hreads.firstCause, ← hpsu, hb]; exact hk)
      exact (hreads.started hst hn).after hht
    · obtain ⟨hreads, hb, -⟩ := hA.readsAs hB (hA.off hoff hno) hzone
      refine hescapes (hC.off (by rw [hb]; exact hoff) (hlate.imp (fun hx => ?_) fun hx k hk => ?_)) hb
      · refine Bool.eq_false_iff.mpr fun ha => hx ?_
        have := hreads.startAllowed.mp ha
        rw [← hlevel] at this
        exact this
      · rw [hreads.firstCause, ← hpsu, hb] at hk
        exact hx k hk
  · dsimp only
    by_cases hearly : s.ReturnsEarly f
    · obtain ⟨hc, hn⟩ := hA.returns hcool hearly
      have hb := hbesc.trans hc
      have hitem : b.wearItem .starts = s.wearItem .starts := hB.starts.trans (hA.item (.inr (by rw [hcool]; decide)))
      have harises := State.autoArises_iff (s := s) (t := t) (b := b) (by rw [hb]) hpsu hpar hitem (.inr hcool)
      have hm : b.esc.machine = .run := by rw [hb]
      refine ⟨fun _ hfails => ?_, fun _ hfails ht => ?_, fun hno => absurd ⟨hearly.1, .inl hearly.2⟩ hno⟩
      · have hh := hC.rests (by rw [hm]; decide) (by rw [hm]; decide) fun _ ha => harises.mpr ha hfails
        refine ⟨hescapes hh hb, ?_⟩
        rw [hh] at hht
        exact Noted.after (hB.notice.trans hn) hht
      · have hcools := hC.cools hm (harises.mp hfails) (by rw [hpar]; exact ht)
        rw [htesc, hcools.esc, hb, hpar, ← hcool]
    · obtain ⟨hreads, hb, hn⟩ := hA.readsAs hB (hA.cooling hcool hearly) hzone
      have harises := State.autoArises_iff (s := s) (t := t) (b := b) (by rw [hb]) hpsu hpar hreads.starts (.inr hcool)
      have hm : b.esc.machine = .cooldown := by rw [hb]; exact hcool
      have hreturns : b.autoReturns = true ↔ s.demand.zone = false ∧ s.Returns t.psu.above t.level := by
        rw [hreads.autoReturns, hpsu, hlevel]
      have hlate (hr : s.demand.zone = false ∧
          ((s.entersDue f = true ∧ s.Returns s.psu.above (s.countLevel f)) ∨ s.Returns t.psu.above t.level)) : b.autoReturns = true :=
        hreturns.mpr ⟨hr.1, hr.2.resolve_left fun hx => hearly ⟨hr.1, hx⟩⟩
      refine ⟨fun hr hfails => ?_, fun hr hfails ht => ?_, fun hno => ?_⟩
      · obtain ⟨he, hnote⟩ := hC.returns hm (hlate hr) fun ha => harises.mpr ha hfails
        rw [hb] at he
        exact ⟨htesc.trans he, Noted.after (hnote.trans (by rw [hn])) hht⟩
      · have he := hC.turns hm (hlate hr) (harises.mp hfails) (by rw [hpar]; exact ht)
        rw [hb, hpar] at he
        exact htesc.trans he
      · exact hescapes (hC.cooling hm (Bool.eq_false_iff.mpr fun hr => hno ⟨(hreturns.mp hr).1, .inr (hreturns.mp hr).2⟩)) hb
  · obtain ⟨hreads, hb, hn⟩ := hA.readsAs hB (hA.other (by rw [hrun]; decide) (by rw [hrun]; decide)) hzone
    have harises := (State.autoArises_iff (s := s) (t := t) (b := b) (by rw [hb]) hpsu hpar hreads.starts (.inl hrun)).mp hfails
    have hm : b.esc.machine = .run := by rw [hb]; exact hrun
    refine ⟨fun ht => ?_, fun ht => ?_⟩
    · have hcools := hC.cools hm harises (by rw [hpar]; exact ht)
      have he := hcools.esc
      rw [hb, hpar] at he
      exact ⟨htesc.trans he, Noted.after (hcools.noted.trans (by rw [hn])) hht⟩
    · obtain ⟨h1, h2, h3, h4⟩ := hC.stops hm harises (by rw [hpar]; exact ht)
      rw [htesc]
      refine ⟨h1, h2, h3.trans (by rw [hb]), fun htakes => (h4 ?_).after hht⟩
      unfold State.takes State.node at htakes ⊢
      rw [hreads.nodes]
      exact htakes
  · obtain ⟨hreads, hb, hn⟩ := hA.readsAs hB (hA.other h1 h2) hzone
    refine hescapes (hC.rests (by rw [hb]; exact h1) (by rw [hb]; exact h2) fun hrun ha => ?_) hb
    rw [hb] at hrun
    exact (State.autoArises_iff (s := s) (t := t) (b := b) (by rw [hb]) hpsu hpar hreads.starts (.inl hrun)).mpr ha hfails

end


/-! ## 4. The host link has no part in the stages of a DEMAND

A request meets its owner with its slot taken; the statements speak of the state as the request finds it. -/

section
variable {f : DemandFields} {s t a b : State} {x : HostLink} {k : FaultKind}

theorem State.endCause_faults (k : FaultKind) (s : State) : (s.endCause k).faults =
    if s.mode = .halted then s.faults else if s.faults.entry k = none then s.faults
    else if k.latched then s.faults.dropCause k else s.faults.remove k := by
  unfold State.endCause
  by_cases hm : s.mode = .halted
  · rw [if_pos hm, if_pos hm]
  rw [if_neg hm, if_neg hm]
  generalize he : s.faults.entry k = o
  cases o with
  | none => rw [if_pos rfl]
  | some e =>
    rw [if_neg (show ¬(some e = none) from nofun)]
    by_cases hl : k.latched = true
    · rw [if_pos hl]
      dsimp only
      rw [if_pos hl]
      rfl
    · rw [if_neg hl]
      dsimp only
      rw [if_neg hl]
      exact State.noteRestriction_faults _ _

theorem State.endCause_faults_congr (hm : a.mode = b.mode) (hf : a.faults = b.faults) (k : FaultKind) :
    (a.endCause k).faults = (b.endCause k).faults := by
  rw [State.endCause_faults, State.endCause_faults, hm, hf]

theorem State.level_congr (hf : a.faults = b.faults) : a.level = b.level := by
  unfold State.level
  rw [hf]

theorem State.factor_congr (hf : a.faults = b.faults) : a.factor = b.factor := by
  unfold State.factor
  rw [hf]

theorem State.refresh_faults_hli (f : DemandFields) (s : State) (x : HostLink) :
    (((s.setHli x).takeRecord f).refresh).faults = ((s.takeRecord f).refresh).faults := by
  have hstale : ((s.setHli x).takeRecord f).demand.stale = (s.takeRecord f).demand.stale := rfl
  have hfaults : ((s.setHli x).takeRecord f).faults = (s.takeRecord f).faults := rfl
  have hmode : ((s.setHli x).takeRecord f).mode = (s.takeRecord f).mode := rfl
  generalize (s.setHli x).takeRecord f = a at hstale hfaults hmode
  generalize s.takeRecord f = b at hstale hfaults hmode
  unfold State.refresh
  by_cases hs : b.demand.stale = true
  · rw [if_pos hs, if_pos (hstale.trans hs)]
    refine State.endCause_faults_congr ?_ ?_ _
    · exact hmode
    · exact hfaults
  · rw [if_neg hs, if_neg (fun h => hs (hstale.symm.trans h))]
    exact hfaults

theorem State.countLevel_hli (f : DemandFields) (s : State) (x : HostLink) : (s.setHli x).countLevel f = s.countLevel f :=
  State.level_congr (State.refresh_faults_hli f s x)

theorem Started.of_hli {c : CrankCause} (h : Started (s.setHli x) t c) : Started s t c :=
  ⟨h.esc, h.start, h.noted, h.worn⟩

/-- The engine's account of a DEMAND does not read the host link. -/
theorem EngineFollows.of_hli (h : EngineFollows f (s.setHli x) t) : EngineFollows f s t := by
  obtain ⟨h1, h2, h3, h4⟩ := h
  have hlevel := State.countLevel_hli f s x
  unfold State.countLevel at hlevel
  rw [hlevel] at h1 h2
  refine ⟨fun hoff => ?_, h2, h3, h4⟩
  obtain ⟨hearly, hlate, hrest⟩ := h1 hoff
  exact ⟨fun he c hc => (hearly he c hc).of_hli, fun he hl c hc => (hlate he hl c hc).of_hli, hrest⟩

theorem State.cause_of_counted (h : (s.countedSchedule f).map Schedule.phase = some .due) :
    ∃ c, s.FirstCause s.psu.above (s.countedSchedule f) c :=
  State.exists_cause_of_due (s := s.setEsc { s.esc with schedule := s.countedSchedule f }) h

theorem State.demandStages_esc_hli (f : DemandFields) (s : State) (x : HostLink) :
    ((s.setHli x).demandStages f).esc = (s.demandStages f).esc := by
  have hA := State.demandStages_counted f s
  have hB := State.demandStages_counted f (s.setHli x)
  have hlevel := State.countLevel_hli f s x
  have hstarts : (s.setHli x).StartsEarly f ↔ s.StartsEarly f := by
    unfold State.StartsEarly
    rw [hlevel]
    exact Iff.rfl
  have hreturns : (s.setHli x).ReturnsEarly f ↔ s.ReturnsEarly f := by
    unfold State.ReturnsEarly
    rw [hlevel]
    exact Iff.rfl
  by_cases hoff : s.esc.machine = .off
  · by_cases he : s.StartsEarly f
    · obtain ⟨k, hk⟩ := State.cause_of_counted (State.entersDue_phase he.1)
      rw [(hA.starts hoff he k hk).esc, (hB.starts hoff (hstarts.mpr he) k hk).esc]
      rfl
    · rw [hA.off hoff he, hB.off hoff (fun h => he (hstarts.mp h))]
      rfl
  · by_cases hcool : s.esc.machine = .cooldown
    · by_cases he : s.ReturnsEarly f
      · rw [(hA.returns hcool he).1, (hB.returns hcool (hreturns.mpr he)).1]
        rfl
      · rw [hA.cooling hcool he, hB.cooling hcool (fun h => he (hreturns.mp h))]
        rfl
    · rw [hA.other hoff hcool, hB.other hoff hcool]
      rfl

/-- Two states that a blend and a split cannot tell apart. -/
structure SameUnits (a b : State) : Prop where
  demand : a.demand = b.demand
  esc : a.esc = b.esc
  faults : a.faults = b.faults
  mode : a.mode = b.mode
  nodes : a.nodes = b.nodes
  params : a.params = b.params
  bbu : a.bbu = b.bbu
  pads : ∀ j, j ≠ .starts → a.wearItem j = b.wearItem j

theorem State.demandStages_hli (f : DemandFields) (s : State) (x : HostLink) : SameUnits ((s.setHli x).demandStages f) (s.demandStages f) := by
  have hA := State.demandStages_counted f s
  have hB := State.demandStages_counted f (s.setHli x)
  refine ⟨?_, State.demandStages_esc_hli f s x, ?_, ?_, ?_, ?_, ?_, fun j hj => ?_⟩
  · rw [(State.demandStages_spec f s).demand, (State.demandStages_spec f (s.setHli x)).demand]
    rfl
  · rw [State.demandStages_faults, State.demandStages_faults]
    exact State.refresh_faults_hli f s x
  · rw [hA.only .mode (by decide), hB.only .mode (by decide)]
    rfl
  · rw [hA.only .nodes (by decide), hB.only .nodes (by decide)]
    rfl
  · rw [hA.only .params (by decide), hB.only .params (by decide)]
    rfl
  · rw [hA.only .bbu (by decide), hB.only .bbu (by decide)]
    rfl
  · rw [hA.pads j hj, hB.pads j hj]
    rfl

theorem SameUnits.derate (h : SameUnits a b) : a.derate = b.derate := by
  unfold State.derate
  rw [h.pads .battery (by decide)]

theorem SameUnits.chargePower (h : SameUnits a b) : a.chargePower = b.chargePower := by
  unfold State.chargePower
  rw [h.nodes, h.derate]

theorem SameUnits.splitInputs (h : SameUnits a b) : a.splitInputs = b.splitInputs := by
  unfold State.splitInputs
  rw [h.demand, h.nodes, h.esc, State.level_congr h.faults, State.factor_congr h.faults, h.chargePower]
  unfold State.dischargePower
  rw [h.nodes, h.derate]

theorem SameUnits.blendResult (h : SameUnits a b) (trigger : BlendTrigger) : a.blendResult trigger = b.blendResult trigger := by
  unfold State.blendResult State.blendInputs State.lost State.node
  rw [h.demand, h.nodes, h.bbu, h.params, State.level_congr h.faults, State.factor_congr h.faults, h.chargePower,
    h.pads .padFL (by decide), h.pads .padFR (by decide), h.pads .padRL (by decide), h.pads .padRR (by decide)]

theorem SameUnits.raiseStops (h : SameUnits a b) (k : FaultKind) : a.RaiseStops k ↔ b.RaiseStops k := by
  unfold State.RaiseStops
  rw [State.level_congr h.faults, h.faults]

/-- The faults that leaving braking leaves: FRICTION_SATURATED ends where it stood (R83). -/
theorem State.leaveBraking_faults (reason : EndReason) (s : State) : (s.leaveBraking reason).faults =
    if s.bbu.saturated then (s.endCause .frictionSaturated).faults else s.faults := by
  have ha : OnlyChanges [.bbu] s (s.setBbu { s.bbu with prev := 0 }) := by simp
  have hb : OnlyChanges [.log, .notices] (s.setBbu { s.bbu with prev := 0 }) ((s.setBbu { s.bbu with prev := 0 }).closeEvent reason) := by simp
  have hsat : ((s.setBbu { s.bbu with prev := 0 }).closeEvent reason).bbu.saturated = s.bbu.saturated := by rw [hb .bbu (by decide)]; rfl
  unfold State.leaveBraking
  dsimp only
  generalize (s.setBbu { s.bbu with prev := 0 }).closeEvent reason = v at hb hsat
  have hfaults : v.faults = s.faults := (hb .faults (by decide)).trans (ha .faults (by decide))
  have hmode : v.mode = s.mode := (hb .mode (by decide)).trans (ha .mode (by decide))
  by_cases hs : s.bbu.saturated = true
  · rw [if_pos hs, if_pos (hsat.trans hs)]
    refine (State.setBbu_faults _ _).trans (State.endCause_faults_congr ?_ ?_ _)
    · exact hmode
    · exact hfaults
  · rw [if_neg hs, if_neg (fun h => hs (hsat.symm.trans h))]
    exact hfaults

theorem SameUnits.leaveBraking (h : SameUnits a b) (reason : EndReason) : SameUnits (a.leaveBraking reason) (b.leaveBraking reason) := by
  obtain ⟨habbu, -, -, ha⟩ := State.leaveBraking_spec reason a
  obtain ⟨hbbbu, -, -, hb⟩ := State.leaveBraking_spec reason b
  have hpair {α : Type} (g : State → α) (hga : g (a.leaveBraking reason) = g a) (hgb : g (b.leaveBraking reason) = g b) (hg : g a = g b) :
      g (a.leaveBraking reason) = g (b.leaveBraking reason) := hga.trans (hg.trans hgb.symm)
  refine ⟨hpair _ (ha .demand (by decide)) (hb .demand (by decide)) h.demand, hpair _ (ha .esc (by decide)) (hb .esc (by decide)) h.esc, ?_,
    hpair _ (ha .mode (by decide)) (hb .mode (by decide)) h.mode, hpair _ (ha .nodes (by decide)) (hb .nodes (by decide)) h.nodes,
    hpair _ (ha .params (by decide)) (hb .params (by decide)) h.params, by rw [habbu, hbbbu, h.bbu], fun j hj => ?_⟩
  · rw [State.leaveBraking_faults, State.leaveBraking_faults, h.bbu, h.faults, State.endCause_faults_congr h.mode h.faults]
  · rw [ha.wearItem (by decide), hb.wearItem (by decide), h.pads j hj]

end


/-! ## 5. The hand-on of a DEMAND (R134, R136, R137) -/

section
variable {f : DemandFields} {s t u w b c h : State} {r : SplitResult} {dt : Nat} {sch : Option Schedule}

theorem DemandTaken.later (h : DemandTaken f s u) (hd : t.demand = u.demand) (he : t.faults.entry .demandStale = u.faults.entry .demandStale) :
    DemandTaken f s t := by
  obtain ⟨h1, h2, h3, h4, h5, h6, h7, h8, h9, h10, h11, h12, h13⟩ := h
  rw [← hd] at h1 h2 h4 h7 h8 h9 h10 h11 h12 h13
  rw [← he] at h5 h6
  exact ⟨h1, h2, h3, h4, h5, h6, h7, h8, h9, h10, h11, h12, h13⟩

/-- The AUTO setting and the service of the engine behind the countdown. -/
theorem EngineCounted.auto (hA : EngineCounted f s c) : c.esc.auto = s.esc.auto ∧
    (s.esc.machine ≠ .run → s.esc.machine ≠ .cooldown → c.esc.machine ≠ .run ∧ c.esc.machine ≠ .cooldown) := by
  by_cases hoff : s.esc.machine = .off
  · by_cases he : s.StartsEarly f
    · obtain ⟨k, hk⟩ := State.cause_of_counted (State.entersDue_phase he.1)
      rw [(hA.starts hoff he k hk).esc]
      exact ⟨rfl, fun _ _ => ⟨nofun, nofun⟩⟩
    · rw [hA.off hoff he]
      exact ⟨rfl, fun h1 h2 => ⟨h1, h2⟩⟩
  · by_cases hcool : s.esc.machine = .cooldown
    · by_cases he : s.ReturnsEarly f
      · rw [(hA.returns hcool he).1]
        exact ⟨rfl, fun _ h2 => absurd hcool h2⟩
      · rw [hA.cooling hcool he]
        exact ⟨rfl, fun h1 h2 => ⟨h1, h2⟩⟩
    · rw [hA.other hoff hcool]
      exact ⟨rfl, fun h1 h2 => ⟨h1, h2⟩⟩

/-- Where stop cause AUTO fails on the values that the hand-on leaves, it does not arise at it. -/
theorem EngineCounted.noAuto (hA : EngineCounted f s c) (hB : BeforeHandOn c b) (hpsu : t.psu = b.psu) (h : s.AutoStopFails t) :
    ¬b.AutoArises ∨ (b.esc.machine ≠ .run ∧ b.esc.machine ≠ .cooldown) := by
  obtain ⟨hauto, hout⟩ := hA.auto
  have hbesc : b.esc = c.esc := hB.only .esc (by decide)
  by_cases hm : s.esc.machine = .run ∨ s.esc.machine = .cooldown
  · refine .inl fun ha => ?_
    have hitem : b.wearItem .starts = s.wearItem .starts :=
      hB.starts.trans (hA.item (.inr (by rcases hm with hm | hm <;> rw [hm] <;> decide)))
    exact (State.autoArises_iff (by rw [hbesc, hauto]) hpsu (fun p => (hB.only.par (by decide) p).trans (hA.only.par (by decide) p)) hitem hm).mpr ha h
  · obtain ⟨h1, h2⟩ := not_or.mp hm
    rw [hbesc]
    exact .inr (hout h1 h2)

/-- What the hand-on leaves of an ENG FORCE that has been offered before it. -/
theorem Offered.handedOn {p : List Byte} (hforce : Offered s .eng .force p .split b) (hC : EngineHandedOn b h)
    (hno : ¬b.AutoArises ∨ (b.esc.machine ≠ .run ∧ b.esc.machine ≠ .cooldown)) : Offered s .eng .force p .split h :=
  hforce.offers (hC.quiet hno) fun _ _ hp => absurd hp.2 nofun

/-- Any offer to the engine. -/
def ToEngine (n : NodeAddr) (_ : EntryKind) (_ : List Byte) (_ : Origin) : Prop := n = .eng

theorem State.elapsedHandOn_offers (s : State) : Offers ToEngine s s.elapsedHandOn := by
  have he : Offers ToEngine s s.evaluateStart := (Offers.evaluateStart s).mono And.left
  unfold State.elapsedHandOn
  dsimp only
  generalize s.evaluateStart = v at he
  exact he.trans (.ite ((Offers.stopCause _ _ v).mono And.left) (.refl v))

theorem HandsOn.of_hli {x : HostLink} (h : HandsOn r dt (s.setHli x) t) : HandsOn r dt s t := ⟨h.result, h.above, h.grows, h.ends⟩

end

/-! ## 6. The demand split (R121, R134) -/

section
variable {s w : State} {dt : Nat}

/-- The split's two offers and the elapsed values, ahead of the hand-on. -/
def State.splitOffered (dt : Nat) (r : SplitResult) (s : State) : State :=
  (((s.setSplit r).offerTorque r.tInv).offerForce r.engForce).stepElapsed dt

theorem State.demandSplit_eq (dt : Nat) (s : State) :
    s.demandSplit dt = (s.splitOffered dt (s.splitInputs.result s.params)).elapsedHandOn := rfl

/-- The split as it stands ahead of the hand-on: its result, its offers, and the engine left alone. -/
structure SplitOffered (dt : Nat) (r : SplitResult) (s b : State) : Prop where
  before : BeforeHandOn s b
  handsOn : ∀ u : State, s.psu = u.psu → s.nodes = u.nodes → s.params = u.params → HandsOn r dt u b
  torque : Offered s .inv .torque (be16 (twos16 r.tInv)) .split b
  force : Offered s .eng .force (be16 r.engForce) .split b
  only : OnlyChanges [.nlc, .psu] s b

theorem State.splitOffered_spec (dt : Nat) (r : SplitResult) (s : State) : SplitOffered dt r s (s.splitOffered dt r) := by
  let d := s.setSplit r
  let e := d.offerTorque r.tInv
  let g := e.offerForce r.engForce
  have hd : OnlyChanges [.psu] s d := by simp [d, State.setSplit]
  have he : OnlyChanges [.nlc] d e := State.offer_only _ _ _ _ _
  have hg : OnlyChanges [.nlc] e g := State.offer_only _ _ _ _ _
  have hb : OnlyChanges [.psu] g (g.stepElapsed dt) := State.stepElapsed_only dt g
  have htorque : Offered d .inv .torque (be16 (twos16 r.tInv)) .split e := State.offered_offer _ _ _ _ _
  have hforce : Offered e .eng .force (be16 r.engForce) .split g := State.offered_offer _ _ _ _ _
  have hde : BeforeHandOn d e := .offer _ _ (.inl (by decide)) d
  have heg : BeforeHandOn e g := .offer _ _ (.inr (by decide)) e
  have hsg : OnlyChanges [.nlc, .psu] s g := (hd.mono (by decide)).trans ((he.mono (by decide)).trans (hg.mono (by decide)))
  have hpsu : g.psu = { s.psu with result := r } := (hg .psu (by decide)).trans (he .psu (by decide))
  refine ⟨((BeforeHandOn.off hd).trans hde).trans (heg.trans (.off hb)), fun u hu hn hp => ?_,
    ((htorque.before hd).offer (.inl (by decide))).after hb, ((hforce.before he).before hd).after hb, hsg.trans (hb.mono (by decide))⟩
  exact State.stepElapsed_handsOn (hpsu.trans (by rw [hu])) ((hsg .nodes (by decide)).trans hn) ((hsg .params (by decide)).trans hp)

/-- Leaving braking leaves the engine. -/
theorem BeforeHandOn.leaveBraking (reason : EndReason) (s : State) : BeforeHandOn s (s.leaveBraking reason) := by
  obtain ⟨-, -, hnotice, honly⟩ := State.leaveBraking_spec reason s
  exact ⟨.off honly, hnotice _ (by decide) (by decide) (by decide), honly.wearItem (by decide) _, honly.mono (by decide)⟩

end

/-- Settles O14. -/
theorem tractionDemandSplits : Obligations.TractionDemandSplits := by
  intro tag d s i h hm hlen f st u w r hbrake
  -- The request as its owner meets it: its slot is taken.
  let s₁ := s.afterSlot i tag 0x01
  let c := s₁.demandStages f
  let w₁ := if c.bbu.braking then c.leaveBraking .released else c
  let r₁ := w₁.splitInputs.result w₁.params
  let b := w₁.splitOffered s₁.demandStep r₁
  let v := b.elapsedHandOn
  let t := s.plain tag 0x01 true (State.takeDemand d)
  have hA : EngineCounted f s₁ c := State.demandStages_counted f s₁
  have hstages := State.demandStages_spec f s₁
  have htaken : DemandTaken f s₁ c := State.demandStages_taken f (Mode.not_halted_of_live h.live)
  have hsame : SameUnits c u := State.demandStages_hli f s _
  have hbraking : c.bbu.braking = s.bbu.braking := by rw [hA.only .bbu (by decide)]; rfl
  have hcw : BeforeHandOn c w₁ := by
    show BeforeHandOn c (if c.bbu.braking then _ else c)
    split
    · exact .leaveBraking _ c
    · exact .refl c
  have hcbbu : w₁.bbu = if s.bbu.braking = true then
      { s.bbu with prev := 0, result := .initial, braking := false, saturated := false } else s.bbu := by
    show (if c.bbu.braking = true then c.leaveBraking .released else c).bbu = _
    rw [hbraking]
    have hcb : c.bbu = s.bbu := hA.only .bbu (by decide)
    split
    · rw [(State.leaveBraking_spec .released c).1, hcb]
    · exact hcb
  have hcstale : w₁.faults.entry .demandStale = c.faults.entry .demandStale := by
    show (if c.bbu.braking then c.leaveBraking .released else c).faults.entry _ = _
    split
    · rw [State.leaveBraking_faults]
      split
      · exact (KeepsEntry.endCause (by decide) c).entry
      · rfl
    · rfl
  have hconly : OnlyChanges [.bbu, .log, .faults, .notices] c w₁ := by
    show OnlyChanges _ c (if c.bbu.braking then _ else c)
    exact OnlyChanges.ite.mpr ⟨fun _ => (State.leaveBraking_spec .released c).2.2.2, fun _ => .refl _ c⟩
  have hunits : SameUnits w₁ w := by
    show SameUnits (if c.bbu.braking = true then _ else c) (if s.bbu.braking = true then u.leaveBraking .released else u)
    rw [hbraking]
    split
    · exact hsame.leaveBraking _
    · exact hsame
  have hr : r₁ = r := by
    show w₁.splitInputs.result w₁.params = w.splitInputs.result s.params
    rw [hunits.splitInputs, hconly .params (by decide), hA.only .params (by decide)]
    rfl
  have hsplit := State.splitOffered_spec s₁.demandStep r₁ w₁
  have hB : BeforeHandOn c b := hcw.trans hsplit.before
  have hC : EngineHandedOn b v := State.elapsedHandOn_spec b
  have honly := State.elapsedHandOn_only b
  have hsw : OnlyChanges [.demand, .nlc, .bbu, .esc, .log, .wear, .faults, .notices] s₁ w₁ := (hA.only.mono (by decide)).trans (hconly.mono (by decide))
  have hsv : OnlyChanges [.demand, .psu, .nlc, .bbu, .esc, .log, .wear, .faults, .notices] s₁ v :=
    (hsw.mono (by decide)).trans ((hsplit.only.mono (by decide)).trans (honly.mono (by decide)))
  have hhands : HandsOn r₁ s₁.demandStep s₁ b := hsplit.handsOn s₁ (hsw .psu (by decide)) (hsw .nodes (by decide)) (hsw .params (by decide))
  have ho : s₁.takeDemand d = .now v (demandReply st f.override .split .initial r₁) := by
    have hcm : c.mode = .ready := (hA.only .mode (by decide)).trans hm
    have hrec : ¬0 < c.demand.record.brake := by
      rw [htaken.record]
      show ¬0 < min 500 f.brake
      rw [hbrake]
      decide
    exact (if_pos hcm).trans (if_neg hrec)
  have hserved := State.served_plain h ho hsv
  have hrest := hserved.rest
  have hcb : OnlyChanges [.nlc, .bbu, .psu, .log, .faults, .notices] c b := (hconly.mono (by decide)).trans (hsplit.only.mono (by decide))
  have htpsu : t.psu = b.psu := (hrest .psu (by decide)).trans (honly .psu (by decide))
  have hfollows : EngineFollows f s t := EngineFollows.of_hli (x := s₁.hli) (engineFollows hA htaken.zone hB hC honly hrest)
  have hhandsOn : HandsOn r s.demandStep s t := hr ▸ HandsOn.of_hli (x := s₁.hli) (hhands.of_psu htpsu)
  have hbbu : t.bbu = w₁.bbu := (hrest .bbu (by decide)).trans ((honly .bbu (by decide)).trans (hsplit.only .bbu (by decide)))
  have htakes (n : NodeAddr) : w₁.takes n = s.takes n := by
    unfold State.takes State.node
    rw [hsw .nodes (by decide)]
    rfl
  have hforce : Offered s .eng .force (be16 r.engForce) .split b := fun ht => hr ▸ hsplit.force ((htakes _).trans ht)
  have htorque : Offered s .inv .torque (be16 (twos16 r.tInv)) .split b := fun ht => hr ▸ hsplit.torque ((htakes _).trans ht)
  refine ⟨t, ?_, by rw [← hr]; exact hserved.answered, ?_, hhandsOn.result, ?_, hbbu.trans hcbbu, ?_, hhandsOn, fun hfails => ?_,
    fun hrun hauto hsuff hlimit hcool => ?_, hfollows, hserved.only⟩
  · have hb : (d.length == 13) = true := beq_iff_eq.mpr hlen
    refine (State.powered_on h.powered _).trans ?_
    unfold State.reqDemand
    rw [hb]
  · have htv : DemandTaken f s₁ v := htaken.later ((honly .demand (by decide)).trans (hcb .demand (by decide)))
      (by rw [honly .faults (by decide), hsplit.only .faults (by decide)]; exact hcstale)
    exact htv.of_eq State.onlyChanges_afterSlot (by decide) (hrest .demand (by decide)) (hrest .faults (by decide))
  · exact (SplitInputs.split_sum s.params w.splitInputs).1
  · exact (htorque.offers b.elapsedHandOn_offers fun _ _ hp => absurd hp nofun).after hrest
  · exact (hforce.handedOn hC (hA.noAuto hB htpsu hfails)).after hrest
  · have hno : ¬s.AutoStopFails t := by
      unfold State.AutoStopFails
      simp [hrun, hauto, hlimit]
      exact hsuff
    obtain ⟨he, hn⟩ := (hfollows.stops hrun hno).1 hcool
    obtain ⟨hreads, hbe, -⟩ := hA.readsAs hB (hA.other (by show s.esc.machine ≠ _; rw [hrun]; decide) (by show s.esc.machine ≠ _; rw [hrun]; decide)) htaken.zone
    have harises : b.AutoArises :=
      (State.autoArises_iff (s := s) (by rw [hbe]; rfl) htpsu hreads.params hreads.starts (.inl hrun)).mp hno
    have hcools := hC.cools (by rw [hbe]; exact hrun) harises (by rw [hreads.params]; exact hcool)
    exact ⟨by rw [he], by rw [he], by rw [he], fun htk => (hcools.force ((hB.only.takes (by decide) _).trans ((hA.only.takes (by decide) _).trans htk))).after hrest, hn⟩

end Sys2Proof.Machine

/-! The braking DEMAND in READY (O13). -/

namespace Sys2Proof.Machine

-- In order: proofs elaborated side by side wait for one another in too many threads.
set_option Elab.async false

/-! ## 1. What a blend wears (R169, R170) -/

section
variable {s t u : State} {k j : WearKind} {unit amount : Nat}

/-- Weighted energy has joined an item. -/
structure Worn (k : WearKind) (unit amount : Nat) (s t : State) : Prop where
  value : (t.wearItem k).value = min 4294967295 ((s.wearItem k).value + ((s.wearItem k).remainder + amount) / unit)
  remainder : (t.wearItem k).remainder = ((s.wearItem k).remainder + amount) % unit

theorem Worn.after (h : Worn k unit amount s u) (ht : t.wearItem k = u.wearItem k) : Worn k unit amount s t := by
  constructor <;> rw [ht]
  exacts [h.value, h.remainder]

theorem Worn.before (h : Worn k unit amount u t) (hu : u.wearItem k = s.wearItem k) : Worn k unit amount s t := by
  constructor <;> rw [← hu]
  exacts [h.value, h.remainder]

theorem State.refound_remainder (s : State) (k : WearKind) (w : WearItem) : (s.refound k w).remainder = w.remainder := by
  unfold State.refound
  split <;> rfl

theorem State.addEnergy_worn (k : WearKind) (unit amount : Nat) (s : State) : Worn k unit amount s (s.addEnergy k unit amount) := by
  unfold State.addEnergy State.accrue
  constructor <;> rw [State.wearItem_putWear_same]
  · exact State.refound_value _ _ _
  · exact State.refound_remainder _ _ _

theorem State.addEnergy_other (h : j ≠ k) (unit amount : Nat) (s : State) : (s.addEnergy k unit amount).wearItem j = s.wearItem j :=
  State.wearItem_putWear_other _ _ h

theorem State.addEnergy_only (k : WearKind) (unit amount : Nat) (s : State) : OnlyChanges [.wear, .notices] s (s.addEnergy k unit amount) :=
  State.putWear_only _ _ _

/-- The wear of a pad of a state, for an axle's temperature. -/
def State.padWeightOf (s : State) (temp : Option Int) : Nat := padWeight (s.par .tempT1) (s.par .tempT2) temp

theorem State.padAxle_spec {left right : WearKind} (hlr : left ≠ right) (temps : Option Int × Option Int) (joules : Nat) (s : State) :
    Worn left 10000 ((joules + 1) / 2 * s.padWeightOf temps.1) s (s.padAxle left right temps joules) ∧
    Worn right 10000 (joules / 2 * s.padWeightOf temps.2) s (s.padAxle left right temps joules) ∧
    (∀ j, j ≠ left → j ≠ right → (s.padAxle left right temps joules).wearItem j = s.wearItem j) ∧
    OnlyChanges [.wear, .notices] s (s.padAxle left right temps joules) := by
  unfold State.padAxle
  dsimp only
  have ha := State.addEnergy_worn left 10000 ((joules + 1) / 2 * s.padWeightOf temps.1) s
  have hao (j : WearKind) (h : j ≠ left) := State.addEnergy_other h 10000 ((joules + 1) / 2 * s.padWeightOf temps.1) s
  have haonly := State.addEnergy_only left 10000 ((joules + 1) / 2 * s.padWeightOf temps.1) s
  unfold State.padWeightOf at ha hao haonly ⊢
  generalize s.addEnergy left 10000 ((joules + 1) / 2 * padWeight (s.par .tempT1) (s.par .tempT2) temps.1) = a at ha hao haonly
  exact ⟨ha.after (State.addEnergy_other hlr _ _ a), (State.addEnergy_worn right _ _ a).before (hao _ hlr.symm),
    fun j hl hr => (State.addEnergy_other hr _ _ a).trans (hao j hl), haonly.trans (State.addEnergy_only _ _ _ a)⟩

/-- The pads after the whole joules of a blend, by sides and temperatures. -/
structure PadsWorn (front rear : Nat) (s t : State) : Prop where
  frontLeft : Worn .padFL 10000 ((front + 1) / 2 * s.padWeightOf (padsOf s.nodes.bkf s.nodes.bkfReport).1) s t
  frontRight : Worn .padFR 10000 (front / 2 * s.padWeightOf (padsOf s.nodes.bkf s.nodes.bkfReport).2) s t
  rearLeft : Worn .padRL 10000 ((rear + 1) / 2 * s.padWeightOf (padsOf s.nodes.bkr s.nodes.bkrReport).1) s t
  rearRight : Worn .padRR 10000 (rear / 2 * s.padWeightOf (padsOf s.nodes.bkr s.nodes.bkrReport).2) s t

theorem PadsWorn.after {front rear : Nat} (h : PadsWorn front rear s u) (ht : ∀ j, j ≠ .starts → t.wearItem j = u.wearItem j) :
    PadsWorn front rear s t :=
  ⟨h.frontLeft.after (ht _ (by decide)), h.frontRight.after (ht _ (by decide)), h.rearLeft.after (ht _ (by decide)),
    h.rearRight.after (ht _ (by decide))⟩

theorem PadsWorn.before {front rear : Nat} (h : PadsWorn front rear u t) (hu : ∀ j, j ≠ .starts → u.wearItem j = s.wearItem j)
    (hp : u.params = s.params) (hn : u.nodes = s.nodes) : PadsWorn front rear s t := by
  have hweight (x : Option Int) : u.padWeightOf x = s.padWeightOf x := by
    unfold State.padWeightOf State.par
    rw [hp]
  obtain ⟨h1, h2, h3, h4⟩ := h
  rw [hn, hweight] at h1 h2 h3 h4
  exact ⟨h1.before (hu _ (by decide)), h2.before (hu _ (by decide)), h3.before (hu _ (by decide)), h4.before (hu _ (by decide))⟩

theorem State.padWear_spec (front rear : Nat) (s : State) : PadsWorn front rear s (s.padWear front rear) ∧
    (s.padWear front rear).wearItem .starts = s.wearItem .starts ∧ OnlyChanges [.wear, .notices] s (s.padWear front rear) := by
  unfold State.padWear
  dsimp only
  obtain ⟨hfl, hfr, hfo, hfonly⟩ := State.padAxle_spec (left := .padFL) (right := .padFR) (by decide) (padsOf s.nodes.bkf s.nodes.bkfReport) front s
  generalize s.padAxle .padFL .padFR (padsOf s.nodes.bkf s.nodes.bkfReport) front = a at hfl hfr hfo hfonly
  have hnodes : a.nodes = s.nodes := hfonly .nodes (by decide)
  have hweight (x : Option Int) : a.padWeightOf x = s.padWeightOf x := by
    unfold State.padWeightOf
    rw [hfonly.par (by decide), hfonly.par (by decide)]
  rw [hnodes]
  obtain ⟨hrl, hrr, hro, hronly⟩ := State.padAxle_spec (left := .padRL) (right := .padRR) (by decide) (padsOf s.nodes.bkr s.nodes.bkrReport) rear a
  rw [hweight] at hrl hrr
  exact ⟨⟨hfl.after (hro _ (by decide) (by decide)), hfr.after (hro _ (by decide) (by decide)), hrl.before (hfo _ (by decide) (by decide)),
    hrr.before (hfo _ (by decide) (by decide))⟩, (hro _ (by decide) (by decide)).trans (hfo _ (by decide) (by decide)), hfonly.trans hronly⟩

/-- The wear and the event feed of a demand blend (R102, R103, R169). -/
theorem State.driveBlend_hands {r : BlendResult} (slipCut : Bool) (dt : Nat) (hr : r.trigger ≠ .held) (s : State) :
    PadsWorn (s.blendEnergies dt r).whole.front (s.blendEnergies dt r).whole.rear s (s.driveBlend slipCut dt r) ∧
    (s.driveBlend slipCut dt r).wearItem .starts = s.wearItem .starts ∧
    (s.driveBlend slipCut dt r).log =
      s.log.take s.runTime (fedBlend r slipCut s.demand.record.speed s.demand.record.brake (s.blendEnergies dt r).whole) := by
  unfold State.driveBlend State.blendEnergies
  dsimp only
  generalize s.bbu.energies r s.demand.record.speed dt = e
  have ha : OnlyChanges [.nlc, .bbu] s ((s.setBbu (s.bbu.blended r e)).offerBlend r) := by simp
  generalize (s.setBbu (s.bbu.blended r e)).offerBlend r = a at ha
  obtain ⟨hpads, hstarts, honly⟩ := a.padWear_spec e.whole.front e.whole.rear
  generalize a.padWear e.whole.front e.whole.rear = b at hpads hstarts honly
  rw [if_neg hr]
  have hlast (f : FedBlend) : OnlyChanges [.log] b (b.logBlend f) := by simp (disch := decide)
  refine ⟨(hpads.before (fun j _ => ha.wearItem (by decide) j) (ha .params (by decide)) (ha .nodes (by decide))).after fun j _ =>
    (hlast _).wearItem (by decide) j, ?_, ?_⟩
  · rw [(hlast _).wearItem (by decide), hstarts, ha.wearItem (by decide)]
  · show b.log.take b.runTime (fedBlend r slipCut s.demand.record.speed b.demand.record.brake e.whole) = _
    rw [honly .demand (by decide), ha .demand (by decide), honly .log (by decide), ha .log (by decide), honly .runTime (by decide), ha .runTime (by decide)]

end

/-! ## 2. What a demand blend leaves in the event (R107 to R109) -/

section
variable {l : EventLog} {ev : OpenEvent} {now : Time} {r : BlendResult} {v a : Nat} {j : Joules}

theorem addJoules_fits {sum : BitVec 48} {joules : Nat} (h : sum.toNat + joules < 2 ^ 48) : (addJoules sum joules).toNat = sum.toNat + joules := by
  unfold addJoules
  rw [if_pos h, BitVec.toNat_ofNat, Nat.mod_eq_of_lt h]

theorem EventLog.take_rest (now : Time) (b : FedBlend) (l : EventLog) : l.take now b = { l with current := (l.take now b).current } := by
  unfold EventLog.take
  split
  · rfl
  · split <;> rfl

theorem EventLog.take_open (h : l.current = some ev) (b : FedBlend) : (l.take now b).current = some (ev.feed b) := by
  simp only [EventLog.take, h]

theorem EventLog.take_closed (h : l.current = none) (hr : r.trigger ≠ .cut) :
    (l.take now (fedBlend r false v a j)).current = if v = 0 then none else some (openEvent now (fedBlend r false v a j)) := by
  have hcut : (fedBlend r false v a j).cut = false := beq_eq_false_iff_ne.mpr hr
  simp only [EventLog.take, h, hcut, Bool.false_or]
  show (if (v == 0) = true then l else _).current = _
  by_cases hv : v = 0
  · rw [if_pos (beq_iff_eq.mpr hv), if_pos hv]
    exact h
  · rw [if_neg (fun hx => hv (beq_iff_eq.mp hx)), if_neg hv]

end


/-! ## 3. The shortfall of a demand blend (R86, R99, R196) -/

section
variable {s t u c : State} {r : BlendResult} {dt : Nat}

/-- FRICTION_SATURATED after a blend that takes the level nowhere (R99). -/
structure Saturates (r : BlendResult) (s t : State) : Prop where
  leaves : LeavesEngine s t
  bbu : t.bbu = { s.bbu with saturated := r.short }
  raised : r.short = true → t.Raised .frictionSaturated
  ends : r.short = false → s.bbu.saturated = true → t.faults.entry .frictionSaturated = none
  level : r.short = true → s.level = .safeStop → t.level = .safeStop
  stale : KeepsEntry .demandStale s t
  only : OnlyChanges [.bbu, .faults, .notices] s t

theorem BeforeHandOn.of_leaves (h : LeavesEngine s t) (hstarts : t.wearItem .starts = s.wearItem .starts) : BeforeHandOn s t :=
  ⟨h.offers.mono fun hp => .inl hp.1, h.notices _ (by decide), hstarts, h.only.mono (by decide)⟩

theorem Saturates.before (h : Saturates r s t) : BeforeHandOn s t := .of_leaves h.leaves (h.only.wearItem (by decide) _)

/-- A raise leaves SAFE_STOP standing (R192, R195). -/
theorem State.raiseCore_safeStop (k : FaultKind) (detail : Nat) (h : s.level = .safeStop) : (s.raiseCore k detail).level = .safeStop :=
  State.level_safeStop_iff.mpr ((State.level_safeStop_iff.mp h).raiseCore (fun _ _ he => he) k detail)

/-- The raise of FRICTION_SATURATED by itself. -/
theorem Saturates.raise (hm : s.mode ≠ .halted) (hs : r.short = true) :
    Saturates r s ((s.setBbu { s.bbu with saturated := true }).raiseCore .frictionSaturated r.shortDetail) := by
  have ha : OnlyChanges [.bbu] s (s.setBbu { s.bbu with saturated := true }) := by simp
  have hbbu : (s.setBbu { s.bbu with saturated := true }).bbu = { s.bbu with saturated := r.short } := by rw [hs]; rfl
  generalize s.setBbu { s.bbu with saturated := true } = a at ha hbbu
  have hb := State.raiseCore_only .frictionSaturated r.shortDetail a
  refine ⟨(LeavesEngine.off ha).trans (.raiseCore _ _ a), (hb .bbu (by decide)).trans hbbu,
    fun _ => State.raised_raiseCore (by rw [ha .mode (by decide)]; exact hm) _ _, fun hno => absurd (hs.symm.trans hno) nofun,
    fun _ hl => State.raiseCore_safeStop _ _ ((ha.level (by decide)).trans hl),
    (KeepsEntry.of_eq (ha .faults (by decide))).trans (.raiseCore (by decide) _ a), (ha.mono (by decide)).trans (hb.mono (by decide))⟩

theorem State.raiseStops_congr (k : FaultKind) (hf : t.faults = s.faults) : t.RaiseStops k ↔ s.RaiseStops k := by
  unfold State.RaiseStops
  rw [State.level_congr hf, hf]

/-- A blend that takes the level nowhere hands nothing on (R99). -/
theorem State.saturation_rests (cut : State → State) (hm : s.mode ≠ .halted) (hno : ¬(r.short = true ∧ s.RaiseStops .frictionSaturated)) :
    Saturates r s (s.saturation cut r) := by
  unfold State.saturation
  by_cases hs : r.short = true
  · rw [if_pos hs]
    have hraise := Saturates.raise hm hs
    have hset : OnlyChanges [.bbu] s (s.setBbu { s.bbu with saturated := true }) := by simp
    unfold State.raiseWith
    dsimp only
    generalize s.setBbu { s.bbu with saturated := true } = a at hset hraise
    have hb : becameSafeStop a (a.raiseCore .frictionSaturated r.shortDetail) = false := Bool.eq_false_iff.mpr fun hb =>
      hno ⟨hs, (State.raiseStops_congr _ (hset .faults (by decide))).mp
        ((State.becameSafeStop_iff (by rw [hset .mode (by decide)]; exact hm)).mp hb)⟩
    rw [hb]
    exact hraise
  · have hs' := Bool.eq_false_iff.mpr hs
    rw [if_neg hs]
    by_cases hsat : s.bbu.saturated = true
    · rw [if_pos hsat]
      have ha : OnlyChanges [.bbu] s (s.setBbu { s.bbu with saturated := false }) := by simp
      have hbbu : (s.setBbu { s.bbu with saturated := false }).bbu = { s.bbu with saturated := r.short } := by rw [hs']; rfl
      generalize s.setBbu { s.bbu with saturated := false } = a at ha hbbu
      have hb := State.endCause_only .frictionSaturated a
      exact ⟨(LeavesEngine.off ha).trans (.endCause _ a), (hb .bbu (by decide)).trans hbbu, fun h => absurd h hs,
        fun _ _ => State.entry_endCause_self (by rw [ha .mode (by decide)]; exact hm) rfl, fun h => absurd h hs,
        (KeepsEntry.of_eq (ha .faults (by decide))).trans (.endCause (by decide) a), (ha.mono (by decide)).trans (hb.mono (by decide))⟩
    · rw [if_neg hsat]
      exact ⟨.refl s, by rw [hs', ← Bool.eq_false_iff.mpr hsat], fun h => absurd h hs, fun _ h => absurd h hsat, fun h => absurd h hs,
        .refl s, .refl _ s⟩

/-- A blend whose shortfall takes the level to SAFE_STOP: the raise, the cut, and stop cause SAFE (R196). -/
theorem State.saturation_halts (cut : State → State) (hm : s.mode ≠ .halted) (hs : r.short = true) (hstop : s.RaiseStops .frictionSaturated) :
    ∃ a, Saturates r s a ∧ a.level = .safeStop ∧ s.saturation cut r = (cut a).safeCause := by
  have hraise := Saturates.raise hm hs
  have hset : OnlyChanges [.bbu] s (s.setBbu { s.bbu with saturated := true }) := by simp
  unfold State.saturation State.raiseWith
  rw [if_pos hs]
  dsimp only
  generalize s.setBbu { s.bbu with saturated := true } = a at hset hraise
  have hb : becameSafeStop a (a.raiseCore .frictionSaturated r.shortDetail) = true :=
    (State.becameSafeStop_iff (by rw [hset .mode (by decide)]; exact hm)).mpr ((State.raiseStops_congr _ (hset .faults (by decide))).mpr hstop)
  refine ⟨_, hraise, ?_, by rw [hb]; rfl⟩
  simp only [becameSafeStop, Bool.and_eq_true, beq_iff_eq] at hb
  exact hb.2

/-! ## 4. The demand blend as a whole (R82, R101) -/

/-- A demand blend that halts nothing. -/
structure BlendStands (dt : Nat) (r : BlendResult) (s t : State) : Prop where
  before : BeforeHandOn s t
  offered : BlendOffered r s t
  bbu : t.bbu = { s.bbu.blended r (s.blendEnergies dt r) with saturated := r.short }
  raised : r.short = true → t.Raised .frictionSaturated
  pads : PadsWorn (s.blendEnergies dt r).whole.front (s.blendEnergies dt r).whole.rear s t
  log : t.log = s.log.take s.runTime (fedBlend r false s.demand.record.speed s.demand.record.brake (s.blendEnergies dt r).whole)
  stale : KeepsEntry .demandStale s t

/-- The blend that stands once a shortfall has halted the vehicle, ahead of stop cause SAFE: the demand blend, or its cut re-blend. -/
structure BlendHalts (r : BlendResult) (s t : State) : Prop where
  before : BeforeHandOn s t
  offered : BlendOffered t.bbu.result s t
  prev : t.bbu.prev = 0
  braking : t.bbu.braking = true
  short : t.bbu.result.short = true → t.level = .safeStop ∧ t.Raised .frictionSaturated
  ends : t.bbu.result.short = false → t.faults.entry .frictionSaturated = none
  same : r.fReg = 0 → t.bbu.result = r
  cut : 0 < r.fReg → t.bbu.result.trigger = .cut ∧ t.bbu.result.fReg = 0 ∧ t.bbu.result.tReg = 0 ∧ t.bbu.result.fDem = r.fDem ∧
    t.bbu.result.fFront + t.bbu.result.fRear = r.fDem
  stale : KeepsEntry .demandStale s t

theorem BeforeHandOn.driveBlend (slipCut : Bool) (dt : Nat) (hr : r.trigger ≠ .held) (s : State) :
    BeforeHandOn s (s.driveBlend slipCut dt r) := .of_leaves (.driveBlend slipCut dt r s) (State.driveBlend_hands slipCut dt hr s).2.1

theorem State.demandBlend_stands (hm : s.mode ≠ .halted) (hno : ¬((s.blendResult .demand).short = true ∧ s.RaiseStops .frictionSaturated)) :
    BlendStands dt (s.blendResult .demand) s (s.demandBlend dt) := by
  have htrigger : (s.blendResult .demand).trigger ≠ .held := nofun
  unfold State.demandBlend
  rw [State.applyBlend_eq]
  generalize s.blendResult .demand = r at hno htrigger
  obtain ⟨hpads, hstarts, hlog⟩ := State.driveBlend_hands false dt htrigger s
  obtain ⟨hbbu, hoffered, -⟩ := State.driveBlend_spec false dt r s
  have hbefore := BeforeHandOn.driveBlend false dt htrigger s
  have honly := State.driveBlend_only (s := s) (slipCut := false) (dt := dt) (r := r)
  generalize s.driveBlend false dt r = d at hpads hstarts hlog hbbu hoffered hbefore honly
  have hsat := State.saturation_rests (s := d) (State.cutReblend false) (by rw [honly .mode (by decide)]; exact hm)
    (fun h => hno ⟨h.1, (State.raiseStops_congr _ (honly .faults (by decide))).mp h.2⟩)
  refine ⟨hbefore.trans hsat.before, hoffered.offers (P := EngineOffer) (.off hsat.only) fun _ _ _ _ => EngineOffer.eng, ?_, hsat.raised,
    hpads.after fun j _ => hsat.only.wearItem (by decide) j, (hsat.only .log (by decide)).trans hlog,
    (KeepsEntry.of_eq (honly .faults (by decide))).trans hsat.stale⟩
  rw [hsat.bbu, hbbu]

/-- The cut re-blend at SAFE_STOP: the whole force as friction (R86, R93). -/
theorem State.cutReblend_halts (hm : s.mode = .ready) (hl : s.level = .safeStop) (hp : 0 < s.bbu.prev) (hsat : s.bbu.saturated = true) :
    let t := s.cutReblend false
    BeforeHandOn s t ∧ BlendOffered t.bbu.result s t ∧ t.bbu.prev = 0 ∧ t.bbu.braking = true ∧
      (t.bbu.result.short = true → t.level = .safeStop ∧ t.Raised .frictionSaturated) ∧
      (t.bbu.result.short = false → t.faults.entry .frictionSaturated = none) ∧
      t.bbu.result = s.blendResult .cut ∧ KeepsEntry .demandStale s t := by
  have hrun : s.cutReblend false = s.applyBlend id false 0 (s.blendResult .cut) := if_pos ⟨hm, hp⟩
  have hreg : (s.blendResult .cut).fReg = 0 :=
    (BlendInputs.fReg_of_forced (i := s.blendInputs false) (p := s.params) (.inr (.inr (.inl hl)))).2
  have htrigger : (s.blendResult .cut).trigger ≠ .held := nofun
  rw [hrun, State.applyBlend_eq]
  generalize s.blendResult .cut = r at hreg htrigger
  obtain ⟨hbbu, hoffered, -⟩ := State.driveBlend_spec false 0 r s
  have hbefore := BeforeHandOn.driveBlend false 0 htrigger s
  have honly := State.driveBlend_only (s := s) (slipCut := false) (dt := 0) (r := r)
  generalize s.driveBlend false 0 r = d at hbbu hoffered hbefore honly
  have hdl : d.level = .safeStop := (honly.level (by decide)).trans hl
  have hdm : d.mode ≠ .halted := by rw [honly .mode (by decide), hm]; decide
  have hs := State.saturation_rests (s := d) (r := r) id hdm fun h => h.2.1 hdl
  dsimp only
  generalize d.saturation id r = t at hs
  have htb : t.bbu = { s.bbu.blended r (s.blendEnergies 0 r) with saturated := r.short } := by rw [hs.bbu, hbbu]
  have hresult : t.bbu.result = r := by rw [htb]; rfl
  rw [hresult]
  refine ⟨hbefore.trans hs.before, hoffered.offers (P := EngineOffer) (.off hs.only) fun _ _ _ _ => EngineOffer.eng, ?_, by rw [htb]; rfl,
    fun hshort => ⟨hs.level hshort hdl, hs.raised hshort⟩, fun hshort => hs.ends hshort ?_, rfl,
    (KeepsEntry.of_eq (honly .faults (by decide))).trans hs.stale⟩
  · rw [htb]
    exact hreg
  · rw [hbbu]
    exact hsat

theorem State.demandBlend_halts (hm : s.mode = .ready) (hs : (s.blendResult .demand).short = true) (hstop : s.RaiseStops .frictionSaturated) :
    ∃ x, BlendHalts (s.blendResult .demand) s x ∧ s.demandBlend dt = x.safeCause := by
  have htrigger : (s.blendResult .demand).trigger ≠ .held := nofun
  have hdem : (s.blendResult .demand).fDem = s.demand.record.mass * s.demand.record.brake / 100 := rfl
  unfold State.demandBlend
  rw [State.applyBlend_eq]
  generalize s.blendResult .demand = r at hs htrigger hdem
  obtain ⟨hbbu, hoffered, -⟩ := State.driveBlend_spec false dt r s
  have hbefore := BeforeHandOn.driveBlend false dt htrigger s
  have honly := State.driveBlend_only (s := s) (slipCut := false) (dt := dt) (r := r)
  generalize s.driveBlend false dt r = d at hbbu hoffered hbefore honly
  have hdm : d.mode = .ready := (honly .mode (by decide)).trans hm
  obtain ⟨a, hsat, hal, hrun⟩ := State.saturation_halts (s := d) (State.cutReblend false) (by rw [hdm]; decide) hs
    ((State.raiseStops_congr _ (honly .faults (by decide))).mpr hstop)
  have habbu : a.bbu = { s.bbu.blended r (s.blendEnergies dt r) with saturated := r.short } := by rw [hsat.bbu, hbbu]
  have hprev : a.bbu.prev = r.fReg := by rw [habbu]; rfl
  have hsa : BeforeHandOn s a := hbefore.trans hsat.before
  have hstale : KeepsEntry .demandStale s a := (KeepsEntry.of_eq (honly .faults (by decide))).trans hsat.stale
  refine ⟨a.cutReblend false, ?_, hrun⟩
  by_cases hreg : r.fReg = 0
  · rw [State.cutReblend_idle (hprev.trans hreg)]
    have hresult : a.bbu.result = r := by rw [habbu]; rfl
    refine ⟨hsa, ?_, hprev.trans hreg, by rw [habbu]; rfl, fun _ => ⟨hal, hsat.raised hs⟩, fun h => ?_, fun _ => hresult,
      fun h => absurd hreg h.ne', hstale⟩
    · rw [hresult]
      exact hoffered.offers (P := EngineOffer) (.off hsat.only) fun _ _ _ _ => EngineOffer.eng
    · rw [hresult, hs] at h
      exact absurd h nofun
  · have hpos : 0 < a.bbu.prev := by omega
    have ham : a.mode = .ready := (hsat.only .mode (by decide)).trans hdm
    obtain ⟨hcut, hoff, hp, hbraking, hshort, hends, hres, hkeep⟩ := State.cutReblend_halts ham hal hpos (by rw [hsat.bbu]; exact hs)
    obtain ⟨htorque, hforce⟩ := BlendInputs.fReg_of_forced (i := a.blendInputs false) (p := a.params) (.inr (.inr (.inl hal)))
    have hrecord : a.demand.record = s.demand.record := by rw [hsa.only .demand (by decide)]
    have hfdem : (a.blendResult .cut).fDem = r.fDem := by
      rw [hdem, ← hrecord]
      rfl
    have hsum := BlendInputs.forces_sum a.params (a.blendInputs false)
    refine ⟨hsa.trans hcut, hoff.before (hsa.only .nodes (by decide)), hp, hbraking, hshort, hends, fun h => absurd h hreg, fun _ => ?_,
      hstale.trans hkeep⟩
    rw [hres]
    refine ⟨rfl, hforce, htorque, hfdem, ?_⟩
    rw [← hfdem]
    show (a.blendInputs false).fFront a.params + (a.blendInputs false).fRear a.params = (a.blendInputs false).fDem
    omega

end


/-! ## 5. The schedule behind a DEMAND (R161, R162) -/

section
variable {f : DemandFields} {s t u c z b h x : State} {r : SplitResult} {dt : Nat}

/-- The schedule and the machine state, from the countdown on: a start clears the one and leaves OFF for good. -/
structure ScheduleFollows (f : DemandFields) (s u : State) : Prop where
  off : s.esc.machine = .off → u.esc.machine = .off → u.esc.schedule = s.scheduleAfter f
  started : s.esc.machine = .off → u.esc.machine ≠ .off → u.esc.schedule = none
  runs : s.esc.machine ≠ .off → u.esc.machine ≠ .off ∧ u.esc.schedule = s.scheduleAfter f

theorem ScheduleFollows.schedule (h : ScheduleFollows f s u) :
    u.esc.schedule = if s.esc.machine = .off ∧ u.esc.machine ≠ .off then none else s.scheduleAfter f := by
  obtain ⟨hoff, hstarted, hruns⟩ := h
  by_cases hs : s.esc.machine = .off
  · by_cases hu : u.esc.machine = .off
    · rw [if_neg fun h => h.2 hu]
      exact hoff hs hu
    · rw [if_pos ⟨hs, hu⟩]
      exact hstarted hs hu
  · rw [if_neg fun h => hs h.1]
    exact (hruns hs).2

theorem EngineCounted.schedule (hA : EngineCounted f s c) : ScheduleFollows f s c := by
  by_cases hs : s.esc.machine = .off
  · have hafter : s.scheduleAfter f = s.countedSchedule f := if_neg fun h => h.2 hs
    by_cases he : s.StartsEarly f
    · obtain ⟨k, hk⟩ := State.cause_of_counted (State.entersDue_phase he.1)
      have hesc := (hA.starts hs he k hk).esc
      refine ⟨fun _ hc => ?_, fun _ _ => by rw [hesc], fun h => absurd hs h⟩
      rw [hesc] at hc
      exact absurd hc nofun
    · have hesc := hA.off hs he
      refine ⟨fun _ _ => by rw [hesc, hafter], fun _ hc => ?_, fun h => absurd hs h⟩
      rw [hesc] at hc
      exact absurd hs hc
  · refine ⟨fun h => absurd h hs, fun h => absurd h hs, fun _ => ?_⟩
    by_cases hcool : s.esc.machine = .cooldown
    · by_cases he : s.ReturnsEarly f
      · rw [(hA.returns hcool he).1]
        exact ⟨nofun, rfl⟩
      · rw [hA.cooling hcool he]
        exact ⟨hs, rfl⟩
    · rw [hA.other hs hcool]
      exact ⟨hs, rfl⟩

/-- A stop cause neither leaves OFF nor enters it, and keeps the schedule. -/
theorem ScheduleFollows.stops (h : ScheduleFollows f s u) (hm : u.esc.machine.StopsTo t.esc.machine) (hsch : t.esc.schedule = u.esc.schedule) :
    ScheduleFollows f s t := by
  have hoff : t.esc.machine = .off ↔ u.esc.machine = .off :=
    ⟨fun ht => not_not.mp fun hu => hm.off hu ht, fun hu => (hm.stands (.inl hu)).trans hu⟩
  obtain ⟨h1, h2, h3⟩ := h
  refine ⟨fun hs ht => ?_, fun hs ht => ?_, fun hs => ?_⟩
  · rw [hsch]
    exact h1 hs (hoff.mp ht)
  · rw [hsch]
    exact h2 hs fun hu => ht (hoff.mpr hu)
  · rw [hsch]
    exact ⟨fun ht => (h3 hs).1 (hoff.mp ht), (h3 hs).2⟩

theorem ScheduleFollows.of_esc (h : ScheduleFollows f s u) (ht : t.esc = u.esc) : ScheduleFollows f s t := by
  constructor <;> rw [ht]
  exacts [h.off, h.started, h.runs]

/-- An evaluation point starts an engine that is OFF, and clears the schedule, or it keeps the schedule. -/
theorem ScheduleFollows.evaluates (h : ScheduleFollows f s u) : ScheduleFollows f s u.evaluateStart := by
  by_cases hoff : u.esc.machine = .off
  · by_cases hstart : u.startAllowed = true ∧ ∃ c, u.FirstCause u.psu.above u.esc.schedule c
    · obtain ⟨ha, k, hk⟩ := hstart
      obtain ⟨-, hst, -, -⟩ := State.evaluateStart_starts hoff hk ha
      refine ⟨fun _ hm => ?_, fun _ _ => by rw [hst.esc], fun hs => absurd hoff (h.runs hs).1⟩
      rw [hst.esc] at hm
      exact absurd hm nofun
    · rw [State.evaluateStart_off hoff (by grind)]
      exact h
  · by_cases hcool : u.esc.machine = .cooldown
    · cases hr : u.autoReturns with
      | true =>
        have he := (State.returnToRun_spec hcool).1
        rw [State.evaluateStart_returns hcool hr]
        refine ⟨fun _ hm => ?_, fun hs _ => ?_, fun hs => ?_⟩
        · rw [he] at hm
          exact absurd hm nofun
        · rw [he]
          exact h.started hs hoff
        · rw [he]
          exact ⟨nofun, (h.runs hs).2⟩
      | false =>
        rw [State.evaluateStart_cooldown hcool hr]
        exact h
    · rw [State.evaluateStart_other hoff hcool]
      exact h

theorem ScheduleFollows.handsOn (h : ScheduleFollows f s u) : ScheduleFollows f s u.elapsedHandOn := by
  have he := h.evaluates
  unfold State.elapsedHandOn
  dsimp only
  generalize u.evaluateStart = v at he
  split
  · exact he.stops (State.stopCause_machine v .auto false) (State.stopCause_schedule .auto false v)
  · exact he

/-! ## 6. The braking hand-on (R122, R136, R137) -/

/-- What the braking hand-on does ahead of the engine's: the split result, ENG FORCE 0 and the elapsed values. -/
def State.brakeOffered (dt : Nat) (s : State) : State := ((s.setSplit .initial).offerForce 0).stepElapsed dt

theorem State.brakingHandOn_eq (dt : Nat) (s : State) : s.brakingHandOn dt = (s.brakeOffered dt).elapsedHandOn := rfl

structure BrakeOffered (dt : Nat) (s b : State) : Prop where
  before : BeforeHandOn s b
  handsOn : ∀ u : State, s.psu = u.psu → s.nodes = u.nodes → s.params = u.params → HandsOn .initial dt u b
  force : Offered s .eng .force [0, 0] .split b
  offers : Offers ToEngine s b
  only : OnlyChanges [.nlc, .psu] s b

theorem State.brakeOffered_spec (dt : Nat) (s : State) : BrakeOffered dt s (s.brakeOffered dt) := by
  have hd : OnlyChanges [.psu] s (s.setSplit .initial) := by simp [State.setSplit]
  have hdpsu : (s.setSplit .initial).psu = { s.psu with result := .initial } := rfl
  unfold State.brakeOffered State.offerForce
  rw [forcePayload_zero]
  generalize s.setSplit .initial = d at hd hdpsu
  have hg : OnlyChanges [.nlc] d (d.offer .eng .force [0, 0] .split) := State.offer_only _ _ _ _ _
  have hforce : Offered d .eng .force [0, 0] .split (d.offer .eng .force [0, 0] .split) := State.offered_offer _ _ _ _ _
  have hoffer : BeforeHandOn d (d.offer .eng .force [0, 0] .split) := .offer _ _ (.inr (by decide)) d
  have heng : Offers ToEngine d (d.offer .eng .force [0, 0] .split) := .offer rfl d
  generalize d.offer .eng .force [0, 0] .split = g at hg hforce hoffer heng
  have hb := State.stepElapsed_only dt g
  have hsg : OnlyChanges [.nlc, .psu] s g := (hd.mono (by decide)).trans (hg.mono (by decide))
  have hpsu : g.psu = { s.psu with result := .initial } := (hg .psu (by decide)).trans hdpsu
  refine ⟨(BeforeHandOn.off hd).trans (hoffer.trans (.off hb)), fun u hu hn hp => ?_, (hforce.before hd).after hb,
    (Offers.off hd).trans (heng.trans (.off hb)), hsg.trans (hb.mono (by decide))⟩
  exact State.stepElapsed_handsOn (hpsu.trans (by rw [hu])) ((hsg .nodes (by decide)).trans hn) ((hsg .params (by decide)).trans hp)

theorem State.elapsedHandOn_pads (s : State) (j : WearKind) (hj : j ≠ .starts) : s.elapsedHandOn.wearItem j = s.wearItem j := by
  have he := State.evaluateStart_item s j (.inr hj)
  unfold State.elapsedHandOn
  dsimp only
  generalize s.evaluateStart = v at he
  split
  · rw [(EngineOnly.stopCause v .auto false).only.wearItem (by decide)]
    exact he
  · exact he

/-! ## 7. Stop cause SAFE ahead of the hand-on (R151, R196) -/

/-- Stop cause SAFE leaves no engine in RUN, and none that the hand-on could return. -/
theorem State.stopCause_safe_rests (s : State) : (s.stopCause .safe false).esc.machine ≠ .run ∧
    ((s.stopCause .safe false).esc.machine = .cooldown → (s.stopCause .safe false).esc.stopCause = some .safe) := by
  have running (h : s.esc.machine.inService = true) : (s.stopCause .safe false).esc.machine ≠ .run ∧
      ((s.stopCause .safe false).esc.machine = .cooldown → (s.stopCause .safe false).esc.stopCause = some .safe) := by
    rw [State.stopCause_inService h, State.stopRunning_cools (.inl rfl)]
    rcases Nat.eq_zero_or_pos (s.par .tCool) with ht | ht
    · rw [(State.enterCooldown_stops h ht).1]
      exact ⟨nofun, nofun⟩
    · rw [(State.enterCooldown_cools h ht).esc]
      exact ⟨nofun, fun _ => rfl⟩
  have stopping {m : EngineState} (h : (s.stopCause .safe false).esc.machine = m) (hm : m ≠ .run ∧ m ≠ .cooldown) :
      (s.stopCause .safe false).esc.machine ≠ .run ∧
      ((s.stopCause .safe false).esc.machine = .cooldown → (s.stopCause .safe false).esc.stopCause = some .safe) := by
    rw [h]
    exact ⟨hm.1, fun hc => absurd hc hm.2⟩
  have abandoned (h : s.esc.machine = .cranking ∨ s.esc.machine = .retryWait) : (s.stopCause .safe false).esc.machine = .stopping := by
    rw [State.stopCause_crank h]
    exact State.enterStopping_machine _
  cases hm : s.esc.machine with
  | off => exact stopping (by rw [State.stopCause_rest (.inl hm), hm]) (by decide)
  | cranking => exact stopping (abandoned (.inl hm)) (by decide)
  | retryWait => exact stopping (abandoned (.inr hm)) (by decide)
  | warmup => exact running (by rw [hm]; rfl)
  | run => exact running (by rw [hm]; rfl)
  | cooldown =>
    rw [State.stopCause_safe_cooldown hm]
    exact ⟨by show s.esc.machine ≠ _; rw [hm]; decide, fun _ => rfl⟩
  | stopping => exact stopping (m := .stopping) (by rw [State.stopCause_safe_stopping hm]; exact hm) (by decide)
  | fault => exact stopping (by rw [State.stopCause_rest (.inr hm), hm]) (by decide)

/-- With no engine in RUN, and none in COOLDOWN that an auto cause may return, the hand-on starts an engine or does nothing. -/
theorem State.elapsedHandOn_halted (hrun : b.esc.machine ≠ .run) (hcool : b.esc.machine = .cooldown → b.esc.stopCause = some .safe) :
    Offers CommandOffer b b.elapsedHandOn ∧ (b.esc.machine ≠ .off → b.elapsedHandOn = b) := by
  have hC := State.elapsedHandOn_spec b
  by_cases hc : b.esc.machine = .cooldown
  · have hrest : b.elapsedHandOn = b := hC.cooling hc (Bool.eq_false_iff.mpr fun hr => by
      obtain ⟨-, -, -, -, hr⟩ := State.autoReturns_iff.mp hr
      rw [hcool hc] at hr
      rcases hr with hr | hr <;> exact absurd hr nofun)
    exact ⟨.off (bs := []) (by rw [hrest]; exact .refl _ b), fun _ => hrest⟩
  · exact ⟨hC.quiet (.inr ⟨hrun, hc⟩), fun hoff => hC.rests hoff hc fun h => absurd h hrun⟩

end


/-! ## 8. The braking DEMAND as a whole (R82, R101, R122) -/

/-- What a demand blend leaves in the event that was open, or in the one it opens (R108, R109). -/
theorem EventLog.take_demand {r : BlendResult} (hr : r.trigger ≠ .cut) (now : Time) (v a : Nat) (j : Joules) (l : EventLog) :
    let l' := l.take now (fedBlend r false v a j)
    l' = { l with current := l'.current } ∧
    (∀ ev, l.current = some ev → ∃ e, l'.current = some e ∧
      e = { ev with peak := max ev.peak a, tally := countTerm r.term ev.tally,
                    shortfall := ev.shortfall || r.short, regJoules := e.regJoules, frontJoules := e.frontJoules,
                    rearJoules := e.rearJoules } ∧
      (ev.regJoules.toNat + j.reg < 2 ^ 48 → e.regJoules.toNat = ev.regJoules.toNat + j.reg) ∧
      (ev.frontJoules.toNat + j.front < 2 ^ 48 → e.frontJoules.toNat = ev.frontJoules.toNat + j.front) ∧
      (ev.rearJoules.toNat + j.rear < 2 ^ 48 → e.rearJoules.toNat = ev.rearJoules.toNat + j.rear)) ∧
    (l.current = none → 0 < v → ∃ e, l'.current = some e ∧ e.startTime = now ∧ e.startSpeed = v ∧
      e.peak = a ∧ e.tally = countTerm r.term noTally ∧ e.shortfall = r.short ∧ e.slip = none ∧
      (j.reg < 2 ^ 48 → e.regJoules.toNat = j.reg) ∧
      (j.front < 2 ^ 48 → e.frontJoules.toNat = j.front) ∧
      (j.rear < 2 ^ 48 → e.rearJoules.toNat = j.rear)) ∧
    (l.current = none → v = 0 → l'.current = none) := by
  have hopened {n : Nat} (h : n < 2 ^ 48) : (addJoules 0 n).toNat = n := by
    have := addJoules_fits (sum := 0) (joules := n) (by simpa using h)
    simpa using this
  refine ⟨EventLog.take_rest _ _ _, fun ev hev => ⟨_, EventLog.take_open hev _, rfl, addJoules_fits, addJoules_fits, addJoules_fits⟩,
    fun hno hv => ⟨openEvent now (fedBlend r false v a j), ?_, rfl, rfl, rfl, rfl, rfl, rfl, hopened, hopened, hopened⟩, fun hno hv => ?_⟩
  · rw [EventLog.take_closed hno hr, if_neg (by omega)]
  · rw [EventLog.take_closed hno hr, if_pos hv]

section
variable {f : DemandFields} {s t u c z b h x : State} {r : BlendResult} {dt : Nat}

/-- The blend of a DEMAND has halted the vehicle (R196). -/
def State.BlendStops (s : State) (r : BlendResult) : Prop := r.short = true ∧ s.RaiseStops .frictionSaturated

/-- The demand blend, up to stop cause SAFE where it halts a vehicle that stands. -/
structure BlendAhead (dt : Nat) (r : BlendResult) (c x z : State) : Prop where
  before : BeforeHandOn c x
  stale : KeepsEntry .demandStale c x
  braking : x.bbu.braking = true
  stands : ¬c.BlendStops r → BlendStands dt r c x
  halts : c.BlendStops r → BlendHalts r c x
  moving : ¬(c.BlendStops r ∧ c.demand.motion = .standstill) → z = x
  standing : c.BlendStops r → c.demand.motion = .standstill → z = x.stopCause .safe false

theorem State.demandBlend_ahead (hm : c.mode = .ready) : ∃ x, BlendAhead dt (c.blendResult .demand) c x (c.demandBlend dt) := by
  by_cases hstop : c.BlendStops (c.blendResult .demand)
  · obtain ⟨x, hx, hrun⟩ := State.demandBlend_halts (dt := dt) hm hstop.1 hstop.2
    have hmotion : x.demand.motion = c.demand.motion := by rw [hx.before.only .demand (by decide)]
    refine ⟨x, hx.before, hx.stale, hx.braking, fun h => absurd hstop h, fun _ => hx, fun h => ?_, fun _ h => ?_⟩
    · rw [hrun]
      exact if_neg fun hst => h ⟨hstop, hmotion ▸ hst⟩
    · rw [hrun]
      exact if_pos (hmotion.trans h)
  · have hx := State.demandBlend_stands (dt := dt) (by rw [hm]; decide) hstop
    exact ⟨_, hx.before, hx.stale, by rw [hx.bbu]; rfl, fun _ => hx, fun h => absurd h hstop, fun _ => rfl, fun h => absurd h hstop⟩

/-- Stop cause SAFE on the way changes the engine and its notice alone. -/
theorem BlendAhead.engine (h : BlendAhead dt r c x z) : OnlyChanges [.nlc, .esc, .notices] x z ∧ Offers ToEngine x z ∧
    x.esc.machine.StopsTo z.esc.machine ∧ z.esc.schedule = x.esc.schedule := by
  by_cases hstop : c.BlendStops r ∧ c.demand.motion = .standstill
  · rw [h.standing hstop.1 hstop.2]
    exact ⟨(EngineOnly.stopCause x .safe false).only, (Offers.stopCause _ _ x).mono And.left, State.stopCause_machine _ _ _,
      State.stopCause_schedule _ _ _⟩
  · rw [h.moving hstop]
    exact ⟨.refl _ x, .refl x, .refl _, rfl⟩

theorem BlendOffered.to_engine (h : BlendOffered r s u) (hut : Offers ToEngine u t) : BlendOffered r s t :=
  h.offers hut fun _ _ _ _ hp => hp

/-- Where the blend halts a vehicle that stands, SAFE stops its engine, and the hand-on leaves it so. -/
theorem BlendAhead.stopped (h : BlendAhead dt r c x z) (hhalts : c.BlendStops r) (hstand : c.demand.motion = .standstill)
    (hesc : b.esc = z.esc) : (c.esc.machine = .run → 0 < c.par .tCool → b.elapsedHandOn.esc.machine = .cooldown ∧
      b.elapsedHandOn.esc.stopCause = some .safe) ∧
    (c.esc.machine = .cranking → b.elapsedHandOn.esc.machine = .stopping ∧ b.elapsedHandOn.esc.stopCause = some .safe) := by
  obtain ⟨hrun, hcool⟩ := State.stopCause_safe_rests x
  rw [← h.standing hhalts hstand, ← hesc] at hrun hcool
  obtain ⟨-, hrest⟩ := State.elapsedHandOn_halted hrun hcool
  have hz := h.standing hhalts hstand
  have hxesc : x.esc = c.esc := h.before.only .esc (by decide)
  have hpar : x.par .tCool = c.par .tCool := h.before.only.par (by decide) _
  refine ⟨fun hm ht => ?_, fun hm => ?_⟩
  · have hcools := State.stopCause_cools (s := x) (c := .safe) (by rw [hxesc, hm]; rfl) (by rw [hpar]; exact ht)
    rw [← hz] at hcools
    have hbesc := hesc.trans hcools.esc
    rw [hrest (by rw [hbesc]; exact nofun), hbesc]
    exact ⟨rfl, rfl⟩
  · have habandon := (State.abandonCrank_spec (s := x) (c := .safe) (.inl (by rw [hxesc]; exact hm))).1
    have hrun' : z = x.abandonCrank .safe := by
      rw [hz, State.stopCause_crank (.inl (by rw [hxesc]; exact hm))]
      rfl
    rw [← hrun'] at habandon
    have hbesc := hesc.trans habandon
    rw [hrest (by rw [hbesc]; exact nofun), hbesc]
    exact ⟨rfl, rfl⟩

/-- The ENG FORCE 0 of the braking hand-on stands unless AUTO stops the engine (R122, R150). -/
theorem BlendAhead.force (h : BlendAhead dt r c x z) (hA : EngineCounted f s c) (hbrake : BrakeOffered dt z b) (hpsu : t.psu = b.psu)
    (hfails : s.AutoStopFails t) (htakes : z.takes .eng = s.takes .eng) : Offered s .eng .force [0, 0] .split b.elapsedHandOn := by
  have hforce : Offered s .eng .force [0, 0] .split b := fun ht => hbrake.force (htakes.trans ht)
  by_cases hstop : c.BlendStops r ∧ c.demand.motion = .standstill
  · obtain ⟨hrun, hcool⟩ := State.stopCause_safe_rests x
    have hesc : b.esc = z.esc := hbrake.only .esc (by decide)
    rw [← h.standing hstop.1 hstop.2, ← hesc] at hrun hcool
    exact hforce.offers (State.elapsedHandOn_halted hrun hcool).1 fun _ _ hp => absurd hp.2 nofun
  · have hB : BeforeHandOn c b := h.before.trans (h.moving hstop ▸ hbrake.before)
    exact hforce.handedOn (State.elapsedHandOn_spec b) (hA.noAuto hB hpsu hfails)

end


/-- Settles O13. -/
theorem brakingDemandBlends : Obligations.BrakingDemandBlends := by
  intro tag d s i h hm hlen f st dt u r v sumReg sumFront sumRear weight front rear halts hbrake
  -- The request as its owner meets it: its slot is taken.
  let s₁ := s.afterSlot i tag 0x01
  let c := s₁.demandStages f
  let z := c.demandBlend dt
  let b := z.brakeOffered dt
  let t := s.plain tag 0x01 true (State.takeDemand d)
  have hA : EngineCounted f s₁ c := State.demandStages_counted f s₁
  have htaken : DemandTaken f s₁ c := State.demandStages_taken f (Mode.not_halted_of_live h.live)
  have hsame : SameUnits c u := State.demandStages_hli f s s₁.hli
  have hcm : c.mode = .ready := (hA.only .mode (by decide)).trans hm
  have hcbbu : c.bbu = s.bbu := hA.only .bbu (by decide)
  have hclog : c.log = s.log := hA.only .log (by decide)
  have hcrun : c.runTime = s.runTime := hA.only .runTime (by decide)
  have hrecord : c.demand.record = f.record (s.par .mMin) (s.par .mMax) := htaken.record
  have hr : c.blendResult .demand = r := hsame.blendResult .demand
  have hstops : c.BlendStops r ↔ halts := and_congr_right fun _ => hsame.raiseStops _
  have hmotion : c.demand.motion = u.demand.motion := congrArg DemandUnit.motion hsame.demand
  obtain ⟨x, hahead⟩ : ∃ x, BlendAhead dt r c x z := hr ▸ State.demandBlend_ahead hcm
  obtain ⟨hxz, hxzOffers, hxzMachine, hxzSchedule⟩ := hahead.engine
  have hbrakeOn : BrakeOffered dt z b := State.brakeOffered_spec dt z
  have honly := State.elapsedHandOn_only b
  have hcx := hahead.before.only
  have hxh : OnlyChanges [.psu, .nlc, .esc, .wear, .notices] x b.elapsedHandOn :=
    (hxz.mono (by decide)).trans ((hbrakeOn.only.mono (by decide)).trans (honly.mono (by decide)))
  have hch : OnlyChanges [.demand, .psu, .nlc, .bbu, .esc, .log, .wear, .faults, .notices] s₁ b.elapsedHandOn :=
    (hA.only.mono (by decide)).trans ((hcx.mono (by decide)).trans (hxh.mono (by decide)))
  have ho : s₁.takeDemand d = .now b.elapsedHandOn (demandReply st f.override .blend r .initial) := by
    have hrec : 0 < c.demand.record.brake := by
      rw [hrecord]
      show 0 < min 500 f.brake
      omega
    rw [← hr]
    exact (if_pos hcm).trans (if_pos hrec)
  have hserved := State.served_plain h ho hch
  have hrest := hserved.rest
  have hxt : OnlyChanges [.hli, .psu, .nlc, .esc, .wear, .notices] x t := (hxh.mono (by decide)).trans (hrest.mono (by decide))
  have htpsu : t.psu = b.psu := (hrest .psu (by decide)).trans (honly .psu (by decide))
  have htakes (n : NodeAddr) : z.takes n = s.takes n :=
    (hxz.takes (by decide) n).trans ((hcx.takes (by decide) n).trans (hA.only.takes (by decide) n))
  have hpads (j : WearKind) (hj : j ≠ .starts) : t.wearItem j = x.wearItem j := by
    rw [hrest.wearItem (by decide), State.elapsedHandOn_pads b j hj, hbrakeOn.only.wearItem (by decide), hxz.wearItem (by decide)]
  have hoffers {q : BlendResult} (hq : BlendOffered q c x) : BlendOffered q s t := by
    have hqh : BlendOffered q s b.elapsedHandOn :=
      (((hq.to_engine hxzOffers).to_engine hbrakeOn.offers).to_engine b.elapsedHandOn_offers).before (hA.only .nodes (by decide))
    exact ⟨hqh.front.after hrest, hqh.rear.after hrest, hqh.torque.after hrest⟩
  have hbbu : t.bbu = x.bbu := hxt .bbu (by decide)
  have henergies : c.blendEnergies dt r = ⟨sumReg, sumFront, sumRear⟩ := by
    unfold State.blendEnergies
    rw [hcbbu, hrecord]
    rfl
  have hbesc : b.esc = z.esc := hbrakeOn.only .esc (by decide)
  have htesc : t.esc = b.elapsedHandOn.esc := hrest .esc (by decide)
  refine ⟨t, ?_, hserved.answered, ?_, ?_, fun hno => ?_, ?_, ?_, ?_, fun hfails => ?_, fun hno => ?_, ⟨fun hno => ?_, fun hhalts => ?_⟩,
    hserved.only⟩
  · have hb : (d.length == 13) = true := beq_iff_eq.mpr hlen
    refine (State.powered_on h.powered _).trans ?_
    unfold State.reqDemand
    rw [hb]
  · have hlater : DemandTaken f s₁ b.elapsedHandOn := htaken.later ((hxh .demand (by decide)).trans (hcx .demand (by decide)))
      (by rw [hxh .faults (by decide)]; exact hahead.stale.entry)
    exact hlater.of_eq State.onlyChanges_afterSlot (by decide) (hrest .demand (by decide)) (hrest .faults (by decide))
  · have hsch := (((hA.schedule.of_esc (hcx .esc (by decide))).stops hxzMachine hxzSchedule).of_esc hbesc).handsOn
    exact (hsch.of_esc htesc).schedule
  · have hz := hahead.moving fun hx => hno ⟨hstops.mp hx.1, hmotion ▸ hx.2⟩
    exact EngineFollows.of_hli (x := s₁.hli) (engineFollows hA htaken.zone (hahead.before.trans (hz ▸ hbrakeOn.before))
      (State.elapsedHandOn_spec b) honly hrest)
  · rw [← hr]
    show c.demand.record.mass * c.demand.record.brake / 100 = _
    rw [hrecord]
    rfl
  · rw [hbbu]
    exact hahead.braking
  · have hcz : OnlyChanges raiseBlocks c z := by simp (disch := decide) [z]
    have hsz : OnlyChanges (.demand :: raiseBlocks) s₁ z := (hA.only.mono (by decide)).trans (hcz.mono (by decide))
    exact HandsOn.of_hli (x := s₁.hli)
      ((hbrakeOn.handsOn s₁ (hsz .psu (by decide)) (hsz .nodes (by decide)) (hsz .params (by decide))).of_psu htpsu)
  · exact (hahead.force hA hbrakeOn htpsu hfails (htakes .eng)).after hrest
  · obtain ⟨-, hoffered, hxbbu, hraised, hworn, hlog, -⟩ := hahead.stands fun hx => hno (hstops.mp hx)
    obtain ⟨hworn1, hworn2, hworn3, hworn4⟩ := (hworn.after hpads).before hA.pads (hA.only .params (by decide)) (hA.only .nodes (by decide))
    rw [henergies] at hworn1 hworn2 hworn3 hworn4 hlog hxbbu
    rw [hclog, hcrun, hrecord] at hlog
    have hevent := EventLog.take_demand (r := r) (by rw [← hr]; exact nofun) s.runTime v (min 500 f.brake)
      (Joules.whole ⟨sumReg, sumFront, sumRear⟩) s.log
    have htlog : t.log = s.log.take s.runTime (fedBlend r false v (min 500 f.brake) (Joules.whole ⟨sumReg, sumFront, sumRear⟩)) :=
      (hxt .log (by decide)).trans hlog
    rw [← htlog] at hevent
    refine ⟨?_, fun hs => State.Faulted.after (hraised hs) hxt, ⟨⟨hworn1.value, hworn1.remainder⟩, ⟨hworn2.value, hworn2.remainder⟩,
      ⟨hworn3.value, hworn3.remainder⟩, hworn4.value, hworn4.remainder⟩, hevent⟩
    rw [hbbu, hxbbu, hcbbu]
    rfl
  · have hoffered := hoffers (hahead.stands fun hx => hno (hstops.mp hx)).offered
    exact ⟨hoffered.front, hoffered.rear, hoffered.torque⟩
  · have hx := hahead.halts (hstops.mpr hhalts)
    have hoffered := hoffers hx.offered
    rw [hbbu]
    refine ⟨⟨hoffered.front, hoffered.rear, hoffered.torque⟩, hx.prev, fun hs => ?_, fun hs => ?_, hx.same, hx.cut, fun hstand => ?_⟩
    · obtain ⟨hlevel, hraised⟩ := hx.short hs
      exact ⟨(hxt.level (by decide)).trans hlevel, State.Faulted.after hraised hxt⟩
    · rw [hxt .faults (by decide)]
      exact hx.ends hs
    · obtain ⟨hran, hcranked⟩ := hahead.stopped (hstops.mpr hhalts) (hmotion.trans hstand) hbesc
      rw [htesc]
      refine ⟨fun hrun ht => hran ?_ ?_, fun hcrank => hcranked (by rw [hsame.esc]; exact hcrank)⟩
      · rw [hA.other (by show s.esc.machine ≠ _; rw [hrun]; decide) (by show s.esc.machine ≠ _; rw [hrun]; decide)]
        exact hrun
      · rw [hA.only.par (by decide)]
        exact ht

end Sys2Proof.Machine

/-! The tick of the time base (O2). -/

namespace Sys2Proof.Machine

-- In order: proofs elaborated side by side wait for one another in too many threads.
set_option Elab.async false

/-! ## 1. What a raise leaves of the timers (R63, R85, R183) -/

section
variable {s t u : State} {k : FaultKind} {detail : Nat}

/-- The slip-hold timer and the READY-time counter run on. -/
structure TimersRun (s t : State) : Prop where
  slip : t.bbu.slipHold = s.bbu.slipHold
  ready : t.wear.readyMs = s.wear.readyMs

theorem TimersRun.refl (s : State) : TimersRun s s := ⟨rfl, rfl⟩

theorem TimersRun.trans (h : TimersRun s t) (h' : TimersRun t u) : TimersRun s u := ⟨h'.slip.trans h.slip, h'.ready.trans h.ready⟩

theorem TimersRun.off {bs : List Block} (h : OnlyChanges bs s t) (hb : Block.bbu ∉ bs ∧ Block.wear ∉ bs := by decide) : TimersRun s t :=
  ⟨by rw [h .bbu hb.1], by rw [h .wear hb.2]⟩

theorem TimersRun.putWear (k : WearKind) (w : WearItem) (s : State) : TimersRun s (s.putWear k w) := by
  unfold State.putWear
  split <;> exact ⟨rfl, rfl⟩

theorem TimersRun.padAxle (left right : WearKind) (temps : Option Int × Option Int) (joules : Nat) (s : State) :
    TimersRun s (s.padAxle left right temps joules) := by
  unfold State.padAxle State.addEnergy State.accrue
  exact (TimersRun.putWear _ _ s).trans (.putWear _ _ _)

theorem TimersRun.padWear (front rear : Nat) (s : State) : TimersRun s (s.padWear front rear) := by
  unfold State.padWear
  exact (TimersRun.padAxle _ _ _ _ s).trans (.padAxle _ _ _ _ _)

theorem TimersRun.driveBlend (slipCut : Bool) (dt : Nat) (r : BlendResult) (s : State) : TimersRun s (s.driveBlend slipCut dt r) := by
  refine ⟨by rw [(State.driveBlend_spec slipCut dt r s).1]; rfl, ?_⟩
  unfold State.driveBlend
  dsimp only
  generalize s.bbu.energies r s.demand.record.speed dt = e
  have ha : OnlyChanges [.nlc, .bbu] s ((s.setBbu (s.bbu.blended r e)).offerBlend r) := by simp
  generalize (s.setBbu (s.bbu.blended r e)).offerBlend r = a at ha
  have hb := TimersRun.padWear e.whole.front e.whole.rear a
  generalize a.padWear e.whole.front e.whole.rear = b at hb
  have hlog (f : FedBlend) : OnlyChanges [.log] b (if r.trigger = .held then b else b.logBlend f) :=
    OnlyChanges.ite.mpr ⟨fun _ => .refl _ b, fun _ => by simp (disch := decide)⟩
  rw [(hlog _) .wear (by decide), hb.ready, ha .wear (by decide)]

theorem TimersRun.cutReblend (slipCut : Bool) (s : State) : TimersRun s (s.cutReblend slipCut) := by
  unfold State.cutReblend
  split
  · rw [State.applyBlend_eq]
    refine (TimersRun.driveBlend slipCut 0 (s.blendResult .cut) s).trans ⟨?_, ?_⟩
    · rw [State.saturation_id_bbu]
    · rw [State.saturation_id_only _ _ .wear (by decide)]
  · exact .refl s

theorem TimersRun.raise (k : FaultKind) (detail : Nat) (s : State) : TimersRun s (s.raise k detail) := by
  have hcore := TimersRun.off (State.raiseCore_only k detail s)
  cases hb : becameSafeStop s (s.raiseCore k detail) with
  | false =>
    rw [State.raise_rests hb]
    exact hcore
  | true =>
    rw [State.raise_stops hb]
    exact (hcore.trans (.cutReblend _ _)).trans (.off (State.safeCause_engine _).only)

/-- In HALTED nothing is raised (R200). -/
theorem State.raise_halted (hm : s.mode = .halted) (k : FaultKind) (detail : Nat) : s.raise k detail = s := by
  have hcore : s.raiseCore k detail = s := if_pos hm
  rw [State.raise_rests (by rw [hcore]; simp [becameSafeStop]), hcore]

/-- While the bus is busy an offer changes the queue alone. -/
theorem Offers.queue {P : NodeAddr → EntryKind → List Byte → Origin → Prop} (h : Offers P s t) (hb : s.nlc.bus = .busy) :
    t.nlc = { s.nlc with queue := t.nlc.queue } := by
  induction h with
  | rest hnlc _ => rw [hnlc]
  | @offer n k p o _ s =>
    unfold State.offer State.offerAt
    split
    · split
      · rfl
      · unfold State.kick
        rw [if_neg (by show ¬(s.nlc.bus = .idle ∧ _); rw [hb]; exact fun h => absurd h.1 nofun)]
        rfl
    · rfl
  | trans _ _ ih ih' =>
    have h1 := ih hb
    have h2 := ih' (by rw [h1]; exact hb)
    rw [h2, h1]

end

/-! ## 2. The end of a break (R33, R34, R35, R43) -/

section
variable {s t u : State}

/-- A link that has nothing left to send falls silent with the break (R43). -/
def LinkController.silences (n : LinkController) : Bool := n.link == .halting && !n.breakDue && n.queue.isEmpty

/-- The NLC behind a break it has released. -/
def LinkController.released (n : LinkController) : LinkController :=
  { n with tx := if n.silences then .idle else .brk .released, bus := .waiting, link := if n.silences then .silent else n.link,
           ack := if n.silences then none else n.ack }

theorem State.releaseBreak_eq (s : State) : s.releaseBreak = s.setNlc s.nlc.released := by
  unfold State.releaseBreak State.linkCheck LinkController.released
  simp only [State.setNlc_nlc]
  by_cases hsilent : s.nlc.silences = true
  · rw [if_pos hsilent, if_pos hsilent, if_pos hsilent]
    simp only [LinkController.silences, Bool.and_eq_true, beq_iff_eq, Bool.not_eq_true'] at hsilent
    obtain ⟨⟨hlink, hdue⟩, hqueue⟩ := hsilent
    rw [hlink]
    exact if_pos ⟨hdue, rfl, hqueue⟩
  · rw [if_neg hsilent, if_neg hsilent, if_neg hsilent]
    split
    · exact if_neg fun h => absurd h.2 nofun
    · next hlink =>
      refine if_neg fun h => hsilent ?_
      simp only [LinkController.silences, Bool.and_eq_true, beq_iff_eq, Bool.not_eq_true']
      exact ⟨⟨hlink, h.1⟩, h.2.2⟩
    all_goals rfl

/-- The NLC as a bus reset under its own break leaves it (R34, R35). -/
def LinkController.resetBy (now : Time) (n : LinkController) : LinkController := { n with bus := .busy, ack := none }.noteReset now

/-- A bus reset that the NLC's own break gives: counted, and the third raises (R34, R35). -/
theorem State.busResets_driving (h : s.nlc.tx = .brk .driving) :
    s.busResets = if s.thirdReset = true
      then (s.setNlc (s.nlc.resetBy s.runTime)).raise .linkErrors ((s.nlc.resetBy s.runTime).busResets % 256)
      else s.setNlc (s.nlc.resetBy s.runTime) := by
  have habort : s.abortBus = s.setNlc { s.nlc with bus := .busy, ack := none } := by
    unfold State.abortBus State.abortFrame
    simp [h, Tx.breaking]
  have hrun : s.busResets = (if s.thirdReset = true
      then (s.setNlc (s.nlc.resetBy s.runTime)).raise .linkErrors ((s.nlc.resetBy s.runTime).busResets % 256)
      else s.setNlc (s.nlc.resetBy s.runTime)).linkCheck := by
    unfold State.busResets
    rw [habort]
    rfl
  rw [hrun]
  -- While it drives its break the NLC neither leaves the link nor falls silent.
  have hcheck (v : State) (hv : v.nlc.tx = .brk .driving) : v.linkCheck = v := by
    unfold State.linkCheck
    split
    · exact if_neg fun hx => by rw [hv] at hx; exact absurd hx.2 nofun
    · exact if_neg fun hx => by rw [hv] at hx; exact absurd hx.2.1 nofun
    all_goals rfl
  apply hcheck
  have htx : (s.setNlc (s.nlc.resetBy s.runTime)).nlc.tx = .brk .driving := h
  have hbus : (s.setNlc (s.nlc.resetBy s.runTime)).nlc.bus = .busy := rfl
  generalize s.setNlc (s.nlc.resetBy s.runTime) = v at htx hbus
  split
  · rw [(Offers.raise _ _ v).queue hbus]
    exact htx
  · exact htx

/-- A break that the NLC is sending ends. -/
structure BreakEnds (s b : State) : Prop where
  timers : TimersRun s b
  only : OnlyChanges [.nlc, .bbu, .esc, .log, .wear, .faults, .notices] s b
  off : b.nlc.tx.breaking = false
  count : b.nlc.busResets = if s.nlc.tx = .brk .driving then min 65535 (s.nlc.busResets + 1) else s.nlc.busResets
  quiet : s.level = .safeStop ∨ b.level ≠ .safeStop → b.bbu = s.bbu ∧ b.esc = s.esc
  rests : s.nlc.tx.breaking = false → b = s
  released : s.nlc.tx = .brk .recognised → b = s.setNlc s.nlc.released
  driven : s.nlc.tx = .brk .driving → b.nlc = { (s.nlc.resetBy s.runTime) with queue := b.nlc.queue }.released
  plain : s.nlc.tx = .brk .driving → s.thirdReset = false ∨ s.mode = .halted → b = s.setNlc (s.nlc.resetBy s.runTime).released
  raised : s.nlc.tx = .brk .driving → s.thirdReset = true → s.mode ≠ .halted → b.Raised .linkErrors

theorem LinkController.released_breaking (n : LinkController) : n.released.tx.breaking = false := by
  unfold LinkController.released
  dsimp only
  split <;> rfl

theorem State.finishBreak_ends (s : State) : BreakEnds s s.finishBreak := by
  have hset (n : LinkController) : OnlyChanges [.nlc] s (s.setNlc n) := by simp
  by_cases hdriving : s.nlc.tx = .brk .driving
  · have hrun : s.finishBreak = s.busResets.releaseBreak := by simp only [State.finishBreak, hdriving]
    have hbus : (s.setNlc (s.nlc.resetBy s.runTime)).nlc = s.nlc.resetBy s.runTime := rfl
    have hu := hset (s.nlc.resetBy s.runTime)
    have heq := State.busResets_driving hdriving
    have hreleased : (s.setNlc (s.nlc.resetBy s.runTime)).setNlc (s.nlc.resetBy s.runTime).released =
        s.setNlc (s.nlc.resetBy s.runTime).released := rfl
    generalize s.setNlc (s.nlc.resetBy s.runTime) = u at hbus hu heq hreleased
    rw [hrun, State.releaseBreak_eq]
    have hv : OnlyChanges [.nlc, .bbu, .esc, .log, .wear, .faults, .notices] u s.busResets := by
      rw [heq]
      exact OnlyChanges.ite.mpr ⟨fun _ => State.raise_only _ _ u, fun _ => .refl _ u⟩
    have htimers : TimersRun u s.busResets := by
      rw [heq]
      split
      · exact .raise _ _ u
      · exact .refl u
    have hqueue : s.busResets.nlc = { s.nlc.resetBy s.runTime with queue := s.busResets.nlc.queue } := by
      have h : s.busResets.nlc = { u.nlc with queue := s.busResets.nlc.queue } := by
        rw [heq]
        split
        · exact (Offers.raise _ _ u).queue (by rw [hbus]; rfl)
        · rfl
      rw [hbus] at h
      exact h
    have hquiet (h : s.level = .safeStop ∨ s.busResets.level ≠ .safeStop) : s.busResets.bbu = s.bbu ∧ s.busResets.esc = s.esc := by
      rw [← hu .bbu (by decide), ← hu .esc (by decide)]
      rw [heq] at h ⊢
      split
      · next hthird =>
        rw [if_pos hthird] at h
        have hcore := State.raise_quiet (s := u) (k := .linkErrors) (by decide) (h.imp_left fun hs => (hu.level (by decide)).trans hs)
        rw [hcore]
        exact ⟨State.raiseCore_only _ _ u .bbu (by decide), State.raiseCore_only _ _ u .esc (by decide)⟩
      · exact ⟨rfl, rfl⟩
    have hplain (h : s.thirdReset = false ∨ s.mode = .halted) : s.busResets = u := by
      rw [heq]
      split
      · next hthird =>
        refine State.raise_halted ?_ _ _
        rw [hu .mode (by decide)]
        exact h.resolve_left (by rw [hthird]; exact nofun)
      · rfl
    have hraised (h : s.thirdReset = true) (hm : s.mode ≠ .halted) : s.busResets.Raised .linkErrors := by
      rw [heq, if_pos h]
      exact State.raised_raise (by rw [hu .mode (by decide)]; exact hm) (by decide) _
    generalize s.busResets = v at hv htimers hqueue hquiet hplain hraised
    have hlast : OnlyChanges [.nlc] v (v.setNlc v.nlc.released) := by simp
    refine ⟨((TimersRun.off hu).trans htimers).trans (.off hlast), (hu.mono (by decide)).trans (hv.trans (hlast.mono (by decide))),
      LinkController.released_breaking _, ?_, fun h => ?_, fun h => ?_, fun h => absurd (hdriving.symm.trans h) nofun, fun _ => ?_,
      fun _ h => ?_, fun _ h hm => State.Faulted.after (hraised h hm) hlast⟩
    · rw [if_pos hdriving]
      show v.nlc.released.busResets = _
      rw [hqueue]
      rfl
    · exact hquiet h
    · rw [hdriving] at h
      exact absurd h nofun
    · show v.nlc.released = _
      rw [hqueue]
      rfl
    · rw [hplain h, hbus]
      exact hreleased
  · by_cases hrecognised : s.nlc.tx = .brk .recognised
    · have hrun : s.finishBreak = s.setNlc s.nlc.released := by
        simp only [State.finishBreak, hrecognised]
        exact State.releaseBreak_eq s
      rw [hrun]
      exact ⟨.off (hset _), (hset _).mono (by decide), LinkController.released_breaking _, by rw [if_neg hdriving]; rfl, fun _ => ⟨rfl, rfl⟩,
        fun h => by rw [hrecognised] at h; exact absurd h nofun, fun _ => rfl, fun h => absurd h hdriving, fun h => absurd h hdriving,
        fun h => absurd h hdriving⟩
    · have hno : s.nlc.tx.breaking = false := by
        cases htx : s.nlc.tx with
        | brk phase => cases phase <;> simp_all [Tx.breaking]
        | _ => rfl
      have hrun : s.finishBreak = s := by
        unfold State.finishBreak
        split <;> simp_all
      rw [hrun]
      exact ⟨.refl s, .refl _ s, hno, by rw [if_neg hdriving], fun _ => ⟨rfl, rfl⟩, fun _ => rfl, fun h => absurd h hrecognised,
        fun h => absurd h hdriving, fun h => absurd h hdriving, fun h => absurd h hdriving⟩

end


/-! ## 3. One millisecond passes (R8, R15, R16, R35, R63, R81, R140, R183) -/

section
variable {s t b : State} {c : Instr} {n : NodeAddr}

theorem mem_onlyIf {due : Bool} {d : Instr} : c ∈ onlyIf due d ↔ due = true ∧ c = d := by
  unfold onlyIf
  cases due <;> simp

theorem mem_allNodes (n : NodeAddr) : n ∈ allNodes := by cases n <;> decide

/-- The commands of the timers at their end, by the timers that run in the mode (log 1). -/
theorem State.mem_dueCommands : c ∈ s.dueCommands ↔ (s.mode.live = true ∧ c ∈ s.dueLive) ∨ (s.mode ≠ .parked ∧ ∃ n, c ∈ s.dueNode n) ∨
    ((s.nlc.link ≠ .silent ∧ s.nlc.quiet = some 0) ∧ c = .quietTimerExpiry) ∨
    ((s.mode = .ready ∧ 3600000 ≤ s.wear.readyMs) ∧ c = .periodicSaveTrigger) := by
  have hnodes : c ∈ (if s.mode = .parked then [] else allNodes.flatMap s.dueNode) ↔ s.mode ≠ .parked ∧ ∃ n, c ∈ s.dueNode n := by
    by_cases hm : s.mode = .parked
    · simp [hm]
    · rw [if_neg hm, List.mem_flatMap]
      exact ⟨fun ⟨n, _, hn⟩ => ⟨hm, n, hn⟩, fun ⟨_, n, hn⟩ => ⟨n, mem_allNodes n, hn⟩⟩
  have hlive : c ∈ (if s.mode.live = true then s.dueLive else []) ↔ s.mode.live = true ∧ c ∈ s.dueLive := by
    by_cases hm : s.mode.live = true <;> simp [hm]
  have hquiet : (s.nlc.quiet == some 0 && s.nlc.link != .silent) = true ↔ s.nlc.link ≠ .silent ∧ s.nlc.quiet = some 0 := by
    simp only [Bool.and_eq_true, beq_iff_eq, bne_iff_ne, and_comm]
  have hready : (s.mode == .ready && decide (periodicMs ≤ s.wear.readyMs)) = true ↔ s.mode = .ready ∧ 3600000 ≤ s.wear.readyMs := by
    rw [Bool.and_eq_true, beq_iff_eq]
    exact and_congr_right fun _ => decide_eq_true_iff
  unfold State.dueCommands
  rw [List.mem_append, List.mem_append, List.mem_append, hlive, hnodes, mem_onlyIf, mem_onlyIf, hquiet, hready, or_assoc, or_assoc]

theorem State.mem_dueLive : c ∈ s.dueLive ↔ (s.demand.freshness = some 0 ∧ c = .freshnessTimerExpiry) ∨
    (s.demand.lowSpeed = some 0 ∧ c = .lowSpeedTimerExpiry) ∨ (s.bbu.slipHold = some 0 ∧ c = .slipHoldTimerExpiry) ∨
    (s.esc.crankTimer = some 0 ∧ c = .crankTimerExpiry) ∨ (s.esc.restTimer = some 0 ∧ c = .restTimerExpiry) ∨
    (s.esc.cooldownTimer = some 0 ∧ c = .cooldownTimerExpiry) ∨ (s.esc.stopTimer = some 0 ∧ c = .stopTimerExpiry) := by
  simp only [State.dueLive, List.mem_append, mem_onlyIf, beq_iff_eq, or_assoc]

theorem State.mem_dueNode : c ∈ s.dueNode n ↔ ((s.node n).staleTimer = some 0 ∧ c = .staleTimerExpiry n) ∨
    ((s.node n).lostTimer = some 0 ∧ c = .lostTimerExpiry n) := by
  simp only [State.dueNode, List.mem_append, mem_onlyIf, beq_iff_eq]

/-- The queue takes the expiry of exactly the timers that stand at their end (log 1). -/
structure ExpiriesDue (s : State) (queue : List Instr) : Prop where
  freshness : .freshnessTimerExpiry ∈ queue ↔ s.mode.live = true ∧ s.demand.freshness = some 0
  lowSpeed : .lowSpeedTimerExpiry ∈ queue ↔ s.mode.live = true ∧ s.demand.lowSpeed = some 0
  slipHold : .slipHoldTimerExpiry ∈ queue ↔ s.mode.live = true ∧ s.bbu.slipHold = some 0
  crank : .crankTimerExpiry ∈ queue ↔ s.mode.live = true ∧ s.esc.crankTimer = some 0
  rest : .restTimerExpiry ∈ queue ↔ s.mode.live = true ∧ s.esc.restTimer = some 0
  cooldown : .cooldownTimerExpiry ∈ queue ↔ s.mode.live = true ∧ s.esc.cooldownTimer = some 0
  stop : .stopTimerExpiry ∈ queue ↔ s.mode.live = true ∧ s.esc.stopTimer = some 0
  stale : ∀ n, .staleTimerExpiry n ∈ queue ↔ s.mode ≠ .parked ∧ (s.node n).staleTimer = some 0
  lost : ∀ n, .lostTimerExpiry n ∈ queue ↔ s.mode ≠ .parked ∧ (s.node n).lostTimer = some 0
  quiet : .quietTimerExpiry ∈ queue ↔ s.nlc.link ≠ .silent ∧ s.nlc.quiet = some 0
  periodic : .periodicSaveTrigger ∈ queue ↔ s.mode = .ready ∧ 3600000 ≤ s.wear.readyMs
  only : ∀ c ∈ queue, c ∈ [Instr.freshnessTimerExpiry, .lowSpeedTimerExpiry, .slipHoldTimerExpiry, .crankTimerExpiry,
      .restTimerExpiry, .cooldownTimerExpiry, .stopTimerExpiry, .quietTimerExpiry, .periodicSaveTrigger] ∨
    ∃ n, c = .staleTimerExpiry n ∨ c = .lostTimerExpiry n

theorem State.dueCommands_due (s : State) : ExpiriesDue s s.dueCommands := by
  constructor
  case only =>
    intro c hc
    rcases State.mem_dueCommands.mp hc with ⟨-, h⟩ | ⟨-, n, h⟩ | ⟨-, rfl⟩ | ⟨-, rfl⟩
    · left
      rcases State.mem_dueLive.mp h with ⟨-, rfl⟩ | ⟨-, rfl⟩ | ⟨-, rfl⟩ | ⟨-, rfl⟩ | ⟨-, rfl⟩ | ⟨-, rfl⟩ | ⟨-, rfl⟩ <;> simp
    · right
      rcases State.mem_dueNode.mp h with ⟨-, rfl⟩ | ⟨-, rfl⟩
      · exact ⟨n, .inl rfl⟩
      · exact ⟨n, .inr rfl⟩
    · left
      simp
    · left
      simp
  all_goals simp [State.mem_dueCommands, State.mem_dueLive, State.mem_dueNode]

theorem NodeTable.age_node (n : NodeAddr) (s : State) (h : s.mode ≠ .parked) : (s.advance 1).node n =
    { s.node n with staleTimer := (s.node n).staleTimer.map (· - 1), lostTimer := (s.node n).lostTimer.map (· - 1) } := by
  have hnodes : (s.advance 1).nodes = s.nodes.age 1 := if_neg h
  unfold State.node
  rw [hnodes]
  cases n <;> rfl

theorem State.advance_only (n : Nat) (s : State) : OnlyChanges clockBlocks s (s.advance n) := by
  simp (disch := decide)

/-- The tick of a powered part with no command waiting. -/
theorem State.tick_eq (h : s.supply = .on) (hp : s.pending = []) :
    s.tick = (s.finishBreak.advance 1).setPending (s.finishBreak.advance 1).dueCommands := by
  unfold State.tick
  rw [if_pos h]
  have hpend : (s.finishBreak.advance 1).pending = [] := by
    rw [State.advance_only _ _ .pending (by decide), (State.finishBreak_ends s).only .pending (by decide), hp]
  dsimp only
  rw [hpend]
  rfl

/-- The quiet timer after a millisecond (R35). -/
theorem State.advance_nlc (s : State) : (s.advance 1).nlc =
    { s.nlc with quiet := if s.nlc.link = .silent then s.nlc.quiet else s.nlc.quiet.map (· - 1) } := by
  show (if s.nlc.link = .silent then s.nlc else { s.nlc with quiet := Machine.countDown 1 s.nlc.quiet }) = _
  split <;> rfl

end


/-! ## 4. The tick as a whole -/

section
variable {s b t : State}

/-- The timers of the engine that run in a mode, after one millisecond (R140). -/
theorem State.advance_esc (s : State) (hb : b.esc = s.esc) (hm : b.mode = s.mode) :
    let dwell := if s.esc.machine = .off then min 4294967295 (s.esc.offDwell + 1) else s.esc.offDwell
    (s.mode.live = true →
      (b.advance 1).esc = { s.esc with crankTimer := s.esc.crankTimer.map (· - 1), restTimer := s.esc.restTimer.map (· - 1),
                                       cooldownTimer := s.esc.cooldownTimer.map (· - 1), stopTimer := s.esc.stopTimer.map (· - 1),
                                       offDwell := dwell }) ∧
    (s.mode = .parked → (b.advance 1).esc = { s.esc with offDwell := dwell }) ∧ (s.mode = .halted → (b.advance 1).esc = s.esc) := by
  have hesc : (b.advance 1).esc =
      if s.mode.live then (s.esc.age 1).dwell 1 else if s.mode = .parked then s.esc.dwell 1 else s.esc := by
    rw [← hb, ← hm]
    rfl
  have hdwell (e : EngineUnit) : e.dwell 1 = { e with offDwell := if e.machine = .off then min 4294967295 (e.offDwell + 1) else e.offDwell } := by
    unfold EngineUnit.dwell
    split <;> rfl
  rw [hesc]
  refine ⟨fun hl => ?_, fun hp => ?_, fun hh => ?_⟩
  · rw [if_pos hl, hdwell]
    rfl
  · rw [hp]
    exact hdwell s.esc
  · rw [hh]
    rfl

/-- What the end of a break and the millisecond leave of the NLC, by the break (R33, R34, R35, R43). -/
theorem BreakEnds.nlc (h : BreakEnds s b) :
    (s.nlc.tx.breaking = false → (b.advance 1).nlc =
      { s.nlc with quiet := if s.nlc.link = .silent then s.nlc.quiet else s.nlc.quiet.map (· - 1) }) ∧
    (s.nlc.tx = .brk .recognised → (b.advance 1).nlc =
      { s.nlc.released with quiet := if s.nlc.released.link = .silent then s.nlc.quiet else s.nlc.quiet.map (· - 1) }) ∧
    (s.nlc.tx = .brk .driving →
      (b.advance 1).nlc.quiet = (if (b.advance 1).nlc.link = .silent then some 10000 else some 9999) ∧
      (b.advance 1).nlc.olderReset = s.nlc.newerReset ∧ (b.advance 1).nlc.newerReset = some s.runTime ∧ (b.advance 1).nlc.ack = none) ∧
    (s.nlc.tx = .brk .driving → s.thirdReset = false ∨ s.mode = .halted → (b.advance 1).nlc =
      { (s.nlc.resetBy s.runTime).released with
        quiet := if (s.nlc.resetBy s.runTime).released.link = .silent then some 10000 else some 9999 }) := by
  rw [State.advance_nlc]
  refine ⟨fun hno => by rw [h.rests hno], fun hr => by rw [h.released hr]; rfl, fun hd => ?_, fun hd hno => by rw [h.plain hd hno]; rfl⟩
  have hb := h.driven hd
  refine ⟨?_, ?_, ?_, ?_⟩
  · have hquiet : b.nlc.quiet = some 10000 := by rw [hb]; rfl
    dsimp only
    rw [hquiet]
    rfl
  · show b.nlc.olderReset = _
    rw [hb]
    rfl
  · show b.nlc.newerReset = _
    rw [hb]
    rfl
  · show b.nlc.ack = none
    rw [hb]
    unfold LinkController.released
    dsimp only
    split <;> rfl

theorem State.thirdReset_iff (s : State) : s.thirdReset = true ↔ ∃ old, s.nlc.olderReset = some old ∧ elapsed s.runTime old ≤ 1000 := by
  unfold State.thirdReset
  split
  · next old h => simp [h]
  · next h => simp [h]

end

/-- Settles O2. -/
theorem idleStepCountsOneMillisecond : Obligations.IdleStepCountsOneMillisecond := by
  intro s hp
  have hstep : step s = .next s.tick := by
    unfold step
    rw [hp]
  refine ⟨fun hoff => ?_, fun hon => ⟨s.tick, hstep, ?_⟩⟩
  · rw [hstep]
    unfold State.tick
    rw [if_neg (by rw [hoff]; exact nofun)]
  rw [State.tick_eq hon hp]
  have hends := State.finishBreak_ends s
  generalize s.finishBreak = b at hends
  obtain ⟨hnlcRest, hnlcReleased, hnlcDriven, hnlcPlain⟩ := hends.nlc
  obtain ⟨htimers, hsb, hoff, hcount, hquiet, hrests, hreleased, -, hplain, hraised⟩ := hends
  have hadvance := State.advance_only 1 b
  have hdue := State.dueCommands_due (b.advance 1)
  have hmode : b.mode = s.mode := hsb .mode (by decide)
  have hdemand : b.demand = s.demand := hsb .demand (by decide)
  have hamode : (b.advance 1).mode = s.mode := hmode
  have hrun : (b.advance 1).runTime = s.runTime + 1 := congrArg (· + 1) (hsb .runTime (by decide))
  have hslip : (b.advance 1).bbu = if s.mode.live then { b.bbu with slipHold := b.bbu.slipHold.map (· - 1) } else b.bbu := by
    rw [← hmode]
    rfl
  have hademand : (b.advance 1).demand = if s.mode.live then s.demand.age 1 else s.demand := by
    rw [← hmode, ← hdemand]
    rfl
  have hready : (b.advance 1).wear = if s.mode = .ready then { b.wear with readyMs := min 3600000 (b.wear.readyMs + 1) } else b.wear := by
    rw [← hmode]
    rfl
  have hnode (n : NodeAddr) (hm : s.mode ≠ .parked) := NodeTable.age_node n b (by rw [hmode]; exact hm)
  have hnodes : b.nodes = s.nodes := hsb .nodes (by decide)
  have hesc (hb : b.esc = s.esc) := State.advance_esc s hb hmode
  have hparked (hm : s.mode = .parked) : (b.advance 1).nodes = s.nodes := (if_pos (hmode.trans hm)).trans hnodes
  have hlevel : (b.advance 1).level = b.level := hadvance.level (by decide)
  have hfaults : (b.advance 1).faults = b.faults := hadvance .faults (by decide)
  have hatx : (b.advance 1).nlc.tx = b.nlc.tx := by rw [State.advance_nlc]
  have hacount : (b.advance 1).nlc.busResets = b.nlc.busResets := by rw [State.advance_nlc]
  generalize b.advance 1 = a at *
  have hpend : OnlyChanges [.pending] a (a.setPending a.dueCommands) := by simp
  have hall : OnlyChanges (.pending :: (clockBlocks ++ raiseBlocks)) s (a.setPending a.dueCommands) :=
    (hsb.mono (by decide)).trans ((hadvance.mono (by decide)).trans (hpend.mono (by decide)))
  have quietly (hb : OnlyChanges [.nlc] s b) : OnlyChanges (.pending :: clockBlocks) s (a.setPending a.dueCommands) ∧
      a.wear = { s.wear with readyMs := a.wear.readyMs } := by
    refine ⟨(hb.mono (by decide)).trans ((hadvance.mono (by decide)).trans (hpend.mono (by decide))), ?_⟩
    rw [hready, hb .wear (by decide)]
    split <;> rfl
  have hset (n : LinkController) : OnlyChanges [.nlc] s (s.setNlc n) := by simp
  obtain ⟨hfresh, hlow, hslipHold, hcrank, hrest, hcool, hstop, hstale, hlost, hquietTimer, hperiodic, honly⟩ := hdue
  rw [hamode] at hfresh hlow hslipHold hcrank hrest hcool hstop hstale hlost hperiodic
  refine ⟨hrun, hamode, hall, hatx ▸ hoff, hacount.trans hcount, ?_, hparked, fun hm n => ?_, fun hl => ?_, fun hl => ?_, fun h => ?_,
    ⟨fun hno => ⟨quietly ?_, hnlcRest hno⟩, fun hr => ⟨quietly ?_, hnlcReleased hr⟩, fun hd => ?_⟩,
    hfresh, hlow, hslipHold, hcrank, hrest, hcool, hstop, hstale, hlost, hquietTimer, hperiodic, honly⟩
  · show a.wear.readyMs = _
    rw [hready, ← htimers.ready]
    split <;> rfl
  · show a.node n = _
    rw [hnode n hm]
    unfold State.node
    rw [hnodes]
  · refine ⟨hademand.trans (if_pos hl), ?_⟩
    show a.bbu.slipHold = _
    rw [hslip, if_pos hl, ← htimers.slip]
  · refine ⟨hademand.trans (if_neg (by rw [hl]; nofun)), ?_⟩
    show a.bbu.slipHold = _
    rw [hslip, if_neg (by rw [hl]; nofun), htimers.slip]
  · obtain ⟨hbbu, hbesc⟩ := hquiet (h.imp_right fun hl => hlevel ▸ hl)
    refine ⟨?_, hesc hbesc⟩
    show a.bbu = { s.bbu with slipHold := a.bbu.slipHold }
    rw [hslip, hbbu]
    split <;> rfl
  · rw [hrests hno]
    exact .refl _ s
  · rw [hreleased hr]
    exact hset _
  · obtain ⟨h1, h2, h3, h4⟩ := hnlcDriven hd
    refine ⟨h1, h2, h3, h4, fun hno => ?_, fun old ho hle hm => ?_⟩
    · have hno' : s.thirdReset = false ∨ s.mode = .halted := hno.imp_left fun hold => Bool.eq_false_iff.mpr fun hthird => by
        obtain ⟨old, ho, hle⟩ := s.thirdReset_iff.mp hthird
        exact absurd hle (Nat.not_le.mpr (hold old ho))
      refine ⟨quietly (by rw [hplain hd hno']; exact hset _), ?_⟩
      have hresets : (a.setPending a.dueCommands).nlc.busResets = min 65535 (s.nlc.busResets + 1) :=
        hacount.trans (hcount.trans (if_pos hd))
      rw [hresets]
      refine (hnlcPlain hd hno').trans ?_
      have hack : (s.nlc.resetBy s.runTime).released.ack = none := by
        unfold LinkController.released
        exact ite_self _
      have hform (n : LinkController) (h : n.ack = none) : n = { n with ack := none } := by rw [← h]
      rw [hform (s.nlc.resetBy s.runTime).released hack]
      rfl
    · exact State.Faulted.after (s := b) (hraised hd (s.thirdReset_iff.mpr ⟨old, ho, hle⟩) hm) (bs := .pending :: clockBlocks)
        ((hadvance.mono (by decide)).trans (hpend.mono (by decide)))

end Sys2Proof.Machine

/-! Frames, pulses and TUNNEL frames (O44, O45). -/

namespace Sys2Proof.Machine

-- In order: proofs elaborated side by side wait for one another in too many threads.
set_option Elab.async false

/-! ## 1. Pulses and what begins no frame (R21, R22, R23) -/

section
variable {s t : State} {w : Wave} {ns : Nat}

theorem classifyPulse_noise_iff : classifyPulse ns = .noise ↔ ns < 500 := by
  unfold classifyPulse
  constructor
  · intro h
    by_contra hn
    rw [if_neg hn] at h
    repeat' split at h
    all_goals exact absurd h nofun
  · intro h
    exact if_pos h

theorem classifyPulse_sof (h1 : 10000 ≤ ns) (h2 : ns ≤ 14000) : classifyPulse ns = .sof := by
  unfold classifyPulse
  rw [if_neg (by omega), if_neg (by omega), if_neg (by omega), if_pos ⟨h1, h2⟩]

theorem classifyPulse_brk_iff : classifyPulse ns = .brk ↔ 160000 ≤ ns := by
  unfold classifyPulse
  constructor
  · intro h
    by_contra hn
    rw [if_neg hn] at h
    repeat' split at h
    all_goals exact absurd h nofun
  · intro h
    rw [if_neg (by omega), if_neg (by omega), if_neg (by omega), if_neg (by omega), if_pos h]

theorem classifyPulse_sof_iff : classifyPulse ns = .sof ↔ 10000 ≤ ns ∧ ns ≤ 14000 := by
  refine ⟨fun h => ?_, fun h => classifyPulse_sof h.1 h.2⟩
  unfold classifyPulse at h
  by_contra hn
  rw [if_neg hn] at h
  repeat' split at h
  all_goals exact absurd h nofun

/-- A frame that is followed ends, or breaks off, but it is something (R36). -/
theorem readBody_ne_nothing (h1 h2 : Byte) (ends : Nat) (w : Wave) : readBody h1 h2 ends w ≠ .nothing := by
  unfold readBody
  dsimp only
  repeat' split
  all_goals nofun

/-- A wave of nothing but noise begins no frame, and one with another pulse is something (R22). -/
theorem readFrame_nothing_iff : readFrame w = .nothing ↔ ∀ p ∈ w, p.width < 500 := by
  induction w with
  | nil => exact ⟨fun _ _ h => absurd h List.not_mem_nil, fun _ => rfl⟩
  | cons p w ih =>
    rw [List.forall_mem_cons, ← ih, ← classifyPulse_noise_iff]
    rw [readFrame]
    cases hc : classifyPulse p.width with
    | noise => exact ⟨fun h => ⟨rfl, h⟩, fun h => h.2⟩
    | sof =>
      refine ⟨fun h => absurd h ?_, fun h => absurd h.1 nofun⟩
      dsimp only
      split
      · exact nofun
      · exact nofun
      · exact readBody_ne_nothing _ _ _ _
    | bit1 => exact ⟨fun h => absurd h nofun, fun h => absurd h.1 nofun⟩
    | bit0 => exact ⟨fun h => absurd h nofun, fun h => absurd h.1 nofun⟩
    | brk => exact ⟨fun h => absurd h nofun, fun h => absurd h.1 nofun⟩
    | formError => exact ⟨fun h => absurd h nofun, fun h => absurd h.1 nofun⟩

theorem State.countNoise_only (k : Nat) (s : State) : OnlyChanges [.nlc] s (s.countNoise k) := by simp

theorem State.setNlc_only (n : LinkController) (s : State) : OnlyChanges [.nlc] s (s.setNlc n) := by simp

/-- What a pulse out of place does, by the bus (R21, R23, R36). -/
theorem State.strayPulse_spec (s : State) :
    (s.nlc.bus = .idle ∨ s.nlc.bus = .closing → s.strayPulse = s.setNlc { s.nlc with bus := .waiting }) ∧
    (s.nlc.bus = .following → s.strayPulse = s.countCrcError .waiting) ∧
    (s.nlc.bus = .busy ∨ s.nlc.bus = .waiting → s.strayPulse = s) := by
  refine ⟨fun h => ?_, fun h => ?_, fun h => ?_⟩
  · rcases h with h | h <;> simp only [State.strayPulse, h]
  · simp only [State.strayPulse, h]
  · rcases h with h | h <;> simp only [State.strayPulse, h]

theorem State.strayPulse_only (s : State) : OnlyChanges [.nlc] s s.strayPulse := by
  unfold State.strayPulse
  split
  · exact State.setNlc_only _ s
  · exact State.setNlc_only _ s
  · exact State.setNlc_only _ s
  · exact .refl _ s
  · exact .refl _ s

/-- A single dominant pulse below 40 bit times (R21, R22). -/
theorem State.dominantPulse_short (hns : ns < 160000) (s : State) :
    s.dominantPulse ns = if ns < 500 then s.countNoise 1
      else if (10000 ≤ ns ∧ ns ≤ 14000) ∧ s.nlc.bus = .idle then s.setNlc { s.nlc with bus := .following } else s.strayPulse := by
  have hbrk : classifyPulse ns ≠ .brk := fun h => absurd (classifyPulse_brk_iff.mp h) (by omega)
  by_cases hnoise : ns < 500
  · rw [if_pos hnoise]
    unfold State.dominantPulse
    rw [classifyPulse_noise_iff.mpr hnoise]
  rw [if_neg hnoise]
  by_cases hsof : 10000 ≤ ns ∧ ns ≤ 14000
  · unfold State.dominantPulse
    rw [classifyPulse_sof_iff.mpr hsof]
    simp only [hsof, and_self, true_and]
  · rw [if_neg fun h => hsof h.1]
    have h1 : classifyPulse ns ≠ .noise := fun h => hnoise (classifyPulse_noise_iff.mp h)
    have h2 : classifyPulse ns ≠ .sof := fun h => hsof (classifyPulse_sof_iff.mp h)
    unfold State.dominantPulse
    generalize classifyPulse ns = c at h1 h2 hbrk
    cases c with
    | noise => exact absurd rfl h1
    | sof => exact absurd rfl h2
    | brk => exact absurd rfl hbrk
    | bit1 => rfl
    | bit0 => rfl
    | formError => rfl

/-- On a link that receives a command of the link is its wave's effect. -/
theorem State.powered_linked (hon : s.supply = .on) (hr : s.nlc.link.receives = true) (act : State → State) :
    s.powered (State.onLink act) = .next (act s) := by
  unfold State.powered State.onLink
  rw [if_pos hon, if_pos hr]

/-- A broken frame, or another's, on an idle transmitter: its noise, and what the receiver makes of it (R36). -/
theorem State.wave_idle (hb : hasBreak w = false) (htx : s.nlc.tx = .idle) :
    s.wave w = (s.countNoise (noiseCount w)).frameOnBus w :=
  State.wave_unbroken hb (by simp only [State.settledBy, htx])

theorem State.frameOnBus_idle (htx : s.nlc.tx = .idle) (w : Wave) :
    (s.nlc.bus = .idle ∨ s.nlc.bus = .following → s.frameOnBus w = s.followFrame w) ∧
    (s.nlc.bus = .closing → s.frameOnBus w = if readFrame w = .nothing then s else s.strayPulse) ∧
    (s.nlc.bus = .busy ∨ s.nlc.bus = .waiting → s.frameOnBus w = s) := by
  refine ⟨fun h => ?_, fun h => ?_, fun h => ?_⟩
  · rcases h with h | h <;> simp only [State.frameOnBus, htx, h]
  · simp only [State.frameOnBus, htx, h]
  · rcases h with h | h <;> simp only [State.frameOnBus, htx, h]

/-- A wave of noise alone changes no bus (R22). -/
theorem State.frameOnBus_noise (htx : s.nlc.tx = .idle) (hw : readFrame w = .nothing) : s.frameOnBus w = s := by
  obtain ⟨hfollow, hclosing, hrest⟩ := State.frameOnBus_idle htx w
  cases hb : s.nlc.bus with
  | idle => rw [hfollow (.inl hb), State.followFrame, hw]
  | following => rw [hfollow (.inr hb), State.followFrame, hw]
  | closing => rw [hclosing hb, if_pos hw]
  | busy => exact hrest (.inl hb)
  | waiting => exact hrest (.inr hb)

end

/-- Settles O45. -/
theorem refusedAndBrokenFramesAreCounted : Obligations.RefusedAndBrokenFramesAreCounted := by
  intro s hon hr
  refine ⟨fun source cls retry payload w eod rest hf hc hd => ?_, fun w hb htx => ?_, fun ns hns => ?_⟩
  · refine ⟨s.wave w, State.powered_onLink hf _, ?_⟩
    rw [State.wave_carries hf hc]
    have hcode : (s.countNoise (noiseCount w)).ackCode source cls payload = 0x11 := by
      unfold State.ackCode
      rw [hd]
      rfl
    rw [hcode]
    have hnoise := State.countNoise_only (noiseCount w) s
    have hnoiseNlc := State.countNoise_nlc (noiseCount w) s
    obtain ⟨hack, honly, hnlc⟩ := State.driveAck_spec 0x11 eod w rest (s.countNoise (noiseCount w))
    generalize s.countNoise (noiseCount w) = a at hnoise hnoiseNlc hack honly hnlc
    generalize a.driveAck 0x11 eod w rest = b at hack honly hnlc
    have hnodes : b.nodes = s.nodes := (honly .nodes (by decide)).trans (hnoise .nodes (by decide))
    have hand : b.handFrame source cls retry payload = b.countReject source := by
      unfold State.handFrame
      rw [hd]
      cases source <;> rfl
    rw [hand]
    have hreject : OnlyChanges [.nodes] b (b.countReject source) := by
      cases source with
      | none => exact .refl _ b
      | some n => exact (State.countReject_spec n b).2.2
    have hbn : (b.countReject source).nlc = b.nlc := hreject .nlc (by decide)
    have hbnlc : b.nlc = { s.nlc with noise := min 65535 (s.nlc.noise + noiseCount w), bus := b.nlc.bus, ack := b.nlc.ack } := by
      rw [hnlc, hnoiseNlc]
    rw [hbn]
    refine ⟨hack, hbnlc, fun h => ?_, fun n h => ?_,
      (hnoise.mono (by decide)).trans ((honly.mono (by decide)).trans (hreject.mono (by decide)))⟩
    · rw [h]
      exact hnodes
    · rw [h]
      obtain ⟨h1, h2, -⟩ := State.countReject_spec n b
      have hnode (m : NodeAddr) : b.node m = s.node m := by
        unfold State.node
        rw [hnodes]
      exact ⟨by rw [h1, hnode], fun m hm => by rw [h2 m hm, hnode]⟩
  · refine ⟨s.wave w, State.powered_linked hon hr _, ?_⟩
    rw [State.wave_idle hb htx]
    have honly := State.countNoise_only (noiseCount w) s
    have hnlc := State.countNoise_nlc (noiseCount w) s
    have hatx : (s.countNoise (noiseCount w)).nlc.tx = .idle := htx
    have habus : (s.countNoise (noiseCount w)).nlc.bus = s.nlc.bus := rfl
    generalize s.countNoise (noiseCount w) = a at honly hnlc hatx habus
    obtain ⟨hfollow, hclosing, hrest⟩ := State.frameOnBus_idle hatx w
    have followed (hf : s.Follows) : a.frameOnBus w = a.followFrame w := hfollow (by rw [habus]; exact hf.bus)
    have set (n : LinkController) {m : LinkController} (h : n = m) : (a.setNlc n).nlc = m ∧ OnlyChanges [.nlc] s (a.setNlc n) :=
      ⟨h, honly.trans (State.setNlc_only n a)⟩
    refine ⟨fun hf eod rest hw => ?_, fun hf hw => ?_, fun hf h1 h2 payload eod rest hw ht => ?_, fun hf hw => ?_, fun hw => ?_,
      fun hb hw => ?_, fun hb => ?_⟩
    · have hrun : a.followFrame w = a.countCrcError (readWindow eod rest).bus := by simp only [State.followFrame, hw]
      rw [followed hf, hrun]
      exact set _ (by rw [hnlc]; rfl)
    · have hrun : a.followFrame w = a.countCrcError .waiting := by simp only [State.followFrame, hw]
      rw [followed hf, hrun]
      exact set _ (by rw [hnlc]; rfl)
    · have hrun : a.followFrame w = a.setNlc { a.nlc with bus := (readWindow eod rest).bus } := by
        simp only [State.followFrame, hw]
        exact if_neg ht
      rw [followed hf, hrun]
      exact set _ (by rw [hnlc])
    · have hrun : a.followFrame w = a.setNlc { a.nlc with bus := .waiting } := by simp only [State.followFrame, hw]
      rw [followed hf, hrun]
      exact set _ (by rw [hnlc])
    · rw [State.frameOnBus_noise hatx (readFrame_nothing_iff.mpr hw)]
      exact ⟨hnlc, honly⟩
    · obtain ⟨p, hp, hwide⟩ := hw
      rw [hclosing (habus.trans hb), if_neg fun h => absurd (readFrame_nothing_iff.mp h p hp) (by omega),
        (State.strayPulse_spec a).1 (.inr (habus.trans hb))]
      exact set _ (by rw [hnlc])
    · rw [hrest (.inr (habus.trans hb))]
      exact ⟨hnlc, honly⟩
  · refine ⟨s.dominantPulse ns, State.powered_linked hon hr _, ?_⟩
    rw [State.dominantPulse_short hns]
    obtain ⟨hwait, hfollow, hrest⟩ := State.strayPulse_spec s
    refine ⟨?_, fun h => by rw [if_pos h]; rfl, fun h1 h2 hb => ?_, fun hn hb => ?_, fun hn hb => ?_, fun hn hb => ?_⟩
    · exact OnlyChanges.ite.mpr ⟨fun _ => State.countNoise_only 1 s, fun _ => OnlyChanges.ite.mpr
        ⟨fun _ => State.setNlc_only _ s, fun _ => s.strayPulse_only⟩⟩
    · rw [if_neg (by omega), if_pos ⟨⟨h1, h2⟩, hb⟩]
      rfl
    · rw [if_neg (by omega), if_neg (by rintro ⟨⟨h1, h2⟩, hi⟩; rcases hb with hb | ⟨-, hb⟩; exacts [by rw [hb] at hi; exact absurd hi nofun, by omega]),
        hwait (hb.elim .inr fun h => .inl h.1)]
      rfl
    · rw [if_neg (by omega), if_neg (fun h => by rw [hb] at h; exact absurd h.2 nofun), hfollow hb]
      rfl
    · rw [if_neg (by omega), if_neg (fun h => by rcases hb with hb | hb <;> (rw [hb] at h; exact absurd h.2 nofun)), hrest hb]


/-! ## 2. TUNNEL frames (R38, R39, R60, R71) -/

section
variable {s t : State} {n : NodeAddr} {payload : List Byte}

/-- The bus behind an acknowledgement is not idle yet (R23, R38). -/
theorem Acknowledged.bus {code : Byte} {eod : Nat} {w rest : Wave} {x : LinkController} (h : Acknowledged code eod w rest x) : x.bus ≠ .idle := by
  have hwindow (r : WindowRead) : r.bus ≠ .idle := by
    unfold WindowRead.bus
    repeat' split
    all_goals nofun
  cases he : ackEcho eod w 0 (bitsOf [code, crc8 [code]]) with
  | none =>
    rw [(h.whole he).2]
    exact hwindow _
  | some ns =>
    rw [(h.stopped ns he).2]
    nofun

theorem Acknowledged.of_eq {code : Byte} {eod : Nat} {w rest : Wave} {x y : LinkController} (h : Acknowledged code eod w rest x)
    (ha : y.ack = x.ack) (hb : y.bus = x.bus) : Acknowledged code eod w rest y := by
  constructor <;> rw [ha, hb]
  exacts [h.whole, h.stopped]

/-- While the bus is not idle a released hold starts no frame (R23, R71). -/
theorem State.releaseHold_waits (hb : s.nlc.bus ≠ .idle) :
    (s.releaseHold n).nlc = { s.nlc with
      queue := if (s.node n).held = true then s.nlc.queue.map (fun e => if e.target == n then { e with held := false } else e)
        else s.nlc.queue } := by
  unfold State.releaseHold
  by_cases hh : (s.node n).held = true
  · rw [if_pos hh, if_pos hh]
    unfold State.kick
    rw [if_neg (fun h => hb h.1)]
    rfl
  · rw [if_neg hh, if_neg hh]

/-- An AUX node has no presence fault (R55). -/
theorem State.becomePresent_aux (ha : isAux n = true) (s : State) :
    s.becomePresent n = s.setNode n ((s.node n).fresh s.runTime (s.par .tStale)) := by
  have hnone (u : State) : u.endPresenceFaults n = u := by
    cases n with
    | aux1 => rfl
    | aux2 => rfl
    | _ => exact absurd ha nofun
  unfold State.becomePresent
  dsimp only
  rw [hnone]
  exact ite_self _

/-- What a TUNNEL frame of an AUX node does to its record and its entries, and one of another node, or in PARKED, does not (R60, R63,
R71). -/
structure AuxHeard (n : NodeAddr) (s t : State) : Prop where
  present : isAux n = true → s.mode ≠ .parked → (t.node n).presence = .present ∧ (t.node n).freshTime = some s.runTime ∧
    (t.node n).staleTimer = some (s.par .tStale) ∧ (t.node n).held = false
  released : isAux n = true → s.mode ≠ .parked → (s.node n).held = true → ∀ e ∈ t.nlc.queue, e.target = n → e.held = false
  nlc : t.nlc = { s.nlc with queue := t.nlc.queue }
  unheld : isAux n = false ∨ (s.node n).held = false → t.nlc = s.nlc
  other : isAux n = false → t.nodes = s.nodes
  only : OnlyChanges [.nlc, .nodes] s t

theorem State.auxPresence_hears (hb : s.nlc.bus ≠ .idle) : AuxHeard n s (s.auxPresence n) := by
  unfold State.auxPresence
  by_cases hc : isAux n = true ∧ s.mode ≠ .parked
  · rw [if_pos hc]
    obtain ⟨ha, -⟩ := hc
    have hfresh := State.node_setNode_same s n ((s.node n).fresh s.runTime (s.par .tStale))
    have hset : OnlyChanges [.nodes] s (s.setNode n ((s.node n).fresh s.runTime (s.par .tStale))) := by simp
    rw [State.becomePresent_aux ha]
    generalize s.setNode n ((s.node n).fresh s.runTime (s.par .tStale)) = u at hfresh hset
    have hunlc : u.nlc = s.nlc := hset .nlc (by decide)
    have hheld : (u.node n).held = (s.node n).held := by rw [hfresh]; rfl
    obtain ⟨-, hnode, -, honly⟩ := State.releaseHold_spec n u
    have hnlc := State.releaseHold_waits (n := n) (s := u) (by rw [hunlc]; exact hb)
    rw [hheld, hunlc] at hnlc
    refine ⟨fun _ _ => ?_, fun _ _ hh e he ht => ?_, by rw [hnlc], fun hno => ?_, fun hno => absurd (ha.symm.trans hno) nofun,
      (hset.mono (by decide)).trans honly⟩
    · rw [hnode, hfresh]
      exact ⟨rfl, rfl, rfl, rfl⟩
    · rw [hnlc] at he
      dsimp only at he
      rw [if_pos hh] at he
      obtain ⟨x, -, rfl⟩ := List.mem_map.mp he
      by_cases hx : (x.target == n) = true
      · rw [if_pos hx]
      · rw [if_neg hx] at ht
        exact absurd (beq_iff_eq.mpr ht) hx
    · have hh : ¬(s.node n).held = true := by
        rcases hno with hno | hno
        · exact absurd (ha.symm.trans hno) nofun
        · rw [hno]
          nofun
      rw [hnlc, if_neg hh]
  · rw [if_neg hc]
    exact ⟨fun ha hm => absurd ⟨ha, hm⟩ hc, fun ha hm => absurd ⟨ha, hm⟩ hc, rfl, fun _ => rfl, fun _ => rfl, .refl _ s⟩

/-- The inbox takes a frame, with notice TUNNEL if it was empty (R39). -/
theorem State.appendInbox_spec (n : NodeAddr) (payload : List Byte) (s : State) :
    (s.appendInbox n payload).nlc = { s.nlc with inbox := s.nlc.inbox ++ [⟨n, payload⟩] } ∧
    (s.nlc.inbox = [] → Noted .tunnel (nodeCode n) s (s.appendInbox n payload)) ∧
    (s.nlc.inbox ≠ [] → (s.appendInbox n payload).notices = s.notices) ∧ OnlyChanges [.nlc, .notices] s (s.appendInbox n payload) := by
  unfold State.appendInbox
  have hset := State.setNlc_only { s.nlc with inbox := s.nlc.inbox ++ [⟨n, payload⟩] } s
  have hnlc : (s.setNlc { s.nlc with inbox := s.nlc.inbox ++ [⟨n, payload⟩] }).nlc = { s.nlc with inbox := s.nlc.inbox ++ [⟨n, payload⟩] } := rfl
  dsimp only
  generalize s.setNlc { s.nlc with inbox := s.nlc.inbox ++ [⟨n, payload⟩] } = u at hset hnlc
  have hnote : OnlyChanges [.notices] u (u.notify .tunnel (nodeCode n)) := by simp
  by_cases he : s.nlc.inbox = []
  · have hi : s.nlc.inbox.isEmpty = true := List.isEmpty_iff.mpr he
    rw [if_pos hi]
    exact ⟨(hnote .nlc (by decide)).trans hnlc, fun _ => Noted.before (State.noticeOf_notify_same u .tunnel _) hset, fun h => absurd he h,
      (hset.mono (by decide)).trans (hnote.mono (by decide))⟩
  · rw [if_neg fun hi => he (List.isEmpty_iff.mp hi)]
    exact ⟨hnlc, fun h => absurd h he, fun _ => hset .notices (by decide), hset.mono (by decide)⟩

end

/-- Settles O44. -/
theorem tunnelFramesFillTheInbox : Obligations.TunnelFramesFillTheInbox := by
  intro n retry payload w rest eod s hf hc
  refine ⟨s.wave w, State.powered_onLink hf _, ?_⟩
  rw [State.wave_carries hf hc]
  have hnoise := State.countNoise_only (noiseCount w) s
  have hnoiseNlc := State.countNoise_nlc (noiseCount w) s
  generalize s.countNoise (noiseCount w) = a at hnoise hnoiseNlc
  have hinbox : a.nlc.inbox = s.nlc.inbox := by rw [hnoiseNlc]
  have hcode : a.ackCode (some n) .tunnel payload = if s.nlc.inbox.length < 4 then 0x00 else 0x10 := by
    show (if a.nlc.inbox.length < 4 then (0x00 : Byte) else 0x10) = _
    rw [hinbox]
  rw [hcode]
  generalize hcodeOf : (if s.nlc.inbox.length < 4 then (0x00 : Byte) else 0x10) = code
  obtain ⟨hack, hdrive, hdriveNlc⟩ := State.driveAck_spec code eod w rest a
  generalize a.driveAck code eod w rest = b at hack hdrive hdriveNlc
  have hbnlc : b.nlc = { s.nlc with noise := min 65535 (s.nlc.noise + noiseCount w), bus := b.nlc.bus, ack := b.nlc.ack } := by
    rw [hdriveNlc, hnoiseNlc]
  have hbinbox : b.nlc.inbox = s.nlc.inbox := by rw [hbnlc]
  have hsb : OnlyChanges [.nlc] s b := hnoise.trans hdrive
  have hand : b.handFrame (some n) .tunnel retry payload = b.handTunnel n payload := rfl
  rw [hand]
  -- The inbox takes the frame, if it has room.
  obtain ⟨c, hrun, hcnlc, hnotes, hquiet, hbc⟩ : ∃ c, b.handTunnel n payload = c.auxPresence n ∧
      c.nlc = { b.nlc with inbox := if s.nlc.inbox.length < 4 then s.nlc.inbox ++ [⟨n, payload⟩] else s.nlc.inbox } ∧
      (s.nlc.inbox = [] → Noted .tunnel (nodeCode n) b c) ∧ (s.nlc.inbox ≠ [] → c.notices = b.notices) ∧ OnlyChanges [.nlc, .notices] b c := by
    obtain ⟨happend, hnotes, hquiet, honly⟩ := State.appendInbox_spec n payload b
    unfold State.handTunnel
    by_cases hroom : s.nlc.inbox.length < 4
    · rw [if_pos (by rw [hbinbox]; exact hroom), if_pos hroom]
      exact ⟨b.appendInbox n payload, rfl, by rw [happend, hbinbox], fun h => hnotes (hbinbox.trans h), fun h => hquiet (hbinbox ▸ h), honly⟩
    · rw [if_neg (by rw [hbinbox]; exact hroom), if_neg hroom]
      refine ⟨b, rfl, by rw [← hbinbox], fun h => ?_, fun _ => rfl, .refl _ b⟩
      rw [h] at hroom
      exact absurd (by decide) hroom
  rw [hrun]
  have hcbus : c.nlc.bus ≠ .idle := by rw [hcnlc]; exact hack.bus
  have haux := State.auxPresence_hears (n := n) hcbus
  generalize c.auxPresence n = t at haux
  have hsc : OnlyChanges [.nlc, .notices] s c := (hsb.mono (by decide)).trans hbc
  have hnode (m : NodeAddr) : c.node m = s.node m := hsc.node (by decide) m
  have hmode : c.mode = s.mode := hsc .mode (by decide)
  have hnotices : t.notices = c.notices := haux.only .notices (by decide)
  refine ⟨?_, hack.of_eq ?_ ?_, ?_, fun he => ?_, fun hne => ?_, fun ha hm => ?_, fun ha hm hh => ?_, fun hno => ?_, fun ha => ?_,
    (hsc.mono (by decide)).trans (haux.only.mono (by decide))⟩
  · rw [haux.nlc, hcnlc]
  · rw [haux.nlc, hcnlc]
  · rw [haux.nlc, hcnlc]
  · rw [haux.nlc, hcnlc, hbnlc]
  · exact Noted.after (Noted.before (hnotes he) hsb) haux.only
  · rw [hnotices, hquiet hne]
    exact hsb .notices (by decide)
  · have hp := haux.present ha (by rw [hmode]; exact hm)
    rw [hsc .runTime (by decide), hsc.par (by decide)] at hp
    exact hp
  · exact haux.released ha (by rw [hmode]; exact hm) (by rw [hnode]; exact hh)
  · have hunheld := haux.unheld (hno.imp_right fun hh => by rw [hnode]; exact hh)
    rw [hunheld, hcnlc, hbnlc]
  · exact (haux.other ha).trans (hsc .nodes (by decide))

end Sys2Proof.Machine

/-! The idle bus, and reports (O46, O43). -/

namespace Sys2Proof.Machine

-- In order: proofs elaborated side by side wait for one another in too many threads.
set_option Elab.async false

/-! ## 1. What the 620 drives (R20, R33, R41) -/

section
variable {n : LinkController} {e : Entry} {x : Nat}

theorem LinkController.drives_one {d : Drive} (htx : n.tx.drives = [d]) (hack : n.ack = none) : n.drives = [d] := by
  unfold LinkController.drives
  rw [htx, hack]
  rfl

theorem LinkController.nlen_idle (htx : n.tx.drives = []) (hack : n.ack = none) (x : Nat) : n.nlen x = false := by
  unfold LinkController.nlen LinkController.drives
  rw [htx, hack]
  rfl

theorem LinkController.nlen_one {d : Drive} (h : n.drives = [d]) (hstart : d.startNs = 0) (x : Nat) : n.nlen x = decide (x < d.endNs) := by
  unfold LinkController.nlen Drive.covers
  rw [h, List.any_cons, List.any_nil, Bool.or_false, hstart]
  simp

theorem LinkController.ntx_one {d : Drive} (h : n.drives = [d]) (hstart : d.startNs = 0) (x : Nat) :
    n.ntx x = .low ↔ x < d.endNs ∧ dominantAt d.pulses x = true := by
  unfold LinkController.ntx Drive.covers
  rw [h, List.any_cons, List.any_nil, Bool.or_false, hstart]
  simp

theorem bitsOf_length (bytes : List Byte) : (bitsOf bytes).length = 8 * bytes.length := by
  simp [bitsOf, List.length_flatMap, byteBits]
  omega

/-- A frame's SOF and symbols on NTX (R20). -/
theorem frameDrive_dominant (bytes : List Byte) :
    (∀ x, x < 12000 → dominantAt (frameDrive bytes).pulses x = true) ∧
    (∀ k b, (bitsOf bytes)[k]? = some b → ∀ x, 12000 + 4000 * k ≤ x → x < 12000 + 4000 * (k + 1) →
      (x < (frameDrive bytes).endNs ∧ (dominantAt (frameDrive bytes).pulses x = true ↔ x < 12000 + 4000 * k + if b then 1000 else 3000))) := by
  refine ⟨fun x hx => ?_, fun k b hb x hlo hhi => ⟨?_, ?_⟩⟩
  · simp [frameDrive, dominantAt, sofNs, hx]
  · have hk : k < (bitsOf bytes).length := by
      by_contra hn
      rw [List.getElem?_eq_none (by omega)] at hb
      exact absurd hb nofun
    rw [bitsOf_length] at hk
    show x < sofNs + bitNs * (8 * bytes.length)
    unfold sofNs bitNs
    omega
  · have hsof : ¬x < sofNs := by
      unfold sofNs
      omega
    have hat := dominantAt_symbolsFrom (e := sofNs) hb hlo hhi
    have hcons : dominantAt (frameDrive bytes).pulses x = dominantAt (symbolsFrom sofNs (bitsOf bytes)) x := by
      unfold frameDrive dominantAt
      simp only [List.any_cons, Nat.zero_le, decide_true, Bool.true_and, Nat.zero_add, hsof, decide_false, Bool.false_or]
    rw [hcons, hat, decide_eq_true_iff]
    rfl

theorem payloadLength_header2 (retry : Bool) {len : Nat} (h : len ≤ 12) : payloadLength (header2 retry len) = len := by
  unfold payloadLength header2 byte
  rw [BitVec.toNat_ofNat]
  cases retry
  · show (0 * 16 + len) % 256 % 16 = len
    omega
  · show (1 * 16 + len) % 256 % 16 = len
    omega

/-- An entry's frame, as its target reads it (R24, R25, R26). -/
theorem Entry.readFrame_drive (e : Entry) (h : e.payload.length ≤ 12) : readFrame (frameDrive e.frame).pulses =
    .good (header1 e.priority (nodeCode e.target) (classCode e.kind.cls))
      (header2 (decide (1 ≤ e.attempts)) e.payload.length) e.payload ((frameDrive e.frame).endNs + 8000) [] :=
  readFrame_frameDrive _ _ e.payload (payloadLength_header2 _ h) h

end

/-! ## 2. The idle bus (R23, R33, R42, R43) -/

section
variable {s t : State} {taken : Bool}

/-- The NLC at the idle bus, with a followed frame that has brought nothing more counted (R36). -/
def LinkController.counted (n : LinkController) : LinkController :=
  { n with crcErrors := if n.bus = .following then min 65535 (n.crcErrors + 1) else n.crcErrors,
           bus := if n.bus = .following then .waiting else n.bus }

theorem State.atIdle_counted (h : s.nlc.tx = .idle ∨ s.nlc.tx = .brk .released) : s.atIdle = s.setNlc s.nlc.counted := by
  have hfinish : s.finishBreak = s := by rcases h with h | h <;> simp only [State.finishBreak, h]
  have hsettle : s.settleEnded = s := by rcases h with h | h <;> simp only [State.settleEnded, h]
  rw [State.atIdle_eq, hfinish, hsettle]
  unfold LinkController.counted
  by_cases hb : s.nlc.bus = .following
  · rw [if_pos hb, if_pos hb, if_pos hb]
    rfl
  · rw [if_neg hb, if_neg hb, if_neg hb]
    rfl

theorem State.busFellIdle_eq (h : s.nlc.tx = .idle ∨ s.nlc.tx = .brk .released) (taken : Bool) :
    s.busFellIdle taken = (s.setNlc s.nlc.counted).actAtIdle taken := by
  rw [← State.atIdle_counted h]
  rcases h with h | h <;> simp only [State.busFellIdle, h]

/-- The NLC that neither sends nor drives an acknowledgement. -/
def LinkController.stilled (n : LinkController) : LinkController := { n with tx := .idle, ack := none }

theorem State.actAtIdle_break (hd : s.nlc.breakDue = true) (taken : Bool) : s.actAtIdle taken =
    s.setNlc { s.nlc with tx := .brk .driving, bus := .busy, breakDue := false, failures := 0, ack := none } := if_pos hd

theorem State.actAtIdle_eq (hd : s.nlc.breakDue = false) (taken : Bool) : s.actAtIdle taken =
    if ((s.setNlc s.nlc.stilled).linkCheck).nlc.link.sends then
      if taken then ((s.setNlc s.nlc.stilled).linkCheck).setNlc { ((s.setNlc s.nlc.stilled).linkCheck).nlc with bus := .following }
      else ((s.setNlc s.nlc.stilled).linkCheck).startFrame
    else ((s.setNlc s.nlc.stilled).linkCheck).levelAfter taken := if_neg (by rw [hd]; nofun)

/-- A link with something to send, or that is up, stays (R42, R43). -/
theorem State.linkCheck_stays (h : s.nlc.link = .up ∨ (s.nlc.link = .halting ∧ s.nlc.queue ≠ [])) : s.linkCheck = s := by
  unfold State.linkCheck
  rcases h with h | ⟨h, hq⟩
  · simp only [h]
  · simp only [h]
    exact if_neg fun hx => hq (List.isEmpty_iff.mp hx.2.2)

theorem State.linkCheck_silent (hl : s.nlc.link = .halting) (hd : s.nlc.breakDue = false) (ht : s.nlc.tx.quiet = true) (hq : s.nlc.queue = []) :
    s.linkCheck = s.setNlc { s.nlc with link := .silent, tx := .idle, bus := .waiting, ack := none } := by
  simp only [State.linkCheck, hl]
  exact if_pos ⟨hd, ht, List.isEmpty_iff.mpr hq⟩

theorem State.linkCheck_away (hl : s.nlc.link = .leaving) (hd : s.nlc.breakDue = false) (ht : s.nlc.tx = .idle) :
    s.linkCheck = s.setNlc { s.nlc with link := .away, bus := .waiting, ack := none } := by
  simp only [State.linkCheck, hl]
  exact if_pos ⟨hd, ht⟩

theorem State.startFrame_none (h : ∀ e ∈ s.nlc.queue, e.held = true ∨ e.inFlight = true) :
    s.startFrame = s.setNlc { s.nlc with tx := .idle, bus := .idle, ack := none } := by
  have hnone : s.nlc.queue.find? Entry.sendable = none := List.find?_eq_none.mpr fun e he => by
    rcases h e he with hx | hx <;> simp [Entry.sendable, hx]
  unfold State.startFrame
  rw [hnone]

theorem startFirst_front {front back : List Entry} {e : Entry} (hfront : ∀ x ∈ front, x.held = true ∨ x.inFlight = true)
    (hh : e.held = false) (hi : e.inFlight = false) :
    (front ++ e :: back).find? Entry.sendable = some e ∧ startFirst (front ++ e :: back) = front ++ { e with inFlight := true } :: back := by
  have hs : e.sendable = true := by simp [Entry.sendable, hh, hi]
  induction front with
  | nil => exact ⟨List.find?_cons_of_pos hs, if_pos hs⟩
  | cons x front ih =>
    have hx : x.sendable = false := by rcases hfront x List.mem_cons_self with hx | hx <;> simp [Entry.sendable, hx]
    obtain ⟨hfind, hstart⟩ := ih fun y hy => hfront y (List.mem_cons_of_mem _ hy)
    refine ⟨?_, ?_⟩
    · rw [List.cons_append, List.find?_cons_of_neg (by rw [hx]; nofun)]
      exact hfind
    · rw [List.cons_append, startFirst, if_neg (by rw [hx]; nofun), hstart]
      rfl

theorem State.startFrame_first {front back : List Entry} {e : Entry} (hq : s.nlc.queue = front ++ e :: back)
    (hfront : ∀ x ∈ front, x.held = true ∨ x.inFlight = true) (hh : e.held = false) (hi : e.inFlight = false) :
    s.startFrame = s.setNlc { s.nlc with queue := front ++ { e with inFlight := true } :: back, tx := .frame e.frame, bus := .busy, ack := none } := by
  obtain ⟨hfind, hstart⟩ := startFirst_front (back := back) hfront hh hi
  unfold State.startFrame
  rw [hq, hfind, hstart]

theorem State.startFrame_only (s : State) : OnlyChanges [.nlc] s s.startFrame := by
  unfold State.startFrame
  split <;> exact State.setNlc_only _ s

end

/-- Settles O46. -/
theorem busIdleStartsTheFirstUnheldEntry : Obligations.BusIdleStartsTheFirstUnheldEntry := by
  intro s hon hr
  have hrun (taken : Bool) : exec (.busIdle taken) s = .next (s.busFellIdle taken) := by
    refine (State.powered_on hon _).trans (congrArg _ ?_)
    unfold State.idleOnLink
    rw [if_pos hr]
  refine ⟨fun bytes taken htx => ?_, fun htx => ?_⟩
  · rw [hrun]
    simp only [State.busFellIdle, htx]
  intro crcErrors n
  have hset := State.setNlc_only s.nlc.counted s
  have hanlc : (s.setNlc s.nlc.counted).nlc = s.nlc.counted := rfl
  have hcounted : s.nlc.counted = { n with bus := s.nlc.counted.bus } := rfl
  have hfell (taken : Bool) := State.busFellIdle_eq htx taken
  generalize s.setNlc s.nlc.counted = a at hset hanlc hfell
  have stilled : (a.setNlc a.nlc.stilled).nlc = { n with tx := .idle, bus := s.nlc.counted.bus, ack := none } := by
    show a.nlc.stilled = _
    rw [hanlc, hcounted]
    rfl
  refine ⟨fun hd taken => ?_, fun hd hl => ?_, fun hd hl hq taken => ?_, fun hd hl taken => ?_⟩
  · refine ⟨_, hrun taken, ?_⟩
    rw [hfell, State.actAtIdle_break (by rw [hanlc]; exact hd), hanlc, hcounted]
    have hdrives : ({ n with tx := .brk .driving, bus := .busy, breakDue := false, failures := 0, ack := none } : LinkController).drives =
        [breakDrive] := rfl
    refine ⟨rfl, fun x => ⟨?_, ?_⟩, hset.trans (State.setNlc_only _ a)⟩
    · exact LinkController.nlen_one hdrives rfl x
    · refine (LinkController.ntx_one hdrives rfl x).trans ?_
      simp [breakDrive, dominantAt, breakNs]
  · have hstill := stilled
    have hstillOnly := hset.trans (State.setNlc_only a.nlc.stilled a)
    have hcheck : (a.setNlc a.nlc.stilled).linkCheck = a.setNlc a.nlc.stilled := State.linkCheck_stays (by rw [hstill]; exact hl)
    have hact (taken : Bool) := State.actAtIdle_eq (s := a) (by rw [hanlc]; exact hd) taken
    rw [hcheck] at hact
    generalize a.setNlc a.nlc.stilled = b at hstill hstillOnly hcheck hact
    have hsends : b.nlc.link.sends = true := by
      rw [hstill]
      show s.nlc.link.sends = true
      rcases hl with hl | hl
      · rw [hl]
        rfl
      · rw [hl.1]
        rfl
    rw [hsends] at hact
    have htaken : a.actAtIdle true = b.setNlc { b.nlc with bus := .following } := hact true
    have hfree : a.actAtIdle false = b.startFrame := hact false
    refine ⟨⟨_, hrun true, ?_⟩, ⟨_, hrun false, ?_⟩⟩
    · rw [hfell, htaken]
      have hnlc : (b.setNlc { b.nlc with bus := .following }).nlc = { n with tx := .idle, bus := .following, ack := none } := by
        show ({ b.nlc with bus := .following } : LinkController) = _
        rw [hstill]
      refine ⟨hnlc, fun x => ?_, hstillOnly.trans (State.setNlc_only _ b)⟩
      rw [hnlc]
      exact LinkController.nlen_idle rfl rfl x
    · rw [hfell, hfree]
      have hqueue : b.nlc.queue = s.nlc.queue := by rw [hstill]
      refine ⟨hstillOnly.trans b.startFrame_only, fun hheld => ?_, fun front back e hq hfront hh hi => ?_⟩
      · have hnlc : (b.startFrame).nlc = { n with tx := .idle, bus := .idle, ack := none } := by
          rw [State.startFrame_none (by rw [hqueue]; exact hheld)]
          show ({ b.nlc with tx := .idle, bus := .idle, ack := none } : LinkController) = _
          rw [hstill]
        refine ⟨hnlc, fun x => ?_⟩
        rw [hnlc]
        exact LinkController.nlen_idle rfl rfl x
      · have hnlc : (b.startFrame).nlc =
            { n with queue := front ++ { e with inFlight := true } :: back, bus := .busy, ack := none, tx := .frame e.frame } := by
          rw [State.startFrame_first (hqueue.trans hq) hfront hh hi]
          show ({ b.nlc with queue := front ++ { e with inFlight := true } :: back, tx := .frame e.frame, bus := .busy, ack := none } :
            LinkController) = _
          rw [hstill]
        have hdrives : b.startFrame.nlc.drives = [frameDrive e.frame] := LinkController.drives_one (by rw [hnlc]; rfl) (by rw [hnlc])
        obtain ⟨hsof, hbits⟩ := frameDrive_dominant e.frame
        have hend : (frameDrive e.frame).endNs = 12000 + 32000 * e.frame.length := by
          show sofNs + bitNs * (8 * e.frame.length) = _
          unfold sofNs bitNs
          omega
        refine ⟨hnlc, fun x => ?_, fun x hx => ?_, fun k bit hbit x hlo hhi => ?_, ⟨frameDrive e.frame, hdrives, e.readFrame_drive⟩⟩
        · exact (LinkController.nlen_one hdrives rfl x).trans (by rw [hend])
        · exact (LinkController.ntx_one hdrives rfl x).mpr ⟨by rw [hend]; omega, hsof x hx⟩
        · obtain ⟨hlt, hdom⟩ := hbits k bit hbit x hlo hhi
          exact (LinkController.ntx_one hdrives rfl x).trans ((and_iff_right hlt).trans hdom)
  · have hlink : ((a.setNlc a.nlc.stilled).linkCheck).nlc = { n with tx := .idle, bus := .waiting, link := .silent, ack := none } := by
      rw [State.linkCheck_silent (by rw [stilled]; exact hl) (by rw [stilled]; exact hd) (by rw [stilled]; rfl) (by rw [stilled]; exact hq)]
      show ({ (a.setNlc a.nlc.stilled).nlc with link := .silent, tx := .idle, bus := .waiting, ack := none } : LinkController) = _
      rw [stilled]
    have hrest := State.actAtIdle_eq (s := a) (by rw [hanlc]; exact hd) taken
    have hlinkOnly := hset.trans ((State.setNlc_only a.nlc.stilled a).trans (State.linkCheck_only _))
    generalize (a.setNlc a.nlc.stilled).linkCheck = b at hlink hrest hlinkOnly
    rw [hlink] at hrest
    have hlevel : b.levelAfter taken = b := by
      unfold State.levelAfter
      split
      · unfold State.nodeEdge
        rw [hlink]
        exact if_neg fun h => absurd h.2.1 nofun
      · rfl
    have hdone : a.actAtIdle taken = b := hrest.trans hlevel
    refine ⟨_, hrun taken, ?_⟩
    rw [hfell, hdone]
    refine ⟨hlink, fun x => ?_, hlinkOnly⟩
    rw [hlink]
    exact LinkController.nlen_idle rfl rfl x
  · have hlink : ((a.setNlc a.nlc.stilled).linkCheck).nlc = { n with tx := .idle, bus := .waiting, link := .away, ack := none } := by
      rw [State.linkCheck_away (by rw [stilled]; exact hl) (by rw [stilled]; exact hd) (by rw [stilled])]
      show ({ (a.setNlc a.nlc.stilled).nlc with link := .away, bus := .waiting, ack := none } : LinkController) = _
      rw [stilled]
    have hrest := State.actAtIdle_eq (s := a) (by rw [hanlc]; exact hd) taken
    have hlinkOnly := hset.trans ((State.setNlc_only a.nlc.stilled a).trans (State.linkCheck_only _))
    generalize (a.setNlc a.nlc.stilled).linkCheck = b at hlink hrest hlinkOnly
    rw [hlink] at hrest
    have hdone : a.actAtIdle taken = b.levelAfter taken := hrest
    have hlevel := State.levelAfter_spec taken b
    refine ⟨_, hrun taken, ?_⟩
    rw [hfell, hdone, hlevel]
    refine ⟨hlink, ?_, (hlinkOnly.mono (by decide)).trans (by simp)⟩
    show (b.waking || _) = _
    rw [hlinkOnly .waking (by decide), hlinkOnly .mode (by decide), hlink, hlinkOnly.par (by decide)]
    simp only [decide_true, Bool.and_true]
    rfl


/-! ## 3. What stands behind a stored report (R57, R58) -/

section
variable {s t u : State} {j k : FaultKind} {detail : Nat} {bs : List Block} {n m : NodeAddr} {payload : List Byte}

/-- The entries of a kind in the active list. -/
def State.entriesOf (s : State) (k : FaultKind) : List ActiveFault := s.faults.active.filter (fun e => e.kind == k)

theorem State.mem_entriesOf {e : ActiveFault} : e ∈ s.entriesOf k ↔ e ∈ s.faults.active ∧ e.kind = k := by simp [State.entriesOf]

/-- The entries of a kind stand as they were. -/
def KeepsKind (k : FaultKind) (s t : State) : Prop := t.entriesOf k = s.entriesOf k

namespace KeepsKind

theorem of_eq (h : t.faults = s.faults) : KeepsKind k s t := by
  unfold KeepsKind State.entriesOf
  rw [h]

theorem off (h : OnlyChanges bs s t) (hb : Block.faults ∉ bs := by decide) : KeepsKind k s t := .of_eq (h .faults hb)

theorem refl (s : State) : KeepsKind k s s := .of_eq rfl

theorem trans (h : KeepsKind k s t) (h' : KeepsKind k t u) : KeepsKind k s u := Eq.trans h' h

theorem ite {c : Prop} [Decidable c] {a b : State} (ha : KeepsKind k s a) (hb : KeepsKind k s b) : KeepsKind k s (if c then a else b) := by
  split <;> assumption

/-- A change of the entries of another kind. -/
theorem filter_map {f : ActiveFault → ActiveFault} (hkind : ∀ e, (f e).kind = e.kind) (hf : ∀ e, e.kind = k → f e = e) (l : List ActiveFault) :
    (l.map f).filter (fun e => e.kind == k) = l.filter (fun e => e.kind == k) := by
  induction l with
  | nil => rfl
  | cons e l ih =>
    rw [List.map_cons, List.filter_cons, List.filter_cons, hkind, ih]
    split
    · next he => rw [hf e (beq_iff_eq.mp he)]
    · rfl

theorem raiseCore (h : j ≠ k) (detail : Nat) (s : State) : KeepsKind k s (s.raiseCore j detail) := by
  by_cases hm : s.mode = .halted
  · rw [show s.raiseCore j detail = s from if_pos hm]
    exact .refl s
  · unfold KeepsKind State.entriesOf
    rw [State.raiseCore_faults hm]
    unfold FaultUnit.addRaise
    split
    · rw [List.filter_append]
      simp [FaultUnit.newEntry, h]
    · exact filter_map (fun e => by split <;> rfl) (fun e he => if_neg (by rw [he]; exact h.symm)) _

theorem endCause (h : j ≠ k) (s : State) : KeepsKind k s (s.endCause j) := by
  unfold State.endCause
  split
  · exact .refl s
  · split
    · exact .refl s
    · split
      · exact filter_map (fun e => by split <;> rfl) (fun e he => if_neg (by rw [he]; exact h.symm)) _
      · unfold KeepsKind State.entriesOf State.removeFault
        rw [State.noteRestriction_faults]
        show (s.faults.active.filter _).filter _ = _
        rw [List.filter_filter]
        refine List.filter_congr fun e _ => ?_
        by_cases he : e.kind = k <;> simp [he, h.symm]

theorem endCauses {js : List FaultKind} (h : k ∉ js) (s : State) : KeepsKind k s (s.endCauses js) := by
  unfold State.endCauses
  induction js generalizing s with
  | nil => exact .refl s
  | cons j js ih =>
    rw [List.mem_cons, not_or] at h
    exact (endCause (Ne.symm h.1) s).trans (ih h.2 _)

theorem saturation_id (h : k ≠ .frictionSaturated) (r : BlendResult) (s : State) : KeepsKind k s (s.saturation id r) := by
  unfold State.saturation
  split
  · have hset : KeepsKind k s (s.setBbu { s.bbu with saturated := true }) := .of_eq rfl
    have hraise := hset.trans (KeepsKind.raiseCore h.symm r.shortDetail _)
    unfold State.raiseWith
    dsimp only
    split
    · exact hraise.trans (.off (State.safeCause_engine _).only)
    · exact hraise
  · split
    · have hset : KeepsKind k s (s.setBbu { s.bbu with saturated := false }) := .of_eq rfl
      exact hset.trans (.endCause h.symm _)
    · exact .refl s

theorem cutReblend (h : k ≠ .frictionSaturated) (slipCut : Bool) (s : State) : KeepsKind k s (s.cutReblend slipCut) := by
  unfold State.cutReblend
  split
  · rw [State.applyBlend_eq]
    exact (KeepsKind.off State.driveBlend_only).trans (.saturation_id h _ _)
  · exact .refl s

/-- What a raise hands on leaves the entries that it has made. -/
theorem raised (h : k ≠ .frictionSaturated) (j : FaultKind) (detail : Nat) (s : State) :
    KeepsKind k (s.raiseCore j detail) (s.raise j detail) := by
  cases hb : becameSafeStop s (s.raiseCore j detail)
  · rw [State.raise_rests hb]
    exact .refl _
  · rw [State.raise_stops hb]
    exact (cutReblend h _ _).trans (.off (State.safeCause_engine _).only)

theorem raise (h : k ≠ .frictionSaturated) (hj : j ≠ k) (detail : Nat) (s : State) : KeepsKind k s (s.raise j detail) :=
  (raiseCore hj detail s).trans (raised h j detail s)

end KeepsKind

/-- The entries of a kind after its raise: one whose cause is present, with the detail given (R192). -/
theorem State.raise_enters (hm : s.mode ≠ .halted) (hk : k ≠ .frictionSaturated) (detail : Nat) :
    ∃ e ∈ (s.raise k detail).entriesOf k, e.causePresent = true ∧ e.detail = detail := by
  obtain ⟨e, he, hc, hd⟩ : ∃ e, (s.raise k detail).faults.entry k = some e ∧ e.causePresent = true ∧ e.detail = detail := by
    cases he : s.faults.entry k with
    | none => exact ⟨_, State.entry_raise_new hk hm detail he, rfl, rfl⟩
    | some e => exact ⟨_, State.entry_raise_again hk hm detail he, rfl, rfl⟩
  exact ⟨e, State.mem_entriesOf.mpr ⟨List.mem_of_find?_eq_some he, by simpa using List.find?_some he⟩, hc, hd⟩

/-- The entries of a kind after the end of its cause (R193). -/
theorem State.endCause_leaves (hm : s.mode ≠ .halted) (k : FaultKind) :
    ∀ e ∈ (s.endCause k).entriesOf k, k.latched = true ∧ e.causePresent = false := by
  intro e he
  obtain ⟨hmem, hkind⟩ := State.mem_entriesOf.mp he
  unfold State.endCause at hmem
  rw [if_neg hm] at hmem
  split at hmem
  · next hnone => exact absurd (by simpa using hkind) (List.find?_eq_none.mp hnone e hmem)
  · split at hmem
    · next hl =>
      obtain ⟨y, -, rfl⟩ := List.mem_map.mp hmem
      refine ⟨hl, ?_⟩
      split
      · rfl
      · next hy => rw [if_neg hy] at hkind; exact absurd hkind hy
    · unfold State.removeFault at hmem
      rw [State.noteRestriction_faults] at hmem
      exact absurd hkind (by simpa using (List.mem_filter.mp hmem).2)

/-! ### Work that makes offers and raises other kinds -/

/-- Any offer. -/
def AnyOffer (_ : NodeAddr) (_ : EntryKind) (_ : List Byte) (_ : Origin) : Prop := True

/-- Work behind a stored report: offers and faults of other kinds than `k`, the records standing. -/
structure SideWork (k : FaultKind) (s t : State) : Prop where
  offers : Offers AnyOffer s t
  kind : KeepsKind k s t

/-- While the bus is not idle an offer changes the queue alone. -/
theorem Offers.waiting {P : NodeAddr → EntryKind → List Byte → Origin → Prop} (h : Offers P s t) (hb : s.nlc.bus ≠ .idle) :
    t.nlc = { s.nlc with queue := t.nlc.queue } := by
  induction h with
  | rest hnlc _ => rw [hnlc]
  | @offer n k p o _ s =>
    unfold State.offer State.offerAt
    split
    · split
      · rfl
      · unfold State.kick
        rw [if_neg fun h => hb h.1]
        rfl
    · rfl
  | trans _ _ ih ih' =>
    have h1 := ih hb
    have h2 := ih' (by rw [h1]; exact hb)
    rw [h2, h1]

namespace SideWork

theorem refl (s : State) : SideWork k s s := ⟨.refl s, .refl s⟩

theorem trans (h : SideWork k s t) (h' : SideWork k t u) : SideWork k s u := ⟨h.offers.trans h'.offers, h.kind.trans h'.kind⟩

theorem ite {c : Prop} [Decidable c] {a b : State} (ha : SideWork k s a) (hb : SideWork k s b) : SideWork k s (if c then a else b) := by
  split <;> assumption

theorem off (h : OnlyChanges bs s t) (hb : Block.nlc ∉ bs ∧ Block.nodes ∉ bs ∧ Block.faults ∉ bs := by decide) : SideWork k s t :=
  ⟨.off h ⟨hb.1, hb.2.1⟩, .off h hb.2.2⟩

/-- Offers beside which the faults stand. -/
theorem of_offers {P : NodeAddr → EntryKind → List Byte → Origin → Prop} (h : Offers P s t) (hf : OnlyChanges bs s t)
    (hb : Block.faults ∉ bs := by decide) : SideWork k s t := ⟨h.mono fun _ => trivial, .off hf hb⟩

theorem setEsc (s : State) (x : EngineUnit) : SideWork k s (s.setEsc x) := ⟨.setEsc s x, .of_eq rfl⟩

theorem setBbu (s : State) (x : BrakeUnit) : SideWork k s (s.setBbu x) := ⟨.setBbu s x, .of_eq rfl⟩

theorem raise (h : k ≠ .frictionSaturated) (hj : j ≠ k) (detail : Nat) (s : State) : SideWork k s (s.raise j detail) :=
  ⟨(Offers.raise j detail s).mono fun _ => trivial, .raise h hj detail s⟩

theorem cutReblend (h : k ≠ .frictionSaturated) (slipCut : Bool) (s : State) : SideWork k s (s.cutReblend slipCut) :=
  ⟨(Offers.cutReblend slipCut s).mono fun _ => trivial, .cutReblend h slipCut s⟩

theorem endCause (hj : j ≠ k) (s : State) : SideWork k s (s.endCause j) := ⟨.off (State.endCause_only j s), .endCause hj s⟩

theorem setEngine (h : k ∉ [FaultKind.crankFail, .stopFail]) (m : EngineState) (s : State) : SideWork k s (s.setEngine m) := by
  refine ⟨.setEngine m s, ?_⟩
  unfold State.setEngine
  dsimp only
  have ha : OnlyChanges [.esc, .notices] s ((s.setEsc { s.esc with machine := m, offDwell := if m = .off then 0 else s.esc.offDwell }).notify
      .engine m.code) := by simp
  generalize (s.setEsc { s.esc with machine := m, offDwell := if m = .off then 0 else s.esc.offDwell }).notify .engine m.code = a at ha
  have hb : KeepsKind k a (if s.esc.machine = .fault then a.endCauses [.crankFail, .stopFail] else a) := .ite (.endCauses h a) (.refl a)
  generalize (if s.esc.machine = .fault then a.endCauses [.crankFail, .stopFail] else a) = b at hb
  have hc : OnlyChanges [.progress, .wear, .notices] b b.endEngineWait := by simp (disch := decide)
  exact .ite (.refl s) (((KeepsKind.off ha).trans hb).trans (.ite (.off hc) (.refl b)))

theorem offerNoForce (s : State) : SideWork k s s.offerNoForce := .of_offers (.offerNoForce s) (State.offer_only _ _ _ _ s)

theorem offerStart (s : State) : SideWork k s s.offerStart :=
  .of_offers (bs := [.nlc, .wear, .notices]) (.offerStart s) (by simp (disch := decide))

theorem enterCranking (h : k ∉ [FaultKind.crankFail, .stopFail]) (c : CrankCause) (s : State) : SideWork k s (s.enterCranking c) :=
  ((offerStart s).trans (setEsc _ _)).trans (setEngine h _ _)

theorem returnToRun (h : k ∉ [FaultKind.crankFail, .stopFail]) (s : State) : SideWork k s s.returnToRun :=
  (setEsc _ _).trans (setEngine h _ _)

theorem evaluateStart (h : k ∉ [FaultKind.crankFail, .stopFail]) (s : State) : SideWork k s s.evaluateStart := by
  unfold State.evaluateStart
  split
  · split
    · exact .ite (enterCranking h _ s) (.refl s)
    · exact .refl s
  · exact .ite (returnToRun h s) (.refl s)
  all_goals exact .refl s

theorem startSucceeds (h : k ∉ [FaultKind.crankFail, .stopFail]) (coolant : Int) (s : State) : SideWork k s (s.startSucceeds coolant) :=
  (setEsc _ _).trans (setEngine h _ _)

theorem attemptFails (h : k ∉ [FaultKind.crankFail, .stopFail]) (hk : k ≠ .frictionSaturated) (s : State) : SideWork k s s.attemptFails :=
  .ite ((setEsc _ _).trans (setEngine h _ _)) (((setEsc _ _).trans (setEngine h _ _)).trans (raise hk (fun e => h (by simp [← e])) _ _))

theorem stall (h : k ∉ [FaultKind.crankFail, .stopFail]) (s : State) : SideWork k s s.stall :=
  ((ite (offerNoForce s) (refl s)).trans (setEsc _ _)).trans (setEngine h _ _)

theorem reportedEngineFault (h : k ∉ [FaultKind.crankFail, .stopFail]) (s : State) : SideWork k s s.reportedEngineFault :=
  ((ite (offerNoForce s) (refl s)).trans (setEsc _ _)).trans (setEngine h _ _)

theorem stopEnds (h : k ∉ [FaultKind.crankFail, .stopFail]) (s : State) : SideWork k s s.stopEnds := by
  unfold State.stopEnds
  dsimp only
  refine ((setEsc s { s.esc with stopTimer := none, stopCause := none, latch := none }).trans (setEngine h .off _)).trans ?_
  split
  · exact .ite (enterCranking h _ _) (.refl _)
  · exact evaluateStart h _

/-- What an ENG report does to the machine leaves the other records and the other faults. -/
theorem engineReport (h : k ∉ [FaultKind.crankFail, .stopFail]) (hk : k ≠ .frictionSaturated) (r : EngReport) (s : State) :
    SideWork k s (s.engineReport r) := by
  have hcranking (u : State) : SideWork k u (u.reportInCranking r) := by
    unfold State.reportInCranking
    split
    · exact startSucceeds h _ u
    · exact attemptFails h hk u
    all_goals exact .refl u
  have hretry (u : State) : SideWork k u (u.reportInRetry r) := .ite (startSucceeds h _ u) (.refl u)
  have hwarmup (u : State) : SideWork k u (u.reportInWarmup r) := by
    unfold State.reportInWarmup
    split
    · exact stall h u
    · exact reportedEngineFault h u
    · exact .ite (setEngine h _ u) (.refl u)
    all_goals exact .refl u
  have hrun (u : State) : SideWork k u (u.reportInRun r) := by
    unfold State.reportInRun
    split
    · exact stall h u
    · exact reportedEngineFault h u
    all_goals exact .refl u
  have hstopping (u : State) : SideWork k u (u.reportInStopping r) := by
    unfold State.reportInStopping
    split
    · exact stopEnds h u
    · exact reportedEngineFault h u
    all_goals exact .refl u
  unfold State.engineReport
  dsimp only
  refine .ite (.refl s) ((setEsc s { s.esc with window := false }).trans ?_)
  generalize s.setEsc { s.esc with window := false } = u
  split
  · exact .ite (setEngine h _ u) (.refl u)
  · exact hcranking u
  · exact hretry u
  · exact hwarmup u
  · exact hrun u
  · exact hrun u
  · exact hstopping u
  · exact .refl u

theorem slipReport (hk : k ≠ .frictionSaturated) (s : State) : SideWork k s s.slipReport :=
  .ite (.refl s) ((setBbu _ _).trans (cutReblend hk _ _))

theorem setFaults_reserve (b : Bool) (s : State) : SideWork k s (s.setFaults { s.faults with reserve := b }) := ⟨.rest rfl rfl, rfl⟩

theorem reserveWatch (hk : k ≠ .frictionSaturated) (hz : k ≠ .zoneReserve) (s : State) : SideWork k s s.reserveWatch := by
  unfold State.reserveWatch
  split
  · exact .refl s
  · refine .ite (.refl s) (.ite (.ite ?_ (.refl s)) (.ite ?_ (.refl s)))
    · exact (setFaults_reserve _ s).trans (endCause hz.symm _)
    · exact (setFaults_reserve _ s).trans (raise hk hz.symm _ _)

end SideWork

end


/-! ## 4. What a stored report hands on (R57, R58, R71) -/

section
variable {s t u : State} {j k : FaultKind} {bs : List Block} {n m : NodeAddr} {payload : List Byte} {before : Bool} {since : Option Nat}

/-- The battery's wear of a report, none for a repeat (R171). -/
def State.wearSince (r : BatReport) (since : Option Nat) (s : State) : State :=
  match since with
  | some e => s.batteryWear r e
  | none => s

/-- What is handed on behind the hold release (R58). -/
def State.handRole (n : NodeAddr) (since : Option Nat) (s : State) : State :=
  match n with
  | .eng => match s.nodes.engReport with
    | some r => s.engineReport r
    | none => s
  | .bat => match s.nodes.batReport with
    | some r => (s.wearSince r since).reserveWatch
    | none => s
  | .bkf => if ((s.nodes.flagsOf .bkf).map ReportFlags.slip).getD false then s.slipReport else s
  | .bkr => if ((s.nodes.flagsOf .bkr).map ReportFlags.slip).getD false then s.slipReport else s
  | .inv => s
  | .aux1 => s
  | .aux2 => s

/-- The state behind the hold release of a stored report (R71). -/
def State.releaseReady (n : NodeAddr) (s : State) : State :=
  if ((s.nodes.flagsOf n).map ReportFlags.ready).getD false then s.releaseHold n else s

theorem State.releaseReady_spec (n : NodeAddr) (s : State) : (s.releaseReady n).nodes.reports = s.nodes.reports ∧
    (s.releaseReady n).node n = { s.node n with held := ((s.releaseReady n).node n).held } ∧
    (∀ m, m ≠ n → (s.releaseReady n).node m = s.node m) ∧
    (s.nlc.bus ≠ .idle → (s.releaseReady n).nlc = { s.nlc with queue := (s.releaseReady n).nlc.queue }) ∧
    OnlyChanges [.nlc, .nodes] s (s.releaseReady n) := by
  unfold State.releaseReady
  split
  · obtain ⟨hreports, hself, hother, honly⟩ := State.releaseHold_spec n s
    exact ⟨hreports, by rw [hself], hother, fun hb => by rw [State.releaseHold_waits hb], honly⟩
  · exact ⟨rfl, rfl, fun _ _ => rfl, fun _ => rfl, .refl _ s⟩

theorem State.handOn_eq (n : NodeAddr) (since : Option Nat) (s : State) : s.handOn n since = (s.releaseReady n).handRole n since := by
  have hflags : (s.releaseReady n).nodes.flagsOf n = s.nodes.flagsOf n := NodeTable.flagsOf_of_reports (State.releaseReady_spec n s).1 n
  cases n with
  | bkf => rw [State.handRole, hflags] <;> rfl
  | bkr => rw [State.handRole, hflags] <;> rfl
  | _ => rfl

theorem State.wearSince_only (r : BatReport) (since : Option Nat) (s : State) : OnlyChanges [.wear, .notices] s (s.wearSince r since) := by
  cases since with
  | some e => exact State.addEnergy_only _ _ _ s
  | none => exact .refl _ s

theorem reportedFault_ne (h : reportedFault n = some k) :
    k ∉ [FaultKind.crankFail, .stopFail, .frictionSaturated, .zoneReserve, .batStale] := by
  cases n <;> simp only [reportedFault, Option.some.injEq, reduceCtorEq] at h <;> subst h <;> decide

theorem SideWork.handRole (h : k ∉ [FaultKind.crankFail, .stopFail, .frictionSaturated, .zoneReserve, .batStale]) (since : Option Nat) (s : State) :
    SideWork k s (s.handRole n since) := by
  simp only [List.mem_cons, List.not_mem_nil, or_false, not_or] at h
  obtain ⟨hcrank, hstop, hsat, hzone, -⟩ := h
  unfold State.handRole
  split
  · split
    · exact .engineReport (by simp [hcrank, hstop]) hsat _ s
    · exact .refl s
  · split
    · exact (SideWork.off (State.wearSince_only _ _ s)).trans (.reserveWatch hsat hzone _)
    · exact .refl s
  · exact .ite (.slipReport hsat s) (.refl s)
  · exact .ite (.slipReport hsat s) (.refl s)
  all_goals exact .refl s

/-- The faults of a node that its stored report raises or ends, with its flag before and in the report (R57). -/
structure ReportsFault (n : NodeAddr) (before : Bool) (s t : State) : Prop where
  raised : ∀ k, reportedFault n = some k → s.mode ≠ .halted → s.nodes.faultFlag n = true → before = false →
    ∃ e ∈ t.entriesOf k, e.causePresent = true ∧ e.detail = nodeCode n
  ended : ∀ k, reportedFault n = some k → s.mode ≠ .halted → s.nodes.faultFlag n = false → s.nodes.faultOver n = true →
    ∀ e ∈ t.entriesOf k, k.latched = true ∧ e.causePresent = false

theorem ReportsFault.after (h : ReportsFault n before s u) (hk : ∀ k, reportedFault n = some k → KeepsKind k u t) : ReportsFault n before s t := by
  constructor
  · intro k hkind
    rw [hk k hkind]
    exact h.raised k hkind
  · intro k hkind
    rw [hk k hkind]
    exact h.ended k hkind

/-- The reported faults are an end of cause, a raise, or none. -/
theorem State.actReported_eq (n : NodeAddr) (before : Bool) (s : State) : s.actReported n before = s ∨
    (∃ k, reportedFault n = some k ∧ s.actReported n before = s.raise k (nodeCode n)) ∨
    (∃ k, reportedFault n = some k ∧ s.actReported n before = s.endCause k) := by
  unfold State.actReported
  split
  · exact .inl rfl
  · next k hk =>
    split
    · split
      · exact .inl rfl
      · exact .inr (.inl ⟨k, hk, rfl⟩)
    · split
      · exact .inr (.inr ⟨k, hk, rfl⟩)
      · exact .inl rfl

theorem State.actReported_raises (hk : reportedFault n = some k) (hf : s.nodes.faultFlag n = true) :
    s.actReported n false = s.raise k (nodeCode n) := by
  unfold State.actReported
  rw [hk]
  exact if_pos hf

theorem State.actReported_ends (hk : reportedFault n = some k) (hf : s.nodes.faultFlag n = false) (ho : s.nodes.faultOver n = true) :
    s.actReported n before = s.endCause k := by
  unfold State.actReported
  rw [hk]
  exact (if_neg (by rw [hf]; nofun)).trans (if_pos ho)

theorem State.actReported_reports (n : NodeAddr) (before : Bool) (s : State) : ReportsFault n before s (s.actReported n before) := by
  constructor
  · rintro k hk hm hf rfl
    have hsat : k ≠ .frictionSaturated := fun e => reportedFault_ne hk (by simp [e])
    rw [State.actReported_raises hk hf]
    exact State.raise_enters hm hsat _
  · intro k hk hm hf ho
    rw [State.actReported_ends hk hf ho]
    exact State.endCause_leaves hm k

theorem State.actReported_offers (n : NodeAddr) (before : Bool) (s : State) : Offers AnyOffer s (s.actReported n before) := by
  rcases State.actReported_eq n before s with h | ⟨k, -, h⟩ | ⟨k, -, h⟩
  · rw [h]
    exact .refl s
  · rw [h]
    exact (Offers.raise k _ s).mono fun _ => trivial
  · rw [h]
    exact .off (State.endCause_only k s)

/-- What stands when a stored report has been handed on: its record but for its hold, the others, the link but for its queue (R57,
R58). -/
structure ReportHanded (n : NodeAddr) (before : Bool) (s t : State) : Prop where
  nlc : s.nlc.bus ≠ .idle → t.nlc = { s.nlc with queue := t.nlc.queue }
  record : t.node n = { s.node n with held := (t.node n).held }
  others : ∀ m, m ≠ n → t.node m = s.node m
  reports : t.nodes.reports = s.nodes.reports
  faults : ReportsFault n before s t

theorem State.handOn_spec (n : NodeAddr) (before : Bool) (since : Option Nat) (s : State) :
    ReportHanded n before s ((s.actReported n before).handOn n since) := by
  have hoffers := State.actReported_offers n before s
  have hfaults := State.actReported_reports n before s
  rw [State.handOn_eq]
  generalize s.actReported n before = a at hoffers hfaults
  obtain ⟨hreports, hself, hother, hnlc, honly⟩ := State.releaseReady_spec n a
  generalize a.releaseReady n = b at hreports hself hother hnlc honly
  have hwork (k : FaultKind) (hk : reportedFault n = some k) := SideWork.handRole (n := n) (reportedFault_ne hk) since b
  have hlast : Offers AnyOffer b (b.handRole n since) := (SideWork.handRole (n := n) (k := .linkErrors) (by decide) since b).offers
  generalize b.handRole n since = t at hwork hlast
  have hnodes : t.nodes = b.nodes := hlast.nodes
  have hnode (m : NodeAddr) : t.node m = b.node m := by
    unfold State.node
    rw [hnodes]
  have hanode (m : NodeAddr) : a.node m = s.node m := by
    unfold State.node
    rw [hoffers.nodes]
  refine ⟨fun hb => ?_, ?_, fun m hm => ?_, ?_, hfaults.after fun k hk => (KeepsKind.off honly).trans (hwork k hk).kind⟩
  · have ha := hoffers.waiting hb
    have hab : a.nlc.bus ≠ .idle := by rw [ha]; exact hb
    have hbn := hnlc hab
    have hbb : b.nlc.bus ≠ .idle := by rw [hbn]; exact hab
    rw [hlast.waiting hbb, hbn, ha]
  · rw [hnode, hself, hanode]
  · rw [hnode, hother m hm, hanode]
  · rw [hnodes, hreports, hoffers.nodes]

end


/-! ## 5. A report of SLIP, and a battery report (R85, R86, R171, R197) -/

section
variable {s t u : State} {j k : FaultKind} {bs : List Block} {n m : NodeAddr} {payload : List Byte} {detail : Nat}

/-- The recovery of a blend has been cut: the record's force is held by friction (R86). -/
structure RecoveryCut (s t : State) : Prop where
  prev : t.bbu.prev = 0
  trigger : t.bbu.result.trigger = .cut
  recovery : t.bbu.result.fReg = 0
  force : t.bbu.result.fDem = s.demand.record.mass * s.demand.record.brake / 100

theorem RecoveryCut.after (h : RecoveryCut s u) (ht : t.bbu.prev = u.bbu.prev ∧ t.bbu.result = u.bbu.result) : RecoveryCut s t := by
  obtain ⟨hprev, hresult⟩ := ht
  constructor <;> simp only [hprev, hresult]
  exacts [h.prev, h.trigger, h.recovery, h.force]

theorem RecoveryCut.before (h : RecoveryCut u t) (hu : u.demand = s.demand) : RecoveryCut s t :=
  ⟨h.prev, h.trigger, h.recovery, by rw [← hu]; exact h.force⟩

/-- A cut re-blend under slip or at SAFE_STOP (R86, R93). -/
theorem State.cutReblend_recovers (hm : s.mode = .ready) (hp : 0 < s.bbu.prev) (h : s.bbu.slipHold.isSome = true ∨ s.level = .safeStop)
    (slipCut : Bool) : RecoveryCut s (s.cutReblend slipCut) := by
  have hforced : (s.blendInputs false).slip = true ∨ (s.blendInputs false).nodeLost = true ∨ (s.blendInputs false).level = .safeStop ∨
      (s.blendInputs false).reverse = true ∨ (s.blendInputs false).held = true := by
    rcases h with h | h
    · exact .inl (Bool.or_eq_true_iff.mpr (.inl h))
    · exact .inr (.inr (.inl h))
  have hr : (s.blendResult .cut).fReg = 0 := (BlendInputs.fReg_of_forced (p := s.params) hforced).2
  have hrun : s.cutReblend slipCut = s.applyBlend id slipCut 0 (s.blendResult .cut) := if_pos ⟨hm, hp⟩
  have hdem : (s.blendResult .cut).fDem = s.demand.record.mass * s.demand.record.brake / 100 := rfl
  have htrigger : (s.blendResult .cut).trigger = .cut := rfl
  rw [hrun, State.applyBlend_eq]
  generalize s.blendResult .cut = r at hr hdem htrigger
  have hbbu : ((s.driveBlend slipCut 0 r).saturation id r).bbu = { s.bbu.blended r (s.blendEnergies 0 r) with saturated := r.short } := by
    rw [State.saturation_id_bbu, (State.driveBlend_spec _ _ _ _).1]
  constructor <;> rw [hbbu]
  exacts [hr, htrigger, hr, hdem]

/-- A raise leaves the BBU, or cuts the recovery of a blend in READY (R86, R196). -/
theorem State.raise_cuts (k : FaultKind) (detail : Nat) (s : State) :
    (s.raise k detail).bbu = s.bbu ∨ (s.mode = .ready ∧ 0 < s.bbu.prev ∧ RecoveryCut s (s.raise k detail)) := by
  have hcore := State.raiseCore_only k detail s
  cases hb : becameSafeStop s (s.raiseCore k detail) with
  | false =>
    rw [State.raise_rests hb]
    exact .inl (hcore .bbu (by decide))
  | true =>
    rw [State.raise_stops hb]
    have hsafe : (s.raiseCore k detail).level = .safeStop := by simpa [becameSafeStop] using (Bool.and_eq_true_iff.mp hb).2
    have hbbu : (s.raiseCore k detail).bbu = s.bbu := hcore .bbu (by decide)
    have hmode : (s.raiseCore k detail).mode = s.mode := hcore .mode (by decide)
    have hdemand : (s.raiseCore k detail).demand = s.demand := hcore .demand (by decide)
    generalize s.raiseCore k detail = a at hsafe hbbu hmode hdemand
    have hlast (u : State) : u.safeCause.bbu = u.bbu := (State.safeCause_engine u).only .bbu (by decide)
    by_cases hc : a.mode = .ready ∧ 0 < a.bbu.prev
    · refine .inr ⟨hmode ▸ hc.1, hbbu ▸ hc.2, ?_⟩
      exact ((State.cutReblend_recovers hc.1 hc.2 (.inr hsafe) false).before hdemand).after (by rw [hlast]; exact ⟨rfl, rfl⟩)
    · have hrest : a.cutReblend false = a := if_neg hc
      rw [hlast, hrest]
      exact .inl hbbu

/-- SLIP starts the slip-hold, and leaves no recovery in READY (R85, R86). -/
structure SlipTaken (s t : State) : Prop where
  hold : t.bbu.slipHold = some (s.par .tSlip)
  last : t.bbu.lastSlip = some s.runTime
  cuts : s.mode = .ready → 0 < s.bbu.prev → RecoveryCut s t
  idle : s.bbu.prev = 0 → t.bbu.prev = s.bbu.prev ∧ t.bbu.result = s.bbu.result

theorem State.cutReblend_lastSlip (slipCut : Bool) (s : State) : (s.cutReblend slipCut).bbu.lastSlip = s.bbu.lastSlip := by
  unfold State.cutReblend
  split
  · rw [State.applyBlend_eq, State.saturation_id_bbu, (State.driveBlend_spec _ _ _ _).1]
    rfl
  · rfl

theorem State.slipReport_takes (hm : s.mode ≠ .halted) : SlipTaken s s.slipReport := by
  have hrun : s.slipReport = (s.setBbu { s.bbu with lastSlip := some s.runTime, slipHold := some (s.par .tSlip) }).cutReblend true := if_neg hm
  have hset : OnlyChanges [.bbu] s (s.setBbu { s.bbu with lastSlip := some s.runTime, slipHold := some (s.par .tSlip) }) := by simp
  have hbbu : (s.setBbu { s.bbu with lastSlip := some s.runTime, slipHold := some (s.par .tSlip) }).bbu =
      { s.bbu with lastSlip := some s.runTime, slipHold := some (s.par .tSlip) } := rfl
  rw [hrun]
  generalize s.setBbu { s.bbu with lastSlip := some s.runTime, slipHold := some (s.par .tSlip) } = a at hset hbbu
  have hprev : a.bbu.prev = s.bbu.prev := by rw [hbbu]
  refine ⟨?_, ?_, fun hr hp => ?_, fun hp => ?_⟩
  · rw [(TimersRun.cutReblend true a).slip, hbbu]
  · rw [State.cutReblend_lastSlip, hbbu]
  · exact (State.cutReblend_recovers ((hset .mode (by decide)).trans hr) (hprev ▸ hp) (.inl (by rw [hbbu]; rfl)) true).before
      (hset .demand (by decide))
  · rw [State.cutReblend_idle (hprev.trans hp), hbbu]
    exact ⟨rfl, rfl⟩

/-- The end of a reported fault, or its raise, ahead of SLIP leaves the BBU or has cut already. -/
theorem State.actReported_cuts (n : NodeAddr) (before : Bool) (s : State) : (s.actReported n before).bbu = s.bbu ∨
    (s.mode = .ready ∧ 0 < s.bbu.prev ∧ RecoveryCut s (s.actReported n before)) := by
  rcases State.actReported_eq n before s with h | ⟨k, -, h⟩ | ⟨k, -, h⟩
  · exact .inl (by rw [h])
  · rw [h]
    exact State.raise_cuts k _ s
  · rw [h]
    exact .inl (State.endCause_only k s .bbu (by decide))

theorem State.actReported_only (n : NodeAddr) (before : Bool) (s : State) :
    OnlyChanges [.nlc, .bbu, .esc, .log, .wear, .faults, .notices] s (s.actReported n before) := by
  rcases State.actReported_eq n before s with h | ⟨k, -, h⟩ | ⟨k, -, h⟩
  · rw [h]
    exact .refl _ s
  · rw [h]
    exact State.raise_only k _ s
  · rw [h]
    exact (State.endCause_only k s).mono (by decide)

/-- SLIP in a stored brake report (R85, R86). -/
theorem State.handOn_slip (hn : n = .bkf ∨ n = .bkr) (hs : (s.nodes.flagsOf n).map ReportFlags.slip = some true) (hm : s.mode ≠ .halted)
    (before : Bool) (since : Option Nat) : SlipTaken s ((s.actReported n before).handOn n since) := by
  have hcuts := State.actReported_cuts n before s
  have honly := State.actReported_only n before s
  rw [State.handOn_eq]
  generalize s.actReported n before = a at hcuts honly
  obtain ⟨hreports, -, -, -, hrelease⟩ := State.releaseReady_spec n a
  generalize a.releaseReady n = b at hreports hrelease
  have hflags : b.nodes.flagsOf n = s.nodes.flagsOf n := by
    rw [NodeTable.flagsOf_of_reports hreports, show a.nodes = s.nodes from honly .nodes (by decide)]
  have hslip : (b.nodes.flagsOf n).map ReportFlags.slip = some true := by rw [hflags, hs]
  have hrun : b.handRole n since = b.slipReport := by
    rcases hn with rfl | rfl
    · exact if_pos (by rw [hslip]; rfl)
    · exact if_pos (by rw [hslip]; rfl)
  have hbbbu : b.bbu = a.bbu := hrelease .bbu (by decide)
  have hsb : OnlyChanges [.nlc, .nodes, .bbu, .esc, .log, .wear, .faults, .notices] s b :=
    (honly.mono (by decide)).trans (hrelease.mono (by decide))
  have htake := State.slipReport_takes (s := b) (by rw [hsb .mode (by decide)]; exact hm)
  rw [hrun]
  generalize b.slipReport = t at htake
  have hbcuts : b.bbu = s.bbu ∨ (s.mode = .ready ∧ 0 < s.bbu.prev ∧ RecoveryCut s b) := by
    rw [hbbbu]
    exact hcuts.imp_right fun ⟨h1, h2, h3⟩ => ⟨h1, h2, h3.after (by rw [hbbbu]; exact ⟨rfl, rfl⟩)⟩
  refine ⟨?_, ?_, fun hr hp => ?_, fun hp => ?_⟩
  · rw [htake.hold, hsb.par (by decide)]
  · rw [htake.last, hsb .runTime (by decide)]
  · rcases hbcuts with hb | ⟨-, -, hb⟩
    · exact (htake.cuts ((hsb .mode (by decide)).trans hr) (by rw [hb]; exact hp)).before (hsb .demand (by decide))
    · exact hb.after (htake.idle hb.prev)
  · rcases hbcuts with hb | ⟨-, hpos, -⟩
    · rw [← hb]
      exact htake.idle (by rw [hb]; exact hp)
    · omega

/-! ### The battery -/

theorem State.raise_battery (k : FaultKind) (detail : Nat) (s : State) : (s.raise k detail).wearItem .battery = s.wearItem .battery := by
  have hcore := State.raiseCore_only k detail s
  have hcut (a : State) : (a.cutReblend false).wearItem .battery = a.wearItem .battery := by
    unfold State.cutReblend
    split
    · rw [State.applyBlend_eq, (State.saturation_id_only _ _).wearItem (by decide)]
      unfold State.driveBlend
      dsimp only
      generalize a.bbu.energies (a.blendResult .cut) a.demand.record.speed 0 = e
      have ha : OnlyChanges [.nlc, .bbu] a ((a.setBbu (a.bbu.blended (a.blendResult .cut) e)).offerBlend (a.blendResult .cut)) := by simp
      generalize (a.setBbu (a.bbu.blended (a.blendResult .cut) e)).offerBlend (a.blendResult .cut) = b at ha
      have hpads : (b.padWear e.whole.front e.whole.rear).wearItem .battery = b.wearItem .battery := by
        unfold State.padWear
        dsimp only
        rw [(State.padAxle_spec (by decide) _ _ _).2.2.1 _ (by decide) (by decide),
          (State.padAxle_spec (by decide) _ _ _).2.2.1 _ (by decide) (by decide)]
      generalize b.padWear e.whole.front e.whole.rear = c at hpads
      have hlog (f : FedBlend) : OnlyChanges [.log] c (if (a.blendResult .cut).trigger = .held then c else c.logBlend f) :=
        OnlyChanges.ite.mpr ⟨fun _ => .refl _ c, fun _ => by simp (disch := decide)⟩
      rw [(hlog _).wearItem (by decide), hpads, ha.wearItem (by decide)]
    · rfl
  cases hb : becameSafeStop s (s.raiseCore k detail) with
  | false =>
    rw [State.raise_rests hb]
    exact hcore.wearItem (by decide) _
  | true =>
    rw [State.raise_stops hb, (State.safeCause_engine _).only.wearItem (by decide), hcut, hcore.wearItem (by decide)]

theorem State.reserveWatch_battery (s : State) : s.reserveWatch.wearItem .battery = s.wearItem .battery := by
  have hset (b : Bool) : (s.setFaults { s.faults with reserve := b }).wearItem .battery = s.wearItem .battery := rfl
  unfold State.reserveWatch
  split
  · rfl
  · split
    · rfl
    · split
      · split
        · exact ((State.endCause_only _ _).wearItem (by decide) _).trans (hset _)
        · rfl
      · split
        · exact (State.raise_battery _ _ _).trans (hset _)
        · rfl

theorem KeepsEntry.raise (h : k ≠ .frictionSaturated) (hj : k ≠ j) (detail : Nat) (s : State) : KeepsEntry k s (s.raise j detail) :=
  (KeepsEntry.raiseCore hj detail s).trans (State.raise_entry h j detail s)

/-- The watch reads the faults as they stood ahead of work that keeps its entry. -/
theorem ReserveExamined.keeping (h : ReserveExamined u t) (hk : KeepsEntry .zoneReserve s u) (ht : u.runTime = s.runTime) : ReserveExamined s t := by
  obtain ⟨hr, he, hs⟩ := h
  rw [hk.reserve, hk.entry] at hs
  rw [hk.reserve] at he
  rw [hk.reserve, hk.entry, hk.response, ht] at hr
  exact ⟨hr, he, hs⟩

/-- A stored battery report, handed on (R57, R58, R171, R197). -/
structure BatteryTaken (r : BatReport) (since : Option Nat) (s t : State) : Prop where
  wears : ∀ e, since = some e →
    Worn .battery 100000000 (r.power.natAbs * min e (s.par .tStale) * batteryWeight r.soc r.temp) s t
  examined : s.mode ≠ .halted → ReserveExamined s t

theorem State.handOn_battery {r : BatReport} (hr : s.nodes.batReport = some r) (before : Bool) (since : Option Nat) :
    BatteryTaken r since s ((s.actReported .bat before).handOn .bat since) := by
  have honly := State.actReported_only .bat before s
  have hitem : (s.actReported .bat before).wearItem .battery = s.wearItem .battery := by
    rcases State.actReported_eq .bat before s with h | ⟨k, -, h⟩ | ⟨k, -, h⟩
    · rw [h]
    · rw [h]
      exact State.raise_battery _ _ s
    · rw [h]
      exact (State.endCause_only k s).wearItem (by decide) _
  have hkeeps : KeepsEntry .zoneReserve s (s.actReported .bat before) := by
    rcases State.actReported_eq .bat before s with h | ⟨k, hk, h⟩ | ⟨k, hk, h⟩
    · rw [h]
      exact .refl s
    all_goals
      have hz : FaultKind.zoneReserve ≠ k := by rintro rfl; exact absurd hk nofun
      rw [h]
    · exact .raise (by decide) hz _ s
    · exact .endCause hz s
  rw [State.handOn_eq]
  generalize s.actReported .bat before = a at honly hitem hkeeps
  obtain ⟨hreports, -, -, -, hrelease⟩ := State.releaseReady_spec .bat a
  generalize a.releaseReady .bat = b at hreports hrelease
  have hreport : b.nodes.batReport = some r := by
    rw [show b.nodes.batReport = a.nodes.batReport from congrArg (fun x => x.2.2.1) hreports, show a.nodes = s.nodes from honly .nodes (by decide)]
    exact hr
  have hsb : OnlyChanges [.nlc, .nodes, .bbu, .esc, .log, .wear, .faults, .notices] s b :=
    (honly.mono (by decide)).trans (hrelease.mono (by decide))
  have hbitem : b.wearItem .battery = s.wearItem .battery := (hrelease.wearItem (by decide) _).trans hitem
  have hbkeeps : KeepsEntry .zoneReserve s b := hkeeps.trans (.of_eq (hrelease .faults (by decide)))
  have hrun : b.handRole .bat since = (b.wearSince r since).reserveWatch := by rw [State.handRole, hreport]
  have hbc := State.wearSince_only r since b
  rw [hrun]
  refine ⟨fun e he => ?_, fun hm => ?_⟩
  · subst he
    have hworn : Worn .battery 100000000 (r.power.natAbs * min e (b.par .tStale) * batteryWeight r.soc r.temp) b (b.batteryWear r e) :=
      State.addEnergy_worn _ _ _ b
    rw [hsb.par (by decide)] at hworn
    exact (hworn.before hbitem).after (State.reserveWatch_battery _)
  · generalize b.wearSince r since = c at hbc
    have hcm : c.mode ≠ .halted := by rw [hbc .mode (by decide), hsb .mode (by decide)]; exact hm
    refine ReserveExamined.keeping (State.reserveWatch_spec hcm).examined (hbkeeps.trans (.of_eq (hbc .faults (by decide)))) ?_
    rw [hbc .runTime (by decide), hsb .runTime (by decide)]

end


/-! ## 6. The classes of a report (R47, R48, R50) -/

section
variable {s t u x : State} {j k : FaultKind} {bs : List Block} {n m : NodeAddr} {payload : List Byte} {retry : Bool}

/-- The FAULT flag of a payload (R57). -/
theorem NodeTable.faultFlag_store (h : reportedFault n = some k) (a : NodeTable) (payload : List Byte) :
    (a.store n payload).faultFlag n = (byteAt payload 0).getLsbD 2 := by
  cases n with
  | aux1 => exact absurd h nofun
  | aux2 => exact absurd h nofun
  | _ => rfl

/-- The SLIP flag of a brake payload (R85). -/
theorem NodeTable.slipFlag_store (h : n = .bkf ∨ n = .bkr) (a : NodeTable) (payload : List Byte) :
    ((a.store n payload).flagsOf n).map ReportFlags.slip = some ((byteAt payload 0).getLsbD 1) := by
  rcases h with rfl | rfl <;> rfl

theorem NodeTable.faultOver_of_reports {a b : NodeTable} (h : a.reports = b.reports) (n : NodeAddr) : a.faultOver n = b.faultOver n := by
  cases n <;> simp only [NodeTable.faultOver, NodeTable.faultFlag_of_reports h]

/-- A clear flag ends the cause, unless the other brake's flag is set (R57). -/
theorem NodeTable.faultOver_store {a : NodeTable} (hf : (byteAt payload 0).getLsbD 2 = false) (hf' : n = .bkf → a.faultFlag .bkr = false)
    (hr : n = .bkr → a.faultFlag .bkf = false) : (a.store n payload).faultOver n = true := by
  have hown {k : FaultKind} (h : reportedFault n = some k) : (a.store n payload).faultFlag n = false := by
    rw [NodeTable.faultFlag_store h, hf]
  cases n with
  | bkf =>
    have hother : (a.store .bkf payload).faultFlag .bkr = false := hf' rfl
    simp [NodeTable.faultOver, hown rfl, hother]
  | bkr =>
    have hother : (a.store .bkr payload).faultFlag .bkf = false := hr rfl
    simp [NodeTable.faultOver, hown rfl, hother]
  | aux1 => rfl
  | aux2 => rfl
  | _ => simp [NodeTable.faultOver, hown rfl]

/-- The reports stored are those of a table in which a node's payload has been stored. -/
structure StoresReport (n : NodeAddr) (payload : List Byte) (t : State) : Prop where
  eng : n = .eng → t.nodes.engReport = some (engReportOf payload)
  inv : n = .inv → t.nodes.invReport = some (invReportOf payload)
  bat : n = .bat → t.nodes.batReport = some (batReportOf payload)
  bkf : n = .bkf → t.nodes.bkfReport = some (brkReportOf payload)
  bkr : n = .bkr → t.nodes.bkrReport = some (brkReportOf payload)

theorem StoresReport.of_reports {a : NodeTable} (h : t.nodes.reports = (a.store n payload).reports) : StoresReport n payload t := by
  simp only [NodeTable.reports, Prod.mk.injEq] at h
  obtain ⟨h1, h2, h3, h4, h5⟩ := h
  constructor <;> rintro rfl
  exacts [h1, h2, h3, h4, h5]

/-- A stored report ends and raises as its flags say (R57). -/
theorem ReportHanded.reported {c : State} (h : ReportHanded n (s.nodes.faultFlag n) c t)
    (hreports : c.nodes.reports = (s.nodes.store n payload).reports) (hk : reportedFault n = some k) (hm : c.mode ≠ .halted) :
    ((byteAt payload 0).getLsbD 2 = true → s.nodes.faultFlag n = false →
      ∃ e ∈ t.faults.active, e.kind = k ∧ e.causePresent = true ∧ e.detail = nodeCode n) ∧
    ((byteAt payload 0).getLsbD 2 = false → (n = .bkf → s.nodes.faultFlag .bkr = false) → (n = .bkr → s.nodes.faultFlag .bkf = false) →
      ∀ e ∈ t.faults.active, e.kind = k → k.latched = true ∧ e.causePresent = false) := by
  have hflag : c.nodes.faultFlag n = (byteAt payload 0).getLsbD 2 := by
    rw [NodeTable.faultFlag_of_reports hreports, NodeTable.faultFlag_store hk]
  refine ⟨fun hset hclear => ?_, fun hclear hf hr e he hkind => ?_⟩
  · obtain ⟨e, he, hc, hd⟩ := h.faults.raised k hk hm (hflag.trans hset) hclear
    obtain ⟨hmem, hkind⟩ := State.mem_entriesOf.mp he
    exact ⟨e, hmem, hkind, hc, hd⟩
  · refine h.faults.ended k hk hm (hflag.trans hclear) ?_ e (State.mem_entriesOf.mpr ⟨he, hkind⟩)
    rw [NodeTable.faultOver_of_reports hreports, NodeTable.faultOver_store hclear hf hr]

theorem SlipTaken.before {c : State} (h : SlipTaken c t) (hc : OnlyChanges bs s c)
    (hb : ∀ b ∈ [Block.params, .runTime, .mode, .demand, .bbu], b ∉ bs := by decide) : SlipTaken s t := by
  have hbbu : c.bbu = s.bbu := hc .bbu (hb _ (by decide))
  have hmode : c.mode = s.mode := hc .mode (hb _ (by decide))
  refine ⟨?_, ?_, fun hm hp => ?_, fun hp => ?_⟩
  · rw [← hc.par (hb _ (by decide))]
    exact h.hold
  · rw [← hc .runTime (hb _ (by decide))]
    exact h.last
  · exact (h.cuts (hmode.trans hm) (by rw [hbbu]; exact hp)).before (hc .demand (hb _ (by decide)))
  · rw [← hbbu]
    exact h.idle (by rw [hbbu]; exact hp)

/-- The end of the presence faults keeps the entry of the reserve watch (R53). -/
theorem State.storeFresh_reserve (n : NodeAddr) (payload : List Byte) (s : State) : KeepsEntry .zoneReserve s (s.storeFresh n payload) := by
  let a := s.setNodes (s.nodes.store n payload)
  let b := a.setNode n { a.node n with lastAlive := some (aliveOf payload) }
  let c := b.setNode n ((b.node n).fresh b.runTime (b.par .tStale))
  have hc : KeepsEntry .zoneReserve s c := .of_eq rfl
  have hends (v : State) : KeepsEntry .zoneReserve v (v.endPresenceFaults n) := by
    unfold State.endPresenceFaults
    split
    · exact (KeepsEntry.endCause (by decide) v).trans (.endCause (by decide) _)
    · exact .endCause (by decide) v
    · exact .endCause (by decide) v
    · split
      · exact .refl v
      · exact .endCause (by decide) v
    · split
      · exact .refl v
      · exact .endCause (by decide) v
    · exact .refl v
    · exact .refl v
  have hrun : s.storeFresh n payload = if (b.node n).presence.overdue then c.endPresenceFaults n else c := rfl
  rw [hrun]
  split
  · exact hc.trans (hends c)
  · exact hc

/-- A fresh report as the Node Table takes it, from the link's work on (R48, R53, R57, R58). -/
structure FreshTaken (n : NodeAddr) (payload : List Byte) (s t : State) : Prop where
  nlc : s.nlc.bus ≠ .idle → t.nlc = { s.nlc with queue := t.nlc.queue }
  record : t.node n = { s.node n with
    lastAlive := some (aliveOf payload), presence := .present, freshTime := some s.runTime, repeats := 0,
    staleTimer := some (s.par .tStale), lostTimer := none, held := (t.node n).held }
  others : ∀ m, m ≠ n → t.node m = s.node m
  stores : StoresReport n payload t
  faults : ∀ k, reportedFault n = some k → s.mode ≠ .halted →
    ((byteAt payload 0).getLsbD 2 = true → s.nodes.faultFlag n = false →
      ∃ e ∈ t.faults.active, e.kind = k ∧ e.causePresent = true ∧ e.detail = nodeCode n) ∧
    ((byteAt payload 0).getLsbD 2 = false → (n = .bkf → s.nodes.faultFlag .bkr = false) → (n = .bkr → s.nodes.faultFlag .bkf = false) →
      ∀ e ∈ t.faults.active, e.kind = k → k.latched = true ∧ e.causePresent = false)
  slip : n = .bkf ∨ n = .bkr → (byteAt payload 0).getLsbD 1 = true → s.mode ≠ .halted → SlipTaken s t
  battery : n = .bat → BatteryTaken (batReportOf payload) (some (s.sinceFresh .bat)) s t

theorem BatteryTaken.before {c : State} {r : BatReport} {since : Option Nat} (h : BatteryTaken r since c t) (hc : OnlyChanges bs s c)
    (hk : KeepsEntry .zoneReserve s c) (hb : ∀ b ∈ [Block.params, .runTime, .mode, .wear], b ∉ bs := by decide) : BatteryTaken r since s t := by
  refine ⟨fun e he => ?_, fun hm => ?_⟩
  · have hw := h.wears e he
    rw [hc.par (hb _ (by decide))] at hw
    exact hw.before (hc.wearItem (hb _ (by decide)) _)
  · exact (h.examined (by rw [hc .mode (hb _ (by decide))]; exact hm)).keeping hk (hc .runTime (hb _ (by decide)))

theorem State.takeFresh_takes (n : NodeAddr) (payload : List Byte) (s : State) : FreshTaken n payload s (s.takeFresh n payload) := by
  have hstore := State.storeFresh_spec n payload s
  have hreserve := State.storeFresh_reserve n payload s
  rw [State.takeFresh_eq]
  generalize s.storeFresh n payload = c at hstore hreserve
  have honly := hstore.only
  have hmode : c.mode = s.mode := honly .mode (by decide)
  have hnlc : c.nlc = s.nlc := honly .nlc (by decide)
  have hhand := State.handOn_spec n (s.nodes.faultFlag n) (some (s.sinceFresh n)) c
  have hslip (hn : n = .bkf ∨ n = .bkr) (hs : (byteAt payload 0).getLsbD 1 = true) (hm : s.mode ≠ .halted) : SlipTaken s
      ((c.actReported n (s.nodes.faultFlag n)).handOn n (some (s.sinceFresh n))) := by
    refine (State.handOn_slip hn ?_ (by rw [hmode]; exact hm) _ _).before honly
    rw [NodeTable.flagsOf_of_reports hstore.reports, NodeTable.slipFlag_store hn, hs]
  have hbat (hn : n = .bat) : BatteryTaken (batReportOf payload) (some (s.sinceFresh .bat)) s
      ((c.actReported n (s.nodes.faultFlag n)).handOn n (some (s.sinceFresh n))) := by
    subst hn
    exact (State.handOn_battery ((StoresReport.of_reports hstore.reports).bat rfl) _ _).before honly hreserve
  generalize (c.actReported n (s.nodes.faultFlag n)).handOn n (some (s.sinceFresh n)) = t at hhand hslip hbat
  refine ⟨fun hb => ?_, ?_, fun m hm => (hhand.others m hm).trans (hstore.others m hm), .of_reports (hhand.reports.trans hstore.reports),
    fun k hk hm => hhand.reported hstore.reports hk (by rw [hmode]; exact hm), hslip, hbat⟩
  · have h := hhand.nlc (by rw [hnlc]; exact hb)
    rw [hnlc] at h
    exact h
  · rw [hhand.record, hstore.record]

/-- A repeat as the Node Table takes it (R48, R50, R58). -/
structure RepeatTaken (n : NodeAddr) (s t : State) : Prop where
  nlc : s.nlc.bus ≠ .idle → t.nlc = { s.nlc with queue := t.nlc.queue }
  repeats : (t.node n).repeats = min 255 ((s.node n).repeats + 1)
  freshTime : (t.node n).freshTime = (s.node n).freshTime
  fifth : (s.node n).presence = .present → 4 ≤ (s.node n).repeats → (t.node n).presence = .stale ∧ (t.node n).staleTimer = none ∧
    (t.node n).lostTimer = some (s.par .tLost)
  earlier : (s.node n).presence = .present → (s.node n).repeats < 4 → (t.node n).presence = .present ∧
    (t.node n).staleTimer = (s.node n).staleTimer
  battery : n = .bat → (s.node n).presence = .present → s.mode ≠ .halted → ReserveExamined s t
  absent : (s.node n).presence ≠ .present → (t.node n).presence = (s.node n).presence ∧ OnlyChanges [.nodes] s t

/-- The fifth repeat makes the record STALE (R50). -/
def State.staleAt (n : NodeAddr) (count : Nat) (s : State) : State := if 5 ≤ count then s.becomeStale n else s

/-- A record that becomes STALE: the reports, the reserve watch and the link but for its queue stand (R50, R55). -/
theorem State.becomeStale_keeps (n : NodeAddr) (s : State) : (s.becomeStale n).nodes.reports = s.nodes.reports ∧
    (s.nlc.bus ≠ .idle → (s.becomeStale n).nlc = { s.nlc with queue := (s.becomeStale n).nlc.queue }) ∧
    KeepsEntry .zoneReserve s (s.becomeStale n) := by
  unfold State.becomeStale
  dsimp only
  generalize hr : ({ s.node n with
    presence := .stale, staleTime := some s.runTime, staleTimer := none, lostTimer := some (s.par .tLost) } : NodeRecord) = r
  have hnodes : (s.setNode n r).nodes.reports = s.nodes.reports := by rw [State.setNode_nodes, NodeTable.reports_put]
  have hset : OnlyChanges [.nodes] s (s.setNode n r) := by simp
  generalize s.setNode n r = u at hnodes hset
  have hunlc : u.nlc = s.nlc := hset .nlc (by decide)
  have hkeeps : KeepsEntry .zoneReserve s u := .of_eq (hset .faults (by decide))
  split
  · have hraise := Offers.raise .batStale 3 u
    have hentry : KeepsEntry .zoneReserve u (u.raise .batStale 3) := .raise (by decide) (by decide) 3 u
    generalize u.raise .batStale 3 = v at hraise hentry
    refine ⟨by rw [hraise.nodes, hnodes], fun hb => ?_, hkeeps.trans hentry⟩
    rw [hraise.waiting (by rw [hunlc]; exact hb), hunlc]
  · exact ⟨hnodes, fun _ => by rw [hunlc], hkeeps⟩

/-- What a counted repeat leaves, ahead of what it hands on. -/
structure Stales (n : NodeAddr) (count : Nat) (s t : State) : Prop where
  record : t.node n = if 5 ≤ count then { s.node n with
    presence := .stale, staleTime := some s.runTime, staleTimer := none, lostTimer := some (s.par .tLost) } else s.node n
  reports : t.nodes.reports = s.nodes.reports
  nlc : s.nlc.bus ≠ .idle → t.nlc = { s.nlc with queue := t.nlc.queue }
  reserve : KeepsEntry .zoneReserve s t
  only : OnlyChanges [.nlc, .nodes, .bbu, .esc, .log, .wear, .faults, .notices] s t

theorem State.staleAt_spec (n : NodeAddr) (count : Nat) (s : State) : Stales n count s (s.staleAt n count) := by
  unfold State.staleAt
  by_cases h : 5 ≤ count
  · rw [if_pos h]
    obtain ⟨hself, -, -, -, honly⟩ := State.becomeStale_spec n s
    obtain ⟨hreports, hnlc, hkeeps⟩ := State.becomeStale_keeps n s
    exact ⟨by rw [if_pos h, hself], hreports, hnlc, hkeeps, honly⟩
  · rw [if_neg h]
    exact ⟨by rw [if_neg h], rfl, fun _ => rfl, .refl s, .refl _ s⟩

/-- A repeat of a PRESENT record: stored, counted and, at the fifth, STALE, before it is handed on (R48, R50). -/
def State.storeRepeat (n : NodeAddr) (payload : List Byte) (s : State) : State :=
  let u := s.setNodes (s.nodes.store n payload)
  (u.setNode n { u.node n with repeats := satAdd 255 (s.node n).repeats 1 }).staleAt n (satAdd 255 (s.node n).repeats 1)

theorem State.takeRepeat_present (h : (s.node n).presence = .present) :
    s.takeRepeat n payload = ((s.storeRepeat n payload).actReported n (s.nodes.faultFlag n)).handOn n none := if_pos h

theorem State.takeRepeat_other (h : (s.node n).presence ≠ .present) :
    s.takeRepeat n payload = s.setNode n { s.node n with repeats := satAdd 255 (s.node n).repeats 1 } := if_neg h

theorem State.takeRepeat_takes (n : NodeAddr) (payload : List Byte) (s : State) : RepeatTaken n s (s.takeRepeat n payload) := by
  by_cases hp : (s.node n).presence = .present
  · rw [State.takeRepeat_present hp]
    unfold State.storeRepeat
    dsimp only
    have hcount : satAdd 255 (s.node n).repeats 1 = min 255 ((s.node n).repeats + 1) := rfl
    generalize satAdd 255 (s.node n).repeats 1 = count at hcount
    have hstored : (s.setNodes (s.nodes.store n payload)).node n = s.node n := NodeTable.get_store s.nodes n n payload
    have hreports : ((s.setNodes (s.nodes.store n payload)).setNode n { (s.setNodes (s.nodes.store n payload)).node n with
        repeats := count }).nodes.reports = (s.nodes.store n payload).reports := by
      rw [State.setNode_nodes, NodeTable.reports_put]
      rfl
    have hset : OnlyChanges [.nodes] s ((s.setNodes (s.nodes.store n payload)).setNode n { (s.setNodes (s.nodes.store n payload)).node n with
        repeats := count }) := by simp
    have hrecord := State.node_setNode_same (s.setNodes (s.nodes.store n payload)) n { (s.setNodes (s.nodes.store n payload)).node n with
      repeats := count }
    rw [hstored] at hrecord hreports hset ⊢
    generalize (s.setNodes (s.nodes.store n payload)).setNode n { s.node n with repeats := count } = u at hrecord hreports hset
    have hstale := State.staleAt_spec n count u
    generalize u.staleAt n count = c at hstale
    have hhand := State.handOn_spec n (s.nodes.faultFlag n) none c
    have hbat (hn : n = .bat) : BatteryTaken (batReportOf payload) none c ((c.actReported n (s.nodes.faultFlag n)).handOn n none) := by
      subst hn
      exact State.handOn_battery ((StoresReport.of_reports (hstale.reports.trans hreports)).bat rfl) _ _
    generalize (c.actReported n (s.nodes.faultFlag n)).handOn n none = t at hhand hbat
    have hunlc : u.nlc = s.nlc := hset .nlc (by decide)
    have hnode := hhand.record
    rw [hstale.record, hrecord] at hnode
    have hsc : OnlyChanges [.nlc, .nodes, .bbu, .esc, .log, .wear, .faults, .notices] s c := (hset.mono (by decide)).trans hstale.only
    refine ⟨fun hb => ?_, ?_, ?_, fun _ h4 => ?_, fun _ h4 => ?_, fun hn _ hm => ?_, fun h => absurd hp h⟩
    · have hub : u.nlc.bus ≠ .idle := by rw [hunlc]; exact hb
      have hc := hstale.nlc hub
      rw [hhand.nlc (by rw [hc]; exact hub), hc, hunlc]
    · rw [hnode, ← hcount]
      split <;> rfl
    · rw [hnode]
      split <;> rfl
    · rw [hnode, if_pos (show 5 ≤ count by omega)]
      exact ⟨rfl, rfl, congrArg some (hset.par (by decide) _)⟩
    · rw [hnode, if_neg (show ¬5 ≤ count by omega)]
      exact ⟨hp, rfl⟩
    · exact ((hbat hn).examined (by rw [hsc .mode (by decide)]; exact hm)).keeping
        ((KeepsEntry.of_eq (hset .faults (by decide))).trans hstale.reserve) (hsc .runTime (by decide))
  · rw [State.takeRepeat_other hp]
    have hset : OnlyChanges [.nodes] s (s.setNode n { s.node n with repeats := satAdd 255 (s.node n).repeats 1 }) := by simp
    have hrecord := State.node_setNode_same s n { s.node n with repeats := satAdd 255 (s.node n).repeats 1 }
    generalize s.setNode n { s.node n with repeats := satAdd 255 (s.node n).repeats 1 } = t at hset hrecord
    refine ⟨fun _ => ?_, ?_, ?_, fun h => absurd h hp, fun h => absurd h hp, fun _ h => absurd h hp, fun _ => ⟨?_, hset⟩⟩
    · rw [hset .nlc (by decide)]
    all_goals rw [hrecord] <;> rfl

theorem State.takeReport_repeat (h : (s.node n).lastAlive = some (aliveOf payload)) : s.takeReport n payload false = s.takeRepeat n payload := by
  have hclass : classifyReport (s.node n).lastAlive (aliveOf payload) false = .again := by
    rw [h]
    exact (if_pos rfl).trans (if_neg nofun)
  rw [State.takeReport, hclass]

theorem State.takeReport_retransmission (h : (s.node n).lastAlive = some (aliveOf payload)) : s.takeReport n payload true = s := by
  have hclass : classifyReport (s.node n).lastAlive (aliveOf payload) true = .retransmission := by
    rw [h]
    exact (if_pos rfl).trans (if_pos rfl)
  rw [State.takeReport, hclass]

/-- A report changes the link by its queue alone, while the bus is not idle. -/
theorem State.handReport_link (n : NodeAddr) (retry : Bool) (payload : List Byte) (hb : s.nlc.bus ≠ .idle) :
    (s.handReport n retry payload).nlc = { s.nlc with queue := (s.handReport n retry payload).nlc.queue } := by
  by_cases hm : s.mode = .parked
  · rw [show s.handReport n retry payload = s from if_pos hm]
  · rw [State.handReport_awake hm]
    by_cases hl : (s.node n).lastAlive = some (aliveOf payload)
    · cases retry with
      | false =>
        rw [State.takeReport_repeat hl]
        exact (State.takeRepeat_takes n payload s).nlc hb
      | true => rw [State.takeReport_retransmission hl]
    · rw [State.takeReport_fresh hl]
      exact (State.takeFresh_takes n payload s).nlc hb

end

/-- Settles O43. -/
theorem reportsAreClassifiedAndStored : Obligations.ReportsAreClassifiedAndStored := by
  intro n retry payload w rest eod s hf hc hlen
  obtain ⟨x, hack, hsx, hxnlc, hrun, hwave⟩ := State.wave_report hf hc hlen
  refine ⟨s.wave w, hrun _, ?_⟩
  rw [hwave]
  have hlink := State.handReport_link n retry payload hack.bus
  have hmode : x.mode = s.mode := hsx .mode (by decide)
  have hnode (m : NodeAddr) : x.node m = s.node m := hsx.node (by decide) m
  have hnodes : x.nodes = s.nodes := hsx .nodes (by decide)
  have htime : x.runTime = s.runTime := hsx .runTime (by decide)
  have hpar (p) : x.par p = s.par p := hsx.par (by decide) p
  refine ⟨hack.of_eq (by rw [hlink]) (by rw [hlink]), by rw [hlink, hxnlc], fun hm hl => ?_, fun hm hl hr => ?_, fun hl hr => ?_⟩
  · -- A fresh report.
    rw [State.handReport_awake (by rw [hmode]; exact hm), State.takeReport_fresh (by rw [hnode]; exact hl)]
    have htake := State.takeFresh_takes n payload x
    generalize x.takeFresh n payload = t at htake
    have hrecord := htake.record
    have hbat (hn : n = .bat) := (htake.battery hn).before hsx (.of_eq (hsx .faults (by decide)))
    have hfaults := htake.faults
    rw [hnodes, hmode] at hfaults
    have hsince : x.sinceFresh .bat = ((s.node .bat).freshTime.map (elapsed s.runTime)).getD 0 := by
      unfold State.sinceFresh
      rw [hnode, htime]
      cases (s.node .bat).freshTime <;> rfl
    rw [hnode, htime, hpar] at hrecord
    refine ⟨by rw [hrecord], by rw [hrecord], by rw [hrecord], by rw [hrecord], by rw [hrecord], by rw [hrecord], htake.stores.eng,
      htake.stores.inv, htake.stores.bat, htake.stores.bkf, htake.stores.bkr, fun m hmn => (htake.others m hmn).trans (hnode m),
      hfaults, fun hn hs hm => ?_, fun hn => ?_⟩
    · obtain ⟨hhold, hlast, hcuts, -⟩ := (htake.slip hn hs (by rw [hmode]; exact hm)).before hsx
      refine ⟨hhold, hlast, fun hr hp => ?_⟩
      obtain ⟨hprev, htrigger, hrecovery, hforce⟩ := hcuts hr hp
      exact ⟨hprev, htrigger, hrecovery, hforce⟩
    · obtain ⟨hwears, hexamined⟩ := hbat hn
      have hworn := hwears _ rfl
      rw [hsince] at hworn
      exact ⟨hworn.value, hworn.remainder, hexamined⟩
  · -- A repeat.
    subst hr
    rw [State.handReport_awake (by rw [hmode]; exact hm), State.takeReport_repeat (by rw [hnode]; exact hl)]
    obtain ⟨-, hrepeats, hfresh, hfifth, hearlier, hbat, habsent⟩ := State.takeRepeat_takes n payload x
    rw [hnode] at hrepeats hfresh hfifth hearlier hbat habsent
    rw [hpar] at hfifth
    rw [hmode] at hbat
    refine ⟨hrepeats, hfresh, hfifth, hearlier, fun hn hp hh => (hbat hn hp hh).before hsx, fun hp => ?_⟩
    exact ⟨(habsent hp).1, (hsx.mono (by decide)).trans ((habsent hp).2.mono (by decide))⟩
  · -- A retransmission.
    subst hr
    have hstands : x.handReport n true payload = x := by
      by_cases hp : x.mode = .parked
      · exact if_pos hp
      · rw [State.handReport_awake hp, State.takeReport_retransmission (by rw [hnode]; exact hl)]
    rw [hstands]
    refine ⟨?_, hsx⟩
    rw [hxnlc]

end Sys2Proof.Machine

/-! Bus resets (O47). -/

namespace Sys2Proof.Machine

-- In order: proofs elaborated side by side wait for one another in too many threads.
set_option Elab.async false

/-! ## 1. The link check as a change of the NLC (R42, R43) -/

section
variable {s t u : State} {n : LinkController} {e : Entry} {front back : List Entry}

/-- Whether the NLC may leave the link. -/
def LinkController.mayLeave (n : LinkController) : Bool := n.link == .leaving && !n.breakDue && n.tx == .idle

/-- Whether the link may fall silent. -/
def LinkController.maySilence (n : LinkController) : Bool := n.link == .halting && !n.breakDue && n.tx.quiet && n.queue.isEmpty

/-- The NLC behind the link check. -/
def LinkController.checked (n : LinkController) : LinkController :=
  if n.mayLeave then { n with link := .away, bus := .waiting, ack := none }
  else if n.maySilence then { n with link := .silent, tx := .idle, bus := .waiting, ack := none }
  else n

theorem LinkController.mayLeave_iff : n.mayLeave = true ↔ n.link = .leaving ∧ n.breakDue = false ∧ n.tx = .idle := by
  simp [LinkController.mayLeave, and_assoc]

theorem LinkController.maySilence_iff :
    n.maySilence = true ↔ n.link = .halting ∧ n.breakDue = false ∧ n.tx.quiet = true ∧ n.queue = [] := by
  simp [LinkController.maySilence, and_assoc]

theorem Tx.quiet_iff {x : Tx} : x.quiet = true ↔ x = .idle ∨ x = .brk .released := by
  cases x with
  | brk p => cases p <;> simp [Tx.quiet]
  | _ => simp [Tx.quiet]

theorem State.linkCheck_eq (s : State) : s.linkCheck = s.setNlc s.nlc.checked := by
  unfold LinkController.checked
  by_cases ha : s.nlc.mayLeave = true
  · obtain ⟨hl, hd, ht⟩ := LinkController.mayLeave_iff.mp ha
    rw [if_pos ha, State.linkCheck_away hl hd ht]
  · rw [if_neg ha]
    by_cases hs : s.nlc.maySilence = true
    · obtain ⟨hl, hd, ht, hq⟩ := LinkController.maySilence_iff.mp hs
      rw [if_pos hs, State.linkCheck_silent hl hd ht hq]
    · rw [if_neg hs]
      unfold State.linkCheck
      split
      · next hl => exact if_neg fun h => ha (LinkController.mayLeave_iff.mpr ⟨hl, h⟩)
      · next hl =>
        exact if_neg fun h => hs (LinkController.maySilence_iff.mpr ⟨hl, h.1, h.2.1, List.isEmpty_iff.mp h.2.2⟩)
      all_goals rfl

theorem LinkController.checked_fields (n : LinkController) :
    n.checked = { n with link := n.checked.link, tx := n.checked.tx, bus := n.checked.bus, ack := n.checked.ack } := by
  unfold LinkController.checked
  split
  · rfl
  · split <;> rfl

theorem LinkController.checked_up (h : n.link = .up) : n.checked = n := by
  have ha : n.mayLeave = false := by simp [LinkController.mayLeave, h]
  have hs : n.maySilence = false := by simp [LinkController.maySilence, h]
  unfold LinkController.checked
  rw [if_neg (by rw [ha]; nofun), if_neg (by rw [hs]; nofun)]

theorem LinkController.checked_leaving (h : n.link = .leaving) :
    n.checked.tx = n.tx ∧ n.checked.link = if n.breakDue = false ∧ n.tx = .idle then .away else .leaving := by
  have hs : n.maySilence = false := by simp [LinkController.maySilence, h]
  unfold LinkController.checked
  by_cases ha : n.breakDue = false ∧ n.tx = .idle
  · rw [if_pos (LinkController.mayLeave_iff.mpr ⟨h, ha⟩), if_pos ha]
    exact ⟨rfl, rfl⟩
  · rw [if_neg fun hx => ha (LinkController.mayLeave_iff.mp hx).2, if_neg (by rw [hs]; nofun), if_neg ha]
    exact ⟨rfl, h⟩

theorem LinkController.checked_halting (h : n.link = .halting) :
    n.checked.link = (if n.breakDue = false ∧ n.queue = [] ∧ (n.checked.tx = .idle ∨ n.checked.tx = .brk .released) then .silent else .halting) ∧
      (n.tx = .idle → n.checked.tx = .idle) := by
  have ha : n.mayLeave = false := by simp [LinkController.mayLeave, h]
  unfold LinkController.checked
  rw [if_neg (by rw [ha]; nofun)]
  by_cases hs : n.maySilence = true
  · obtain ⟨-, hd, -, hq⟩ := LinkController.maySilence_iff.mp hs
    rw [if_pos hs]
    exact ⟨(if_pos ⟨hd, hq, .inl rfl⟩).symm, fun _ => rfl⟩
  · rw [if_neg hs]
    refine ⟨?_, id⟩
    rw [if_neg fun ⟨hd, hq, ht⟩ => hs (LinkController.maySilence_iff.mpr ⟨h, hd, Tx.quiet_iff.mpr ht, hq⟩)]
    exact h

theorem LinkController.checked_bus (hb : n.bus = .waiting) (ha : n.ack = none) : n.checked.bus = .waiting ∧ n.checked.ack = none := by
  unfold LinkController.checked
  split
  · exact ⟨rfl, rfl⟩
  · split
    · exact ⟨rfl, rfl⟩
    · exact ⟨hb, ha⟩

/-! ## 2. A frame of the 620 ABORTED (R29, R30, R34) -/

/-- An entry in flight and no other. -/
theorem find_inFlight (hi : e.inFlight = true) (ho : ∀ x ∈ front ++ back, x.inFlight = false) :
    (front ++ e :: back).find? (fun x => x.inFlight) = some e := by
  have hfront : front.find? (fun x => x.inFlight) = none := List.find?_eq_none.mpr fun x hx => by
    rw [ho x (List.mem_append_left _ hx)]
    nofun
  rw [List.find?_append, hfront, List.find?_cons_of_pos hi]
  rfl

/-- The queue once the only entry in flight has settled (R72). -/
theorem settleQueue_only (hi : e.inFlight = true) (ho : ∀ x ∈ front ++ back, x.inFlight = false) (remove : Bool) (attempts : Nat)
    (c : Completion) : settleQueue remove attempts c (front ++ e :: back) =
      if remove then front ++ back else front ++ { e with inFlight := false, attempts := attempts, last := some c } :: back := by
  have hfront : ∀ x ∈ front, x.inFlight = false := fun x hx => ho x (List.mem_append_left _ hx)
  have hback : ∀ x ∈ back, x.inFlight = false := fun x hx => ho x (List.mem_append_right _ hx)
  unfold settleQueue
  cases remove with
  | true =>
    have hkeep (l : List Entry) (hl : ∀ x ∈ l, x.inFlight = false) : l.filter (fun x => !x.inFlight) = l :=
      List.filter_eq_self.mpr fun x hx => by rw [hl x hx]; rfl
    rw [if_pos rfl, if_pos rfl, List.filter_append, List.filter_cons_of_neg (by rw [hi]; nofun), hkeep _ hfront, hkeep _ hback]
  | false =>
    have hkeep (l : List Entry) (hl : ∀ x ∈ l, x.inFlight = false) :
        l.map (fun x => if x.inFlight then { x with inFlight := false, attempts := attempts, last := some c } else x) = l := by
      refine (List.map_congr_left fun x hx => ?_).trans l.map_id'
      rw [hl x hx]
      rfl
    rw [if_neg nofun, if_neg nofun, List.map_append, List.map_cons, if_pos hi, hkeep _ hfront, hkeep _ hback]

/-- An entry in flight does not wait for its own target and kind (R69). -/
theorem any_waitsFor (hi : e.inFlight = true) : (front ++ e :: back).any (Entry.waitsFor e.target e.kind) =
    (front ++ back).any (Entry.waitsFor e.target e.kind) := by
  have he : Entry.waitsFor e.target e.kind e = false := by simp [Entry.waitsFor, hi]
  rw [List.any_append, List.any_cons, he, Bool.false_or, List.any_append]

/-- A frame of the 620 that a bus reset ends. -/
structure AbortsFrame (s t : State) : Prop where
  nlc : t.nlc = { s.nlc with queue := t.nlc.queue, tx := t.nlc.tx, bus := t.nlc.bus }
  quiet : s.nlc.tx.breaking = false → t.nlc.tx.breaking = false
  only : OnlyChanges [.hli, .nlc, .nodes] s t
  rests : (∀ bytes, s.nlc.tx ≠ .frame bytes) → (∀ c bytes since, s.nlc.tx ≠ .ended c bytes since) → t = s
  ends : ∀ (front back : List Entry) (e : Entry), (∃ bytes, s.nlc.tx = .frame bytes) ∨ (∃ c bytes since, s.nlc.tx = .ended c bytes since) →
    s.nlc.queue = front ++ e :: back → (∀ x ∈ front ++ back, x.inFlight = false) → e.inFlight = true →
    t.nlc.queue = (if e.fate = .returns ∧ (front ++ back).any (Entry.waitsFor e.target e.kind) = false
      then front ++ { e with inFlight := false, last := some .aborted } :: back else front ++ back) ∧
    t.nlc.tx = .idle ∧ t.node e.target = { s.node e.target with lastCode := some .aborted } ∧ ∀ m, m ≠ e.target → t.node m = s.node m

theorem State.settle_aborted_only (bus : Bus) (s : State) : OnlyChanges [.hli, .nlc, .nodes] s (s.settle .aborted bus) := by
  unfold State.settle
  split
  · exact .refl _ s
  · next e he =>
    have hset (r : NodeRecord) (x : LinkController) : OnlyChanges [.nlc, .nodes] s ((s.setNode e.target r).setNlc x) := by simp
    dsimp only
    rw [if_neg (show ¬Completion.aborted = .nakInvalid by decide)]
    split
    · exact OnlyChanges.trans ((hset _ _).mono (by decide)) ((State.releaseReply_only _ _ _ _).mono (by decide))
    · exact (hset _ _).mono (by decide)

theorem State.settle_aborted_nlc (bus : Bus) (s : State) :
    (s.settle .aborted bus).nlc = { s.nlc with
      queue := (s.settle .aborted bus).nlc.queue, tx := (s.settle .aborted bus).nlc.tx, bus := (s.settle .aborted bus).nlc.bus } := by
  cases he : s.nlc.queue.find? (fun x => x.inFlight) with
  | none =>
    have hrest : s.settle .aborted bus = s := by
      unfold State.settle
      rw [he]
    rw [hrest]
  | some e =>
    obtain ⟨-, -, hnlc, -, -⟩ := State.settle_spec (c := .aborted) (bus := bus) he
    rw [hnlc]
    rfl

theorem State.settle_aborted_breaking (bus : Bus) (h : s.nlc.tx.breaking = false) : (s.settle .aborted bus).nlc.tx.breaking = false := by
  cases he : s.nlc.queue.find? (fun x => x.inFlight) with
  | none =>
    have hrest : s.settle .aborted bus = s := by
      unfold State.settle
      rw [he]
    rw [hrest]
    exact h
  | some e =>
    obtain ⟨-, -, hnlc, -, -⟩ := State.settle_spec (c := .aborted) (bus := bus) he
    rw [hnlc]
    rfl

/-- ABORTED, at the only entry in flight (R29, R30, R69). -/
theorem State.settle_aborted_ends (bus : Bus) (hq : s.nlc.queue = front ++ e :: back) (ho : ∀ x ∈ front ++ back, x.inFlight = false)
    (hi : e.inFlight = true) :
    (s.settle .aborted bus).nlc.queue = (if e.fate = .returns ∧ (front ++ back).any (Entry.waitsFor e.target e.kind) = false
      then front ++ { e with inFlight := false, last := some .aborted } :: back else front ++ back) ∧
    (s.settle .aborted bus).nlc.tx = .idle ∧ (s.settle .aborted bus).node e.target = { s.node e.target with lastCode := some .aborted } ∧
    ∀ m, m ≠ e.target → (s.settle .aborted bus).node m = s.node m := by
  obtain ⟨hrecord, hothers, hnlc, -, -⟩ := State.settle_spec (c := .aborted) (bus := bus) (by rw [hq]; exact find_inFlight hi ho)
  have hholds (p : Presence) : e.holds .aborted p = false := rfl
  have hthird : e.thirdFailure .aborted = false := rfl
  have hleaves : e.leaves .aborted s.nlc.queue = (e.fate != .returns || (front ++ back).any (Entry.waitsFor e.target e.kind)) := by
    rw [Entry.leaves, hq, any_waitsFor hi]
    rfl
  rw [hholds, hthird] at hrecord
  rw [hholds, hleaves] at hnlc
  refine ⟨?_, by rw [hnlc], ?_, hothers⟩
  · rw [hnlc]
    show settleQueue _ e.attempts _ s.nlc.queue = _
    rw [hq, settleQueue_only hi ho]
    by_cases hr : e.fate = .returns
    · cases ha : (front ++ back).any (Entry.waitsFor e.target e.kind) <;> simp [hr]
    · simp [hr]
  · rw [hrecord]
    simp [NodeRecord.complete]

theorem State.abortFrame_aborts (s : State) : AbortsFrame s s.abortFrame := by
  have hsettle (hno : ¬((∀ bytes, s.nlc.tx ≠ .frame bytes) ∧ ∀ c bytes since, s.nlc.tx ≠ .ended c bytes since)) :
      AbortsFrame s (s.settle .aborted .waiting) :=
    ⟨State.settle_aborted_nlc _ s, State.settle_aborted_breaking _, State.settle_aborted_only _ s, fun h h' => absurd ⟨h, h'⟩ hno,
      fun _ _ _ _ hq ho hi => State.settle_aborted_ends _ hq ho hi⟩
  have hrest (hno : ¬((∃ bytes, s.nlc.tx = .frame bytes) ∨ (∃ c bytes since, s.nlc.tx = .ended c bytes since))) : AbortsFrame s s :=
    ⟨rfl, id, .refl _ s, fun _ _ => rfl, fun _ _ _ h => absurd h hno⟩
  unfold State.abortFrame
  split
  · next bytes h => exact hsettle fun hx => hx.1 bytes h
  · next c bytes since h => exact hsettle fun hx => hx.2 c bytes since h
  · next h => exact hrest (by rw [h]; rintro (⟨_, hx⟩ | ⟨_, _, _, hx⟩) <;> nomatch hx)
  · next h => exact hrest (by rw [h]; rintro (⟨_, hx⟩ | ⟨_, _, _, hx⟩) <;> nomatch hx)

end


/-! ## 3. A bus reset (R34, R35, R42, R43) -/

section
variable {s t u : State} {n : LinkController} {e : Entry} {front back : List Entry} {now : Time} {ns : Nat}

/-- The NLC behind a bus reset while it drives no break. -/
def LinkController.struck (now : Time) (n : LinkController) : LinkController := { n with bus := .waiting, ack := none }.noteReset now

/-- What a bus reset leaves behind, whoever drives it: the counts, the watch and the quiet timer (R34, R35). -/
structure CountsReset (s t : State) : Prop where
  busResets : t.nlc.busResets = min 65535 (s.nlc.busResets + 1)
  quiet : t.nlc.quiet = some 10000
  older : t.nlc.olderReset = s.nlc.newerReset
  newer : t.nlc.newerReset = some s.runTime
  ack : t.nlc.ack = none
  inbox : t.nlc.inbox = s.nlc.inbox
  crcErrors : t.nlc.crcErrors = s.nlc.crcErrors
  noise : t.nlc.noise = s.nlc.noise
  failures : t.nlc.failures = s.nlc.failures
  breakDue : t.nlc.breakDue = s.nlc.breakDue
  raised : s.thirdReset = true → s.mode ≠ .halted → t.Raised .linkErrors
  only : OnlyChanges [.hli, .nlc, .nodes, .bbu, .esc, .log, .wear, .faults, .notices] s t

/-- A bus reset while the NLC drives no break: what it makes of the frame in flight, and then the link check. -/
structure TakesReset (s t : State) : Prop where
  counts : CountsReset s t
  nlc : t.nlc = { s.abortFrame.nlc.struck s.runTime with queue := t.nlc.queue }.checked
  plain : s.thirdReset = false ∨ s.mode = .halted → t = (s.abortFrame.setNlc (s.abortFrame.nlc.struck s.runTime)).linkCheck

theorem State.thirdReset_congr (ho : t.nlc.olderReset = s.nlc.olderReset) (hr : t.runTime = s.runTime) : t.thirdReset = s.thirdReset := by
  unfold State.thirdReset
  rw [ho, hr]

/-- The raise of a third bus reset (R35). -/
def State.raiseThird (third : Bool) (detail : Nat) (s : State) : State := if third then s.raise .linkErrors detail else s

theorem State.raiseThird_only (third : Bool) (detail : Nat) (s : State) :
    OnlyChanges [.nlc, .bbu, .esc, .log, .wear, .faults, .notices] s (s.raiseThird third detail) :=
  OnlyChanges.ite.mpr ⟨fun _ => State.raise_only _ _ s, fun _ => .refl _ s⟩

theorem State.raiseThird_offers (third : Bool) (detail : Nat) (s : State) : Offers RaiseOffer s (s.raiseThird third detail) :=
  .ite (.raise _ _ s) (.refl s)

theorem State.raiseThird_plain {third : Bool} (h : third = false ∨ s.mode = .halted) (detail : Nat) : s.raiseThird third detail = s := by
  unfold State.raiseThird
  rcases h with h | h
  · rw [h]
    rfl
  · rw [State.raise_halted h, ite_self]

theorem State.busResets_takes (h : s.nlc.tx.breaking = false) : TakesReset s s.busResets := by
  have habort := State.abortFrame_aborts s
  have hrun : s.busResets = ((s.abortFrame.setNlc ({ s.abortFrame.nlc with
      bus := if s.abortFrame.nlc.tx.breaking then .busy else .waiting, ack := none }.noteReset s.abortFrame.runTime)).raiseThird
      (s.abortFrame.setNlc { s.abortFrame.nlc with
        bus := if s.abortFrame.nlc.tx.breaking then .busy else .waiting, ack := none }).thirdReset
      (({ s.abortFrame.nlc with
        bus := if s.abortFrame.nlc.tx.breaking then .busy else .waiting, ack := none }.noteReset s.abortFrame.runTime).busResets % 256)).linkCheck :=
    rfl
  rw [habort.quiet h] at hrun
  generalize ha : s.abortFrame = a at habort hrun
  have htime : a.runTime = s.runTime := habort.only .runTime (by decide)
  have hthird : (a.setNlc { a.nlc with bus := if false = true then .busy else .waiting, ack := none }).thirdReset = s.thirdReset := by
    refine State.thirdReset_congr ?_ htime
    show a.nlc.olderReset = _
    rw [habort.nlc]
  rw [hthird, htime] at hrun
  have hrun : s.busResets = ((a.setNlc (a.nlc.struck s.runTime)).raiseThird s.thirdReset ((a.nlc.struck s.runTime).busResets % 256)).linkCheck :=
    hrun
  rw [hrun]
  have hset := State.setNlc_only (a.nlc.struck s.runTime) a
  have hbnlc : (a.setNlc (a.nlc.struck s.runTime)).nlc = a.nlc.struck s.runTime := rfl
  generalize hb : a.setNlc (a.nlc.struck s.runTime) = b at hset hbnlc
  generalize (a.nlc.struck s.runTime).busResets % 256 = detail
  have hsb : OnlyChanges [.hli, .nlc, .nodes] s b := habort.only.trans (hset.mono (by decide))
  have hbmode : b.mode = s.mode := hsb .mode (by decide)
  -- The third one raises; the queue takes what that offers.
  have hc := b.raiseThird_only s.thirdReset detail
  have hcnlc := (b.raiseThird_offers s.thirdReset detail).waiting (by rw [hbnlc]; nofun)
  rw [hbnlc] at hcnlc
  have hplain (hp : s.thirdReset = false ∨ s.mode = .halted) : b.raiseThird s.thirdReset detail = b :=
    State.raiseThird_plain (by rw [hbmode]; exact hp) detail
  have hraised (h3 : s.thirdReset = true) (hm : s.mode ≠ .halted) : (b.raiseThird s.thirdReset detail).Raised .linkErrors := by
    rw [h3]
    exact State.raised_raise (by rw [hbmode]; exact hm) (by decide) _
  generalize b.raiseThird s.thirdReset detail = c at hc hcnlc hplain hraised
  have hcheck : c.linkCheck.nlc = c.nlc.checked := by rw [State.linkCheck_eq]; rfl
  have hkeep := c.nlc.checked_fields
  have hack : c.nlc.checked.ack = none := (LinkController.checked_bus (by rw [hcnlc]; rfl) (by rw [hcnlc]; rfl)).2
  have hfields : c.linkCheck.nlc = { a.nlc.struck s.runTime with
      queue := c.nlc.queue, link := c.linkCheck.nlc.link, tx := c.linkCheck.nlc.tx, bus := c.linkCheck.nlc.bus, ack := none } := by
    rw [hcheck, hkeep, hack, hcnlc]
  have hlast := State.linkCheck_only c
  have hqueue : c.linkCheck.nlc.queue = c.nlc.queue := by rw [hcheck, hkeep]
  have hstruck : a.nlc.struck s.runTime = { s.nlc with
      queue := a.nlc.queue, tx := a.nlc.tx, bus := .waiting, ack := none, busResets := min 65535 (s.nlc.busResets + 1),
      olderReset := s.nlc.newerReset, newerReset := some s.runTime, quiet := some 10000 } := by
    unfold LinkController.struck
    rw [habort.nlc]
    rfl
  refine ⟨?_, ?_, fun hp => ?_⟩
  · constructor
    case raised => exact fun h3 hm => State.Faulted.after (hraised h3 hm) hlast
    case only => exact (hsb.mono (by decide)).trans ((hc.mono (by decide)).trans (hlast.mono (by decide)))
    all_goals rw [hfields, hstruck]
  · rw [hqueue, ha, ← hcnlc, hcheck]
  · rw [hplain hp, ha, hb]

end


/-! ## 4. The runs of a bus reset (R33, R34) -/

section
variable {s t u : State} {n : LinkController} {e : Entry} {front back : List Entry} {ns : Nat}

/-- A bus reset by the NLC's own break, recognised at 160 µs and released at 192 µs (R33, R34). -/
structure DrivesReset (ns : Nat) (s t : State) : Prop where
  counts : CountsReset s t
  nlc : t.nlc = if ns < 192000 then { s.nlc.resetBy s.runTime with queue := t.nlc.queue, tx := .brk .recognised }
    else { s.nlc.resetBy s.runTime with queue := t.nlc.queue }.released
  plain : s.thirdReset = false ∨ s.mode = .halted → t.nlc.queue = s.nlc.queue ∧ OnlyChanges [.nlc] s t

/-- The NLC behind a break that goes on. -/
theorem State.busResets_breaks (h : s.nlc.tx = .brk .driving) :
    s.busResets.nlc = { s.nlc.resetBy s.runTime with queue := s.busResets.nlc.queue } ∧
    (s.thirdReset = true → s.mode ≠ .halted → s.busResets.Raised .linkErrors) ∧
    (s.thirdReset = false ∨ s.mode = .halted → s.busResets = s.setNlc (s.nlc.resetBy s.runTime)) ∧
    OnlyChanges [.nlc, .bbu, .esc, .log, .wear, .faults, .notices] s s.busResets := by
  have hrun : s.busResets = (s.setNlc (s.nlc.resetBy s.runTime)).raiseThird s.thirdReset ((s.nlc.resetBy s.runTime).busResets % 256) :=
    State.busResets_driving h
  have hset := State.setNlc_only (s.nlc.resetBy s.runTime) s
  have hnlc : (s.setNlc (s.nlc.resetBy s.runTime)).nlc = s.nlc.resetBy s.runTime := rfl
  generalize s.setNlc (s.nlc.resetBy s.runTime) = b at hrun hset hnlc
  generalize (s.nlc.resetBy s.runTime).busResets % 256 = detail at hrun
  have hmode : b.mode = s.mode := hset .mode (by decide)
  rw [hrun]
  refine ⟨?_, fun h3 hm => ?_, fun hp => State.raiseThird_plain (by rw [hmode]; exact hp) detail,
    (hset.mono (by decide)).trans (b.raiseThird_only _ _)⟩
  · have hq := (b.raiseThird_offers s.thirdReset detail).waiting (by rw [hnlc]; nofun)
    rw [hnlc] at hq
    exact hq
  · rw [h3]
    exact State.raised_raise (by rw [hmode]; exact hm) (by decide) _

theorem LinkController.released_fields (n : LinkController) : n.released = { n with
    tx := n.released.tx, bus := .waiting, link := n.released.link, ack := n.released.ack } := rfl

theorem CountsReset.of_resetBy (h : ∃ q tx bus link ack, t.nlc = { s.nlc.resetBy s.runTime with
    queue := q, tx := tx, bus := bus, link := link, ack := ack } ∧ ack = none)
    (hr : s.thirdReset = true → s.mode ≠ .halted → t.Raised .linkErrors)
    (ho : OnlyChanges [.nlc, .bbu, .esc, .log, .wear, .faults, .notices] s t) : CountsReset s t := by
  obtain ⟨q, tx, bus, link, ack, hnlc, rfl⟩ := h
  constructor
  case raised => exact hr
  case only => exact ho.mono (by decide)
  all_goals rw [hnlc]
  all_goals rfl

theorem State.resetRun_driving (h : s.nlc.tx = .brk .driving) (ns : Nat) : DrivesReset ns s (s.resetRun ns) := by
  have hrun : s.resetRun ns = s.breakRuns ns := if_pos (by rw [h]; rfl)
  rw [hrun]
  unfold State.breakRuns
  by_cases hns : breakNs ≤ ns
  · rw [if_pos hns]
    have hlate : ¬ns < 192000 := Nat.not_lt.mpr hns
    obtain ⟨-, honly, -, -, -, -, -, hdriven, hplain, hraised⟩ := s.finishBreak_ends
    have hnlc := hdriven h
    refine ⟨.of_resetBy ⟨_, _, _, _, _, hnlc, ?_⟩ (hraised h) honly, by rw [if_neg hlate]; exact hnlc, fun hp => ?_⟩
    · exact ite_self _
    · rw [hplain h hp]
      exact ⟨rfl, State.setNlc_only _ s⟩
  · rw [if_neg hns]
    simp only [h]
    have hearly : ns < 192000 := Nat.lt_of_not_le hns
    obtain ⟨hnlc, hraised, hplain, honly⟩ := State.busResets_breaks h
    have hset := State.setNlc_only { s.busResets.nlc with tx := .brk .recognised } s.busResets
    have htnlc : (s.busResets.setNlc { s.busResets.nlc with tx := .brk .recognised }).nlc =
        { s.nlc.resetBy s.runTime with queue := s.busResets.nlc.queue, tx := .brk .recognised } := by
      show ({ s.busResets.nlc with tx := .brk .recognised } : LinkController) = _
      rw [hnlc]
    generalize s.busResets.setNlc { s.busResets.nlc with tx := .brk .recognised } = t at hset htnlc
    refine ⟨.of_resetBy ⟨_, _, _, _, _, htnlc, rfl⟩ (fun h3 hm => State.Faulted.after (hraised h3 hm) hset) (honly.trans (hset.mono (by decide))),
      ?_, fun hp => ?_⟩
    · rw [if_pos hearly, htnlc]
    · have hb := hplain hp
      rw [hb] at hset
      refine ⟨?_, (State.setNlc_only _ s).trans hset⟩
      rw [htnlc, hb]
      rfl

theorem State.resetRun_recognised (h : s.nlc.tx = .brk .recognised) (ns : Nat) :
    s.resetRun ns = if ns < 192000 then s else s.setNlc s.nlc.released := by
  have hrun : s.resetRun ns = s.breakRuns ns := if_pos (by rw [h]; rfl)
  rw [hrun]
  unfold State.breakRuns
  by_cases hns : breakNs ≤ ns
  · rw [if_pos hns, if_neg (show ¬ns < 192000 from Nat.not_lt.mpr hns)]
    simp only [State.finishBreak, h]
    exact State.releaseBreak_eq s
  · rw [if_neg hns, if_pos (show ns < 192000 from Nat.lt_of_not_le hns)]
    simp only [h]

theorem State.resetRun_quiet (h : s.nlc.tx.breaking = false) (ns : Nat) : s.resetRun ns = s.busResets := if_neg (by rw [h]; nofun)

theorem Tx.breaking_cases (x : Tx) : x = .brk .driving ∨ x = .brk .recognised ∨ x.breaking = false := by
  cases x with
  | brk p => cases p <;> simp [Tx.breaking]
  | _ => exact .inr (.inr rfl)

/-- A level past the end of a wave is nothing to an NLC that has not left the link. -/
theorem State.levelAfter_linked (h : s.nlc.link ≠ .away) (dominant : Bool) : s.levelAfter dominant = s := by
  unfold State.levelAfter
  split
  · exact if_neg fun hx => h hx.2.1
  · rfl

theorem State.levelAfter_only (dominant : Bool) (s : State) : OnlyChanges [.waking] s (s.levelAfter dominant) := by
  rw [State.levelAfter_spec]
  simp

/-- BUS_RESET on a link that receives (R9, R34, R42). -/
theorem State.exec_busReset (hon : s.supply = .on) (hr : s.nlc.link.receives = true) (hns : 160000 ≤ ns) :
    exec (.busReset ns) s = .next ((s.resetRun ns).levelAfter (decide (160000 < ns))) := by
  refine (State.powered_on hon _).trans (congrArg _ ?_)
  unfold State.onLink
  rw [if_pos hr]
  simp only [State.dominantPulse, classifyPulse_brk_iff.mpr hns]
  rfl

theorem State.thirdReset_iff_old : s.thirdReset = true ↔ ∃ old, s.nlc.olderReset = some old ∧ elapsed s.runTime old ≤ 1000 := by
  unfold State.thirdReset
  cases s.nlc.olderReset with
  | none => simp
  | some old => simp

theorem State.thirdReset_apart (h : ∀ old, s.nlc.olderReset = some old → 1000 < elapsed s.runTime old) : s.thirdReset = false := by
  refine Bool.eq_false_iff.mpr fun h3 => ?_
  obtain ⟨old, ho, hle⟩ := State.thirdReset_iff_old.mp h3
  have := h old ho
  omega

end


/-! ## 5. Bus resets on a link that stays, and on one that ends (R9, R42, R43) -/

section
variable {s t u : State} {n : LinkController} {e : Entry} {front back : List Entry} {ns : Nat} {w : Wave}

/-- A link that is up stays up at a bus reset. -/
theorem State.linkCheck_struck (h : n.link = .up) (now : Time) (s : State) : (s.setNlc (n.struck now)).linkCheck = s.setNlc (n.struck now) :=
  State.linkCheck_stays (.inl h)

theorem LinkController.released_up (h : n.link ≠ .halting) : n.released = { n with tx := .brk .released, bus := .waiting } := by
  have hs : n.silences = false := by simp [LinkController.silences, h]
  unfold LinkController.released
  rw [hs]
  rfl

/-- A bus reset with nothing of the 620's own on a link that is up (R34). -/
theorem State.busResets_idle (ht : s.nlc.tx = .idle) (hl : s.nlc.link = .up) (h3 : s.thirdReset = false) :
    s.busResets = s.setNlc (s.nlc.struck s.runTime) := by
  have habort : s.abortFrame = s := s.abortFrame_aborts.rests (by rw [ht]; nofun) (by rw [ht]; nofun)
  have hplain := (State.busResets_takes (s := s) (by rw [ht]; rfl)).plain (.inl h3)
  rw [habort, State.linkCheck_struck hl] at hplain
  exact hplain

/-- BUS_RESET on a link that is up (R34, R35). -/
theorem State.busReset_up (hon : s.supply = .on) (hl : s.nlc.link = .up) (hns : 160000 ≤ ns) : ∃ t, exec (.busReset ns) s = .next t ∧
    t.nlc.inbox = s.nlc.inbox ∧ t.nlc.crcErrors = s.nlc.crcErrors ∧ t.nlc.noise = s.nlc.noise ∧
    t.nlc.failures = s.nlc.failures ∧
    (s.nlc.tx = .brk .recognised →
      t.nlc = (if ns < 192000 then s.nlc else { s.nlc with tx := .brk .released, bus := .waiting }) ∧ OnlyChanges [.nlc] s t) ∧
    (s.nlc.tx ≠ .brk .recognised → CountsReset s t ∧
      (s.nlc.tx = .brk .driving → t.nlc.tx = .brk (if ns < 192000 then .recognised else .released)) ∧
      (s.thirdReset = false →
        (s.nlc.tx = .idle → t.nlc.queue = s.nlc.queue ∧ t.nlc.tx = .idle ∧ t.nlc.bus = .waiting ∧ OnlyChanges [.nlc] s t) ∧
        (∀ (front back : List Entry) (e : Entry), (∃ bytes, s.nlc.tx = .frame bytes) ∨ (∃ c bytes ns, s.nlc.tx = .ended c bytes ns) →
          s.nlc.queue = front ++ e :: back → (∀ x ∈ front ++ back, x.inFlight = false) → e.inFlight = true →
          e.fate = .returns →
          t.nlc.queue = (if (front ++ back).any (Entry.waitsFor e.target e.kind) then front ++ back
            else front ++ { e with inFlight := false, last := some .aborted } :: back) ∧
          t.nlc.tx = .idle ∧ t.nlc.bus = .waiting ∧ t.node e.target = { s.node e.target with lastCode := some .aborted } ∧
          (∀ m, m ≠ e.target → t.node m = s.node m) ∧ OnlyChanges [.hli, .nlc, .nodes] s t))) := by
  have hexec := State.exec_busReset hon (by rw [hl]; rfl) hns
  -- The link stays up, so no level wakes the part.
  have hstays (hlink : (s.resetRun ns).nlc.link ≠ .away) : exec (.busReset ns) s = .next (s.resetRun ns) := by
    rw [hexec, State.levelAfter_linked hlink]
  rcases s.nlc.tx.breaking_cases with ht | ht | ht
  · have hdrives := State.resetRun_driving ht ns
    have hnlc : (s.resetRun ns).nlc = { s.nlc.resetBy s.runTime with
        queue := (s.resetRun ns).nlc.queue, tx := .brk (if ns < 192000 then .recognised else .released),
        bus := if ns < 192000 then .busy else .waiting } := by
      rw [hdrives.nlc]
      split
      · rfl
      · rw [LinkController.released_up (by show s.nlc.link ≠ _; rw [hl]; nofun)]
    refine ⟨s.resetRun ns, hstays (by rw [hnlc]; show s.nlc.link ≠ _; rw [hl]; nofun), hdrives.counts.inbox, hdrives.counts.crcErrors,
      hdrives.counts.noise, hdrives.counts.failures, fun h => absurd (ht.symm.trans h) nofun, fun _ => ⟨hdrives.counts, fun _ => by rw [hnlc],
      fun _ => ⟨fun h => absurd (ht.symm.trans h) nofun, fun front back e hx => ?_⟩⟩⟩
    rw [ht] at hx
    rcases hx with ⟨_, hx⟩ | ⟨_, _, _, hx⟩ <;> exact absurd hx nofun
  · have hrun := State.resetRun_recognised ht ns
    rw [LinkController.released_up (by rw [hl]; nofun)] at hrun
    have hnlc : (s.resetRun ns).nlc = if ns < 192000 then s.nlc else { s.nlc with tx := .brk .released, bus := .waiting } := by
      rw [hrun]
      split <;> rfl
    have honly : OnlyChanges [.nlc] s (s.resetRun ns) := by
      rw [hrun]
      exact OnlyChanges.ite.mpr ⟨fun _ => .refl _ s, fun _ => State.setNlc_only _ s⟩
    refine ⟨s.resetRun ns, hstays ?_, ?_, ?_, ?_, ?_, fun _ => ⟨hnlc, honly⟩, fun h => absurd ht h⟩
    · rw [hnlc]
      split
      all_goals
        show s.nlc.link ≠ _
        rw [hl]
        nofun
    all_goals
      rw [hnlc]
      split <;> rfl
  · have htake := State.busResets_takes ht
    have hrun := State.resetRun_quiet ht ns
    have habort := s.abortFrame_aborts
    have hup : { s.abortFrame.nlc.struck s.runTime with queue := s.busResets.nlc.queue }.link = .up := by
      show s.abortFrame.nlc.link = .up
      rw [habort.nlc]
      exact hl
    have hnlc := htake.nlc
    rw [LinkController.checked_up hup] at hnlc
    rw [hrun] at hstays
    refine ⟨s.busResets, hstays (by rw [hnlc]; rw [hup]; nofun), htake.counts.inbox, htake.counts.crcErrors,
      htake.counts.noise, htake.counts.failures, fun h => by rw [h] at ht; exact absurd ht nofun, fun _ => ⟨htake.counts,
      fun h => by rw [h] at ht; exact absurd ht nofun, fun h3 => ⟨fun hi => ?_, fun front back e hx hq ho hf hr => ?_⟩⟩⟩
    · rw [State.busResets_idle hi hl h3]
      exact ⟨rfl, hi, rfl, State.setNlc_only _ s⟩
    · obtain ⟨hqueue, htx, hrecord, hothers⟩ := habort.ends front back e hx hq ho hf
      have honly := habort.only
      have hplain := htake.plain (.inl h3)
      generalize s.abortFrame = a at habort hqueue htx hrecord hothers honly hplain
      have halink : a.nlc.link = .up := by rw [habort.nlc]; exact hl
      rw [State.linkCheck_struck halink] at hplain
      have hset := State.setNlc_only (a.nlc.struck s.runTime) a
      have hbnlc : (a.setNlc (a.nlc.struck s.runTime)).nlc = a.nlc.struck s.runTime := rfl
      rw [hplain]
      generalize a.setNlc (a.nlc.struck s.runTime) = b at hset hbnlc
      refine ⟨?_, by rw [hbnlc]; exact htx, by rw [hbnlc]; rfl, (hset.node (by decide) _).trans hrecord,
        fun m hm => (hset.node (by decide) m).trans (hothers m hm), honly.trans (hset.mono (by decide))⟩
      rw [hbnlc]
      refine hqueue.trans ?_
      cases (front ++ back).any (Entry.waitsFor e.target e.kind) <;> simp [hr]

/-! ### Two runs in one wave (R34, R36) -/

/-- A wave of pulses of which none is a break, and one with a break in it. -/
theorem wave_split {k : Nat} (h : (w.filter (fun p => decide (160000 ≤ p.width))).length = k + 1) :
    ∃ (a : Wave) (p : Pulse) (b : Wave), w = a ++ p :: b ∧ hasBreak a = false ∧ 160000 ≤ p.width ∧
      (b.filter (fun p => decide (160000 ≤ p.width))).length = k := by
  cases hf : w.filter (fun p => decide (160000 ≤ p.width)) with
  | nil => rw [hf] at h; exact absurd h nofun
  | cons p l =>
    obtain ⟨a, b, hw, ha, hp, hb⟩ := List.filter_eq_cons_iff.mp hf
    refine ⟨a, p, b, hw, ?_, of_decide_eq_true hp, ?_⟩
    · refine List.any_eq_false.mpr fun x hx => ?_
      have := ha x hx
      rw [beq_iff_eq, classifyPulse_brk_iff]
      simpa using this
    · rw [hb]
      rw [hf] at h
      simpa using h

/-- A wave without one. -/
theorem hasBreak_none (h : (w.filter (fun p => decide (160000 ≤ p.width))).length = 0) : hasBreak w = false := by
  refine List.any_eq_false.mpr fun x hx => ?_
  have := List.filter_eq_nil_iff.mp (List.length_eq_zero_iff.mp h) x hx
  rw [beq_iff_eq, classifyPulse_brk_iff]
  simpa using this

theorem noiseCount_append (a b : Wave) : noiseCount (a ++ b) = noiseCount a + noiseCount b := by
  simp [noiseCount]

theorem noiseCount_break {p : Pulse} (h : 160000 ≤ p.width) (b : Wave) : noiseCount (p :: b) = noiseCount b := by
  simp [noiseCount, classifyPulse_brk_iff.mpr h]

/-- The NLC with noise counted (R22). -/
def LinkController.noisy (k : Nat) (n : LinkController) : LinkController := { n with noise := min 65535 (n.noise + k) }

/-- A later run of 160 µs on a link that is up, with nothing of the 620's own (R34). -/
theorem State.laterPulse_break {p : Pulse} (hp : 160000 ≤ p.width) (ht : n.tx = .idle) (hl : n.link = .up) (ho : n.olderReset = none)
    (s : State) : (s.setNlc n).laterPulse p = s.setNlc (n.struck s.runTime) := by
  have h3 : (s.setNlc n).thirdReset = false := State.thirdReset_apart fun old h => absurd (ho.symm.trans h) nofun
  unfold State.laterPulse
  rw [if_pos (show (s.setNlc n).nlc.link.receives = true by show n.link.receives = true; rw [hl]; rfl)]
  simp only [classifyPulse_brk_iff.mpr hp]
  rw [State.resetRun_quiet (show n.tx.breaking = false by rw [ht]; rfl), State.busResets_idle ht hl h3]
  rfl

/-- Noise alone on a link that is up (R22). -/
theorem State.laterPulses_noise (hb : hasBreak w = false) (hl : n.link = .up) (hn : n.noise ≤ 65535) (s : State) :
    w.foldl State.laterPulse (s.setNlc n) = s.setNlc (n.noisy (noiseCount w)) :=
  State.laterPulses_unbroken hb (show n.link.receives = true by rw [hl]; rfl) hn

/-- Two runs in the wave of one frame are two bus resets (R34, R36). -/
theorem State.wave_twoResets (hf : s.Follows) (hl : s.nlc.link = .up) (hr : readFrame w = .brk)
    (h2 : (w.filter (fun p => decide (160000 ≤ p.width))).length = 2) (ho : s.nlc.olderReset = none) (hn : s.nlc.newerReset = none) :
    s.wave w = s.setNlc { s.nlc with
      noise := min 65535 (s.nlc.noise + noiseCount w), bus := .waiting, ack := none,
      busResets := min 65535 (s.nlc.busResets + 2), olderReset := some s.runTime, newerReset := some s.runTime, quiet := some 10000 } := by
  obtain ⟨a, p, b, rfl, ha, hp, hb⟩ := wave_split h2
  obtain ⟨b, q, c, rfl, hbb, hq, hc⟩ := wave_split hb
  have hcc := hasBreak_none hc
  have hsettled : s.settledBy (a ++ p :: (b ++ q :: c)) = none := by simp [State.settledBy, hf.quiet]
  have hheard : ∀ x ∈ a, heardFirst none x = true := fun x hx => by
    have := List.any_eq_false.mp ha x hx
    simpa [heardFirst] using this
  have hbreak : ¬heardFirst none p = true := by simp [heardFirst, classifyPulse_brk_iff.mpr hp]
  have htake : (a ++ p :: (b ++ q :: c)).takeWhile (heardFirst none) = a := by
    rw [List.takeWhile_append_of_pos hheard, List.takeWhile_cons_of_neg hbreak, List.append_nil]
  have hdrop : (a ++ p :: (b ++ q :: c)).dropWhile (heardFirst none) = p :: (b ++ q :: c) := by
    rw [List.dropWhile_append_of_pos hheard, List.dropWhile_cons_of_neg hbreak]
  have hframe : (s.countNoise (noiseCount a)).frameOnBus (a ++ p :: (b ++ q :: c)) = s.setNlc (s.nlc.noisy (noiseCount a)) := by
    rw [State.frameOnBus_follows hf]
    simp only [State.followFrame, hr]
    rfl
  have hcount : noiseCount (a ++ p :: (b ++ q :: c)) = noiseCount a + (noiseCount b + noiseCount c) := by
    rw [noiseCount_append, noiseCount_break hp, noiseCount_append, noiseCount_break hq]
  have hpulses : (p :: (b ++ q :: c)).foldl State.laterPulse (s.setNlc (s.nlc.noisy (noiseCount a))) = s.setNlc
      (((((s.nlc.noisy (noiseCount a)).struck s.runTime).noisy (noiseCount b)).struck s.runTime).noisy (noiseCount c)) := by
    rw [List.foldl_cons, State.laterPulse_break hp (by exact hf.quiet) (by exact hl) (by exact ho), List.foldl_append,
      State.laterPulses_noise hbb (by exact hl) (Nat.min_le_left ..), List.foldl_cons,
      State.laterPulse_break hq (by exact hf.quiet) (by exact hl) (by exact hn), State.laterPulses_noise hcc (by exact hl) (Nat.min_le_left ..)]
  have hnoise (x i j k : Nat) : min 65535 (min 65535 (min 65535 (x + i) + j) + k) = min 65535 (x + (i + (j + k))) := by omega
  have hresets (x : Nat) : min 65535 (min 65535 (x + 1) + 1) = min 65535 (x + 2) := by omega
  unfold State.wave
  dsimp only
  rw [hsettled, htake, hdrop, hframe, hpulses, State.levelAfter_linked (by show s.nlc.link ≠ _; rw [hl]; nofun), hcount, ← hnoise, ← hresets]
  rfl

end


section
variable {s t u : State} {n : LinkController} {e : Entry} {front back : List Entry} {ns : Nat} {w : Wave}

/-- What a bus reset leaves of a link that is being left or falls silent, ahead of the level behind it (R42, R43). -/
structure EndsLink (ns : Nat) (s t : State) : Prop where
  counts : s.nlc.tx ≠ .brk .recognised → CountsReset s t
  recognised : s.nlc.tx = .brk .recognised → t.nlc = (if ns < 192000 then s.nlc else s.nlc.released) ∧ OnlyChanges [.nlc] s t
  breaks : s.nlc.tx.breaking = true →
    t.nlc.tx.breaking = decide (ns < 192000) ∧ (192000 ≤ ns → t.nlc.tx = .brk .released ∨ t.nlc.link = .silent)
  leaving : s.nlc.link = .leaving → t.nlc.link = if s.nlc.breakDue = false ∧ t.nlc.tx = .idle then .away else .leaving
  halting : s.nlc.link = .halting → t.nlc.link =
    if s.nlc.breakDue = false ∧ t.nlc.queue = [] ∧ (t.nlc.tx = .idle ∨ t.nlc.tx = .brk .released) then .silent else .halting
  only : OnlyChanges [.hli, .nlc, .nodes, .bbu, .esc, .log, .wear, .faults, .notices] s t
  plain : s.thirdReset = false ∨ s.mode = .halted →
    ((∀ bytes, s.nlc.tx ≠ .frame bytes) → (∀ c bytes since, s.nlc.tx ≠ .ended c bytes since) →
      t.nlc.queue = s.nlc.queue ∧ OnlyChanges [.nlc] s t) ∧
    (∀ (front back : List Entry) (e : Entry), (∃ bytes, s.nlc.tx = .frame bytes) ∨ (∃ c bytes since, s.nlc.tx = .ended c bytes since) →
      s.nlc.queue = front ++ e :: back → (∀ x ∈ front ++ back, x.inFlight = false) → e.inFlight = true →
      t.nlc.queue = (if e.fate = .returns ∧ (front ++ back).any (Entry.waitsFor e.target e.kind) = false
        then front ++ { e with inFlight := false, last := some .aborted } :: back else front ++ back) ∧
      t.nlc.tx = .idle ∧ t.nlc.bus = .waiting ∧ t.node e.target = { s.node e.target with lastCode := some .aborted } ∧
      (∀ m, m ≠ e.target → t.node m = s.node m) ∧ OnlyChanges [.hli, .nlc, .nodes] s t)

theorem LinkController.silences_iff : n.silences = true ↔ n.link = .halting ∧ n.breakDue = false ∧ n.queue = [] := by
  simp [LinkController.silences, and_assoc]

/-- A break that the NLC releases leaves the link, or silences it (R33, R43). -/
theorem LinkController.released_link (n : LinkController) :
    (n.link = .leaving → n.released.link = .leaving ∧ n.released.tx = .brk .released) ∧
    (n.link = .halting → n.released.link = if n.breakDue = false ∧ n.queue = [] ∧ (n.released.tx = .idle ∨ n.released.tx = .brk .released)
      then .silent else .halting) ∧
    (n.released.tx = .brk .released ∨ n.released.link = .silent) := by
  unfold LinkController.released
  by_cases hs : n.silences = true
  · obtain ⟨hl, hd, hq⟩ := LinkController.silences_iff.mp hs
    simp [hs, hl, hd, hq]
  · have hno : ¬(n.link = .halting ∧ n.breakDue = false ∧ n.queue = []) := fun h => hs (LinkController.silences_iff.mpr h)
    rw [Bool.not_eq_true] at hs
    rw [hs]
    refine ⟨fun h => ⟨h, rfl⟩, fun h => ?_, .inl rfl⟩
    exact h.trans (if_neg fun hx => hno ⟨h, hx.1, hx.2.1⟩).symm

/-- A break that is released does not leave the link. -/
theorem LinkController.released_stays (h : n.link ≠ .away) : n.released.link ≠ .away := by
  unfold LinkController.released
  dsimp only
  split
  · nofun
  · exact h

theorem Tx.not_quiet_of_breaking {x : Tx} (h : x.breaking = true) : ¬(x = .idle ∨ x = .brk .released) := by
  rintro (rfl | rfl) <;> exact absurd h nofun

/-- The NLC drives a break: it releases it, or it goes on (R33, R34). -/
theorem State.resetRun_breaks {n t : LinkController} {ns : Nat} (ht : t = if ns < 192000 then { n with queue := t.queue, tx := .brk .recognised }
      else { n with queue := t.queue }.released) :
    (t.tx.breaking = decide (ns < 192000) ∧ (192000 ≤ ns → t.tx = .brk .released ∨ t.link = .silent)) ∧
    (n.link = .leaving → t.link = if n.breakDue = false ∧ t.tx = .idle then .away else .leaving) ∧
    (n.link = .halting → t.link = if n.breakDue = false ∧ t.queue = [] ∧ (t.tx = .idle ∨ t.tx = .brk .released) then .silent else .halting) := by
  by_cases hns : ns < 192000
  · rw [if_pos hns] at ht
    have htx : t.tx = .brk .recognised := by rw [ht]
    have hlink : t.link = n.link := by rw [ht]
    refine ⟨⟨by rw [htx, decide_eq_true hns]; rfl, fun h => absurd hns (Nat.not_lt.mpr h)⟩, fun h => ?_, fun h => ?_⟩
    · rw [hlink, h, htx, if_neg fun hx => absurd hx.2 nofun]
    · rw [hlink, h, htx, if_neg fun hx => absurd hx.2.2 (Tx.not_quiet_of_breaking rfl)]
  · rw [if_neg hns] at ht
    obtain ⟨hleaving, hhalting, hbreak⟩ := LinkController.released_link { n with queue := t.queue }
    have hoff := LinkController.released_breaking { n with queue := t.queue }
    rw [← ht] at hleaving hhalting hbreak hoff
    refine ⟨⟨by rw [hoff, decide_eq_false hns], fun _ => hbreak⟩, fun h => ?_, hhalting⟩
    obtain ⟨hl, htx⟩ := hleaving h
    rw [hl, htx, if_neg fun hx => absurd hx.2 nofun]

theorem State.resetRun_ends (hl : s.nlc.link = .leaving ∨ s.nlc.link = .halting) (ns : Nat) : EndsLink ns s (s.resetRun ns) := by
  have hnoframe (h : s.nlc.tx.breaking = true) :
      ¬((∃ bytes, s.nlc.tx = .frame bytes) ∨ (∃ c bytes since, s.nlc.tx = .ended c bytes since)) := by
    rintro (⟨_, hx⟩ | ⟨_, _, _, hx⟩) <;> rw [hx] at h <;> exact absurd h nofun
  rcases s.nlc.tx.breaking_cases with ht | ht | ht
  · have hdrives := State.resetRun_driving ht ns
    generalize s.resetRun ns = t at hdrives
    obtain ⟨hbreaks, hleaving, hhalting⟩ := State.resetRun_breaks hdrives.nlc
    exact ⟨fun _ => hdrives.counts, fun h => absurd (ht.symm.trans h) nofun, fun _ => hbreaks, hleaving, hhalting, hdrives.counts.only,
      fun hp => ⟨fun _ _ => hdrives.plain hp, fun _ _ _ h => absurd h (hnoframe (by rw [ht]; rfl))⟩⟩
  · have hrun := State.resetRun_recognised ht ns
    have hnlc : (s.resetRun ns).nlc = if ns < 192000 then s.nlc else s.nlc.released := by
      rw [hrun]
      split <;> rfl
    have honly : OnlyChanges [.nlc] s (s.resetRun ns) := by
      rw [hrun]
      exact OnlyChanges.ite.mpr ⟨fun _ => .refl _ s, fun _ => State.setNlc_only _ s⟩
    generalize s.resetRun ns = t at hnlc honly
    have hqueue : t.nlc.queue = s.nlc.queue := by
      rw [hnlc]
      split <;> rfl
    have hform : t.nlc = if ns < 192000 then { s.nlc with queue := t.nlc.queue, tx := .brk .recognised }
        else { s.nlc with queue := t.nlc.queue }.released := by
      rw [hqueue, ← ht]
      exact hnlc
    obtain ⟨hbreaks, hleaving, hhalting⟩ := State.resetRun_breaks hform
    exact ⟨fun h => absurd ht h, fun _ => ⟨hnlc, honly⟩, fun _ => hbreaks, hleaving, hhalting, honly.mono (by decide),
      fun _ => ⟨fun _ _ => ⟨hqueue, honly⟩, fun _ _ _ h => absurd h (hnoframe (by rw [ht]; rfl))⟩⟩
  · rw [State.resetRun_quiet ht]
    have htake := State.busResets_takes ht
    have habort := s.abortFrame_aborts
    generalize s.busResets = t at htake
    obtain ⟨hcounts, hnlc, hplain⟩ := htake
    generalize s.abortFrame = a at habort hnlc hplain
    have hform : ({ a.nlc.struck s.runTime with queue := t.nlc.queue } : LinkController).link = s.nlc.link ∧
        ({ a.nlc.struck s.runTime with queue := t.nlc.queue } : LinkController).breakDue = s.nlc.breakDue := by
      show a.nlc.link = _ ∧ a.nlc.breakDue = _
      rw [habort.nlc]
      exact ⟨rfl, rfl⟩
    have hqueue : ({ a.nlc.struck s.runTime with queue := t.nlc.queue } : LinkController).queue = t.nlc.queue := rfl
    have hatx : ({ a.nlc.struck s.runTime with queue := t.nlc.queue } : LinkController).tx = a.nlc.tx := rfl
    have hbus := LinkController.checked_bus (n := { a.nlc.struck s.runTime with queue := t.nlc.queue }) rfl rfl
    have hleave := LinkController.checked_leaving (n := { a.nlc.struck s.runTime with queue := t.nlc.queue })
    have hhalt := LinkController.checked_halting (n := { a.nlc.struck s.runTime with queue := t.nlc.queue })
    generalize ({ a.nlc.struck s.runTime with queue := t.nlc.queue } : LinkController) = m at hform hqueue hatx hbus hleave hhalt hnlc
    obtain ⟨hmlink, hmdue⟩ := hform
    rw [← hnlc, hmlink, hmdue] at hleave hhalt
    rw [← hnlc] at hbus
    rw [hqueue] at hhalt
    have htx (h : a.nlc.tx = .idle) : t.nlc.tx = .idle := by
      rcases hl with hl | hl
      · rw [(hleave hl).1, hatx, h]
      · exact (hhalt hl).2 (hatx.trans h)
    refine ⟨fun _ => hcounts, fun h => by rw [h] at ht; exact absurd ht nofun, fun h => by rw [h] at ht; exact absurd ht nofun, fun h => ?_,
      fun h => (hhalt h).1, hcounts.only, fun hp => ?_⟩
    · obtain ⟨h1, h2⟩ := hleave h
      rw [h2, h1]
    · have hend := hplain hp
      have hset := State.setNlc_only (a.nlc.struck s.runTime) a
      have hbq : (a.setNlc (a.nlc.struck s.runTime)).nlc.queue = a.nlc.queue := rfl
      generalize a.setNlc (a.nlc.struck s.runTime) = b at hend hset hbq
      have hlast := State.linkCheck_only b
      have hq : t.nlc.queue = a.nlc.queue := by
        rw [hend, State.linkCheck_queue, hbq]
      have hat : OnlyChanges [.nlc] a t := by
        rw [hend]
        exact hset.trans hlast
      refine ⟨fun h1 h2 => ?_, fun front back e hx hqe ho hi => ?_⟩
      · have hrest := habort.rests h1 h2
        rw [hrest] at hq hat
        exact ⟨hq, hat⟩
      · obtain ⟨hqueue', htx', hrecord, hothers⟩ := habort.ends front back e hx hqe ho hi
        exact ⟨hq.trans hqueue', htx htx', hbus.1, (hat.node (by decide) _).trans hrecord, fun m hm => (hat.node (by decide) m).trans (hothers m hm),
          habort.only.trans (hat.mono (by decide))⟩

end

/-- Settles O47. -/
theorem busResetReturnsTheEntryInFlight : Obligations.BusResetReturnsTheEntryInFlight := by
  refine ⟨fun ns s hon hl hns => ?_, fun ns s hon hl hns => ?_⟩
  · obtain ⟨t, hrun, hinbox, hcrc, hnoise, hfailures, hrecognised, hcounted⟩ := State.busReset_up hon hl hns
    refine ⟨t, hrun, hinbox, hcrc, hnoise, hfailures, hrecognised, fun hno => ?_⟩
    obtain ⟨hcounts, hdriving, hplain⟩ := hcounted hno
    refine ⟨hcounts.busResets, hcounts.quiet, hcounts.older, hcounts.newer, hcounts.ack, hdriving,
      fun old ho hle hm => hcounts.raised (State.thirdReset_iff_old.mpr ⟨old, ho, hle⟩) hm,
      fun h => hplain (State.thirdReset_apart h), fun w hf hr h2 ho hn => ?_⟩
    refine ⟨s.wave w, State.powered_onLink hf _, ?_⟩
    rw [State.wave_twoResets hf hl hr h2 ho hn]
    exact ⟨rfl, rfl, rfl, rfl, rfl, rfl, rfl, rfl, State.setNlc_only _ s⟩
  · have hreceives : s.nlc.link.receives = true := by
      rcases hl with hl | hl <;> rw [hl] <;> rfl
    refine ⟨_, State.exec_busReset hon hreceives hns, ?_⟩
    have hends := State.resetRun_ends hl ns
    generalize s.resetRun ns = t at hends
    have hlevel := State.levelAfter_only (decide (160000 < ns)) t
    have hwaking : (t.levelAfter (decide (160000 < ns))).waking = (t.waking || (decide (160000 < ns) && decide (t.mode = .parked) &&
        decide (t.nlc.link = .away) && Nat.testBit (t.par .attention) 10)) := by rw [State.levelAfter_spec]; rfl
    have hstays (h : t.nlc.link ≠ .away) := State.levelAfter_linked h (decide (160000 < ns))
    generalize t.levelAfter (decide (160000 < ns)) = v at hlevel hwaking hstays
    have hvnlc : v.nlc = t.nlc := hlevel .nlc (by decide)
    have honly := hends.only
    rw [honly .waking (by decide), honly .mode (by decide), honly.par (by decide)] at hwaking
    have hkept : t.nlc.inbox = s.nlc.inbox ∧ t.nlc.crcErrors = s.nlc.crcErrors ∧ t.nlc.noise = s.nlc.noise ∧
        t.nlc.failures = s.nlc.failures ∧ t.nlc.breakDue = s.nlc.breakDue := by
      by_cases ht : s.nlc.tx = .brk .recognised
      · rw [(hends.recognised ht).1]
        split <;> exact ⟨rfl, rfl, rfl, rfl, rfl⟩
      · have h := hends.counts ht
        exact ⟨h.inbox, h.crcErrors, h.noise, h.failures, h.breakDue⟩
    rw [hvnlc]
    obtain ⟨hinbox, hcrc, hnoise, hfailures, hdue⟩ := hkept
    refine ⟨hinbox, hcrc, hnoise, hfailures, hdue, fun ht => ?_, fun ht => ?_, hends.breaks, fun h => ⟨hends.leaving h, ?_⟩, fun h => ⟨?_, hends.halting h⟩,
      fun hp => ?_⟩
    · have h := hends.counts ht
      exact ⟨h.busResets, h.quiet, h.older, h.newer, h.ack, fun old ho hle hm =>
        State.Faulted.after (h.raised (State.thirdReset_iff_old.mpr ⟨old, ho, hle⟩) hm) hlevel⟩
    · obtain ⟨hnlc, hset⟩ := hends.recognised ht
      have hfields : t.nlc.busResets = s.nlc.busResets ∧ t.nlc.quiet = s.nlc.quiet ∧ t.nlc.olderReset = s.nlc.olderReset ∧
          t.nlc.newerReset = s.nlc.newerReset := by
        rw [hnlc]
        split <;> exact ⟨rfl, rfl, rfl, rfl⟩
      obtain ⟨h1, h2, h3, h4⟩ := hfields
      have hnear : s.nlc.link ≠ .away := fun h => by rw [h] at hreceives; exact absurd hreceives nofun
      refine ⟨h1, h2, h3, h4, ?_⟩
      rw [hstays]
      · exact hset
      · rw [hnlc]
        split
        · exact hnear
        · exact LinkController.released_stays hnear
    · rw [hwaking]
      simp only [Bool.and_assoc]
      rfl
    · have hno : t.nlc.link ≠ .away := by
        rw [hends.halting h]
        split <;> nofun
      rw [hwaking, decide_eq_false hno]
      simp
    · obtain ⟨hrest, hframe⟩ := hends.plain (hp.symm.imp_left State.thirdReset_apart)
      refine ⟨fun h1 h2 => ?_, fun front back e hx hq ho hi => ?_⟩
      · obtain ⟨hqueue, hset⟩ := hrest h1 h2
        exact ⟨hqueue, (hset.mono (by decide)).trans (hlevel.mono (by decide))⟩
      · obtain ⟨hqueue, htx, hbus, hrecord, hothers, hset⟩ := hframe front back e hx hq ho hi
        exact ⟨hqueue, htx, hbus, (hlevel.node (by decide) _).trans hrecord, fun m hm => (hlevel.node (by decide) m).trans (hothers m hm),
          (hset.mono (by decide)).trans (hlevel.mono (by decide))⟩

end Sys2Proof.Machine

/-! The completions of the 620's frames (O48). -/

namespace Sys2Proof.Machine

-- In order: proofs elaborated side by side wait for one another in too many threads.
set_option Elab.async false

/-! ## 1. A completion at the only entry in flight (R29, R30, R31, R69, R72, R77) -/

section
variable {s t u : State} {n : LinkController} {e : Entry} {front back : List Entry} {c : Completion} {bus : Bus} {bs : List Block}

/-- A block that stands may be left out of what changes. -/
theorem OnlyChanges.without {b : Block} (h : OnlyChanges (b :: bs) s t) (hb : b.same s t) : OnlyChanges bs s t := fun x hx => by
  by_cases hxb : x = b
  · rw [hxb]
    exact hb
  · exact h x fun hm => (List.mem_cons.mp hm).elim hxb hx

/-- Whether an entry that may return leaves the queue as it settles (R30, R69). -/
def Entry.goes (e : Entry) (c : Completion) (newer : Bool) : Bool := e.terminal c || e.fate != .returns || newer

/-- What stands in the queue in place of the entry in flight once it has settled (R72). -/
def Entry.settledIn (e : Entry) (c : Completion) (front back : List Entry) : List Entry :=
  if e.goes c ((front ++ back).any (Entry.waitsFor e.target e.kind)) then front ++ back
  else front ++ { e with inFlight := false, attempts := e.attemptsAfter c, last := some c } :: back

/-- A completion settled at the only entry in flight. -/
structure Settles (e : Entry) (c : Completion) (bus : Bus) (front back : List Entry) (s t : State) : Prop where
  record : t.node e.target = (s.node e.target).complete c (e.holds c (s.node e.target).presence) (e.thirdFailure c)
  others : ∀ m, m ≠ e.target → t.node m = s.node m
  nlc : t.nlc = { s.nlc.countFailure c with
    queue := if e.holds c (s.node e.target).presence then holdEntries e.target (e.settledIn c front back) else e.settledIn c front back,
    tx := .idle, bus := bus, noise := t.nlc.noise }
  rejected : c = .nakInvalid → Noted .reject (nodeCode e.target) s t
  unnoticed : c ≠ .nakInvalid → t.notices = s.notices
  answered : e.goes c ((front ++ back).any (Entry.waitsFor e.target e.kind)) = true → ∀ tag slot, e.reply = .confirmed tag slot →
    s.hli.ordered → t.hli.line = s.hli.line ++ [⟨tag, 0x10, [if c.acked then stOk else stLinkFail, 0, byte e.tunnelNumber,
      byte (nodeCode e.target), c.code, ackByteOf (some c)], some slot⟩]
  unanswered : e.goes c ((front ++ back).any (Entry.waitsFor e.target e.kind)) = false ∨ e.reply = .none ∨ e.reply = .posted → t.hli = s.hli
  only : OnlyChanges [.notices, .hli, .nlc, .nodes] s t

theorem Settles.quiet (h : Settles e c bus front back s t) (hc : c ≠ .nakInvalid) : OnlyChanges [.hli, .nlc, .nodes] s t :=
  h.only.without (h.unnoticed hc)

theorem Settles.silent (h : Settles e c bus front back s t) (hc : c ≠ .nakInvalid)
    (hr : e.goes c ((front ++ back).any (Entry.waitsFor e.target e.kind)) = false ∨ e.reply = .none ∨ e.reply = .posted) :
    OnlyChanges [.nlc, .nodes] s t := (h.quiet hc).without (h.unanswered hr)

/-- Work on the link alone, that leaves the settled queue, transmitter and bus, may follow. -/
theorem Settles.after (h : Settles e c bus front back s u) (hu : OnlyChanges [.nlc] u t)
    (hn : t.nlc = { u.nlc with noise := t.nlc.noise }) : Settles e c bus front back s t := by
  have hnotices : t.notices = u.notices := hu .notices (by decide)
  have hhli : t.hli = u.hli := hu .hli (by decide)
  refine ⟨(hu.node (by decide) _).trans h.record, fun m hm => (hu.node (by decide) m).trans (h.others m hm), ?_,
    fun hc => (h.rejected hc).after hu, fun hc => hnotices.trans (h.unnoticed hc),
    fun hg tag slot hr ho => (congrArg HostLink.line hhli).trans (h.answered hg tag slot hr ho), fun hr => hhli.trans (h.unanswered hr),
    h.only.trans (hu.mono (by decide))⟩
  rw [hn, h.nlc]

theorem LinkController.countFailure_noise (c : Completion) (n : LinkController) (k : Nat) :
    ({ n with noise := k } : LinkController).countFailure c = { n.countFailure c with noise := k } := by
  unfold LinkController.countFailure
  split
  · rfl
  · split <;> rfl

/-- Noise counted ahead of it changes nothing. -/
theorem Settles.before (h : Settles e c bus front back u t) (hu : OnlyChanges [.nlc] s u)
    (hn : u.nlc = { s.nlc with noise := u.nlc.noise }) : Settles e c bus front back s t := by
  have hnotices : u.notices = s.notices := hu .notices (by decide)
  have hhli : u.hli = s.hli := hu .hli (by decide)
  have hnode (m : NodeAddr) : u.node m = s.node m := hu.node (by decide) m
  obtain ⟨hrecord, hothers, hnlc, hrejected, hunnoticed, hanswered, hunanswered, honly⟩ := h
  rw [hnode] at hrecord hnlc
  rw [hn, LinkController.countFailure_noise] at hnlc
  rw [hhli] at hanswered hunanswered
  exact ⟨hrecord, fun m hm => (hothers m hm).trans (hnode m), hnlc, fun hc => Noted.before (hrejected hc) hu,
    fun hc => (hunnoticed hc).trans hnotices, hanswered, hunanswered, (hu.mono (by decide)).trans honly⟩

theorem State.settle_settles (hq : s.nlc.queue = front ++ e :: back) (ho : ∀ x ∈ front ++ back, x.inFlight = false) (hi : e.inFlight = true)
    (c : Completion) (bus : Bus) : Settles e c bus front back s (s.settle c bus) := by
  have hfind : s.nlc.queue.find? (fun x => x.inFlight) = some e := by rw [hq]; exact find_inFlight hi ho
  obtain ⟨hrecord, hothers, hnlc, hhli, hnotices⟩ := State.settle_spec (c := c) (bus := bus) hfind
  have hgoes : e.leaves c s.nlc.queue = e.goes c ((front ++ back).any (Entry.waitsFor e.target e.kind)) := by
    rw [Entry.leaves, hq, any_waitsFor hi, Entry.goes]
  have hqueue : settleQueue (e.leaves c s.nlc.queue) (e.attemptsAfter c) c s.nlc.queue = e.settledIn c front back := by
    rw [hgoes, hq, settleQueue_only hi ho, Entry.settledIn]
  rw [hqueue] at hnlc
  rw [hgoes] at hhli
  have honly : OnlyChanges [.notices, .hli, .nlc, .nodes] s (s.settle c bus) := (State.frame_settle c bus (by decide)).mpr (.refl _ s)
  have hnoise : (s.settle c bus).nlc.noise = s.nlc.noise := by
    rw [hnlc]
    show (s.nlc.countFailure c).noise = _
    unfold LinkController.countFailure
    split
    · rfl
    · split <;> rfl
  refine ⟨hrecord, hothers, ?_, fun hc => ?_, fun hc => ?_, fun hg tag slot hr hord => ?_, fun hr => ?_, honly⟩
  · rw [hnoise, hnlc, ← hnoise, hnlc]
  · subst hc
    rw [if_pos rfl] at hnotices
    unfold Noted State.noticeOf
    rw [hnotices]
    exact State.noticeOf_notify_same s .reject (nodeCode e.target)
  · rw [hnotices, if_neg hc]
  · rw [hhli, if_pos hg, State.releaseReply_line hord hr]
    rfl
  · rw [hhli]
    rcases hr with hr | hr | hr
    · rw [if_neg (by rw [hr]; nofun)]
    all_goals
      split
      · simp only [State.releaseReply, hr]
      · rfl

end


/-! ## 2. The wave of the 620's own frame (R22, R27, R28, R29) -/

section
variable {s t u : State} {n : LinkController} {e : Entry} {front back : List Entry} {c : Completion} {bus : Bus} {bs : List Block}
  {bytes : List Byte} {w : Wave} {ends ns : Nat}

/-- A wave that settles the 620's frame on a completion, at the end of the ack window. -/
def SettlesOn (bytes : List Byte) (w : Wave) (c : Completion) (ends : Nat) (bus : Bus) : Prop :=
  (sendOutcome bytes w = .emptyWindow ends bus ∧ c = .noAck) ∨
    (∃ code crc, sendOutcome bytes w = .acked code crc ends bus ∧ c = completionOfWindow code crc)

theorem SettlesOn.settledNs (h : SettlesOn bytes w c ends bus) : (sendOutcome bytes w).settledNs = some ends := by
  rcases h with ⟨h, -⟩ | ⟨code, crc, h, -⟩ <;> rw [h] <;> rfl

theorem SettlesOn.ownFrame (h : SettlesOn bytes w c ends bus) (s : State) : s.ownFrame bytes w = (s.settle c bus).linkCheck := by
  rcases h with ⟨h, rfl⟩ | ⟨code, crc, h, rfl⟩ <;> simp only [State.ownFrame, h, State.settleNow]

theorem State.frameOnBus_frame (h : s.nlc.tx = .frame bytes) (w : Wave) : s.frameOnBus w = s.ownFrame bytes w := by
  simp only [State.frameOnBus, h]

theorem State.settledBy_frame (h : s.nlc.tx = .frame bytes) (w : Wave) : s.settledBy w = (sendOutcome bytes w).settledNs := by
  simp only [State.settledBy, h]

theorem State.exec_frameCompletion (hon : s.supply = .on) (hr : s.nlc.link.receives = true) (ht : s.nlc.tx = .frame bytes) (w : Wave) :
    exec (.frameCompletion w) s = .next (s.wave w) := by
  refine (State.powered_on hon _).trans (congrArg _ ?_)
  unfold State.whileLinked
  rw [if_pos hr]
  simp only [State.ownWave, ht]

theorem hasBreak_dropWhile (h : hasBreak w = false) (p : Pulse → Bool) : hasBreak (w.dropWhile p) = false :=
  List.any_eq_false.mpr fun x hx => List.any_eq_false.mp h x ((List.dropWhile_sublist p).subset hx)

theorem noiseCount_split (p : Pulse → Bool) (w : Wave) : noiseCount (w.takeWhile p) + noiseCount (w.dropWhile p) = noiseCount w := by
  rw [← noiseCount_append, List.takeWhile_append_dropWhile]

/-- A frame settled within its wave, on a link that is up (R22, R29). -/
theorem State.wave_settled_up (ht : s.nlc.tx = .frame bytes) (hl : s.nlc.link = .up) (hb : hasBreak w = false)
    (h : SettlesOn bytes w c ends bus) (hq : s.nlc.queue = front ++ e :: back) (ho : ∀ x ∈ front ++ back, x.inFlight = false)
    (hi : e.inFlight = true) :
    Settles e c bus front back s (s.wave w) ∧ (s.wave w).nlc.noise = min 65535 (s.nlc.noise + noiseCount w) := by
  rw [State.wave_settles hb ((State.settledBy_frame ht w).trans h.settledNs), ← noiseCount_split (fun p => decide (p.edge < ends)) w]
  have hdrop := hasBreak_dropWhile hb (fun p => decide (p.edge < ends))
  generalize noiseCount (w.takeWhile fun p => decide (p.edge < ends)) = k
  generalize w.dropWhile (fun p => decide (p.edge < ends)) = v at hdrop
  have hnoise := State.countNoise_only k s
  have hnoiseNlc := State.countNoise_nlc k s
  generalize s.countNoise k = a at hnoise hnoiseNlc
  rw [State.frameOnBus_frame (by rw [hnoiseNlc]; exact ht), h.ownFrame]
  have hsettle := State.settle_settles (s := a) (by rw [hnoiseNlc]; exact hq) ho hi c bus
  have hnlc := hsettle.nlc
  have hkept : (a.settle c bus).nlc.noise = a.nlc.noise ∧ (a.settle c bus).nlc.link = a.nlc.link := by
    obtain ⟨-, -, hset, -, -⟩ := State.settle_spec (c := c) (bus := bus) (s := a) (e := e)
      (by rw [hnoiseNlc]; show s.nlc.queue.find? _ = _; rw [hq]; exact find_inFlight hi ho)
    rw [hset]
    show (a.nlc.countFailure c).noise = _ ∧ (a.nlc.countFailure c).link = _
    unfold LinkController.countFailure
    split
    · exact ⟨rfl, rfl⟩
    · split <;> exact ⟨rfl, rfl⟩
  obtain ⟨hbnoise, hblink⟩ := hkept
  generalize a.settle c bus = b at hsettle hbnoise hblink
  have hblink : b.nlc.link = .up := by rw [hblink, hnoiseNlc]; exact hl
  have hbnoise : b.nlc.noise = min 65535 (s.nlc.noise + k) := by rw [hbnoise, hnoiseNlc]
  rw [State.linkCheck_stays (.inl hblink), State.laterPulses_unbroken hdrop (by rw [hblink]; rfl) (by rw [hbnoise]; exact Nat.min_le_left _ _)]
  have hlast := State.countNoise_only (noiseCount v) b
  have hlastNlc := State.countNoise_nlc (noiseCount v) b
  generalize b.countNoise (noiseCount v) = d at hlast hlastNlc
  rw [State.levelAfter_linked (by rw [hlastNlc]; show b.nlc.link ≠ _; rw [hblink]; nofun)]
  refine ⟨(hsettle.before hnoise (by rw [hnoiseNlc])).after hlast (by rw [hlastNlc]), ?_⟩
  rw [hlastNlc]
  show min 65535 (b.nlc.noise + _) = _
  rw [hbnoise]
  omega

/-- A frame that its wave does not settle, on a link that is up (R27, R29). -/
theorem State.wave_unsettled (ht : s.nlc.tx = .frame bytes) (hb : hasBreak w = false) (h : (sendOutcome bytes w).settledNs = none) :
    s.wave w = (s.countNoise (noiseCount w)).ownFrame bytes w := by
  rw [State.wave_unbroken hb ((State.settledBy_frame ht w).trans h)]
  exact State.frameOnBus_frame (s := s.countNoise (noiseCount w)) ht w

/-- The bus is released at a moment, and NLEN with it (R27, R29, R41). -/
theorem State.endFrame_releases (c : Completion) (bytes : List Byte) (ns : Nat) (bus : Bus) (s : State) :
    (s.endFrame c bytes ns bus).nlc = { s.nlc with tx := .ended c bytes ns, bus := bus } ∧ OnlyChanges [.nlc] s (s.endFrame c bytes ns bus) :=
  ⟨rfl, State.setNlc_only _ s⟩

theorem LinkController.nlen_ended (ht : n.tx = .ended c bytes ns) (ha : n.ack = none) (x : Nat) : n.nlen x = decide (x < ns) :=
  LinkController.nlen_one (LinkController.drives_one (d := endedDrive bytes ns) (by rw [ht]; rfl) ha) rfl x

/-- What a frame handed on changes of the link while the bus is not idle: its queue and its inbox. -/
theorem State.handFrame_link (source : Option NodeAddr) (cls : FrameClass) (retry : Bool) (payload : List Byte) (hb : s.nlc.bus ≠ .idle) :
    (s.handFrame source cls retry payload).nlc = { s.nlc with
      queue := (s.handFrame source cls retry payload).nlc.queue, inbox := (s.handFrame source cls retry payload).nlc.inbox } := by
  unfold State.handFrame
  split
  · rw [State.handReport_link _ _ _ hb]
  · next m _ =>
    unfold State.handTunnel
    split
    · have happend := (State.appendInbox_spec m payload s).1
      generalize s.appendInbox m payload = a at happend
      have haux := (State.auxPresence_hears (n := m) (s := a) (by rw [happend]; exact hb)).nlc
      generalize a.auxPresence m = t at haux
      rw [haux, happend]
    · rw [(State.auxPresence_hears (n := m) hb).nlc]
  · rfl
  · rfl

/-- The receiver that follows the frame that won leaves the transmitter (R27, R36). -/
theorem State.followFrame_tx (w : Wave) (s : State) : (s.followFrame w).nlc.tx = s.nlc.tx := by
  unfold State.followFrame
  split
  · rfl
  · rfl
  · next h1 h2 payload eod rest _ =>
    unfold State.goodFrame
    split
    · obtain ⟨hack, -, hnlc⟩ := State.driveAck_spec (s.ackCode (frameSource h2) (frameClass h1) payload) eod w rest s
      dsimp only
      generalize s.driveAck (s.ackCode (frameSource h2) (frameClass h1) payload) eod w rest = a at hack hnlc
      rw [State.handFrame_link _ _ _ _ hack.bus, hnlc]
    · rfl
  · rfl
  · rfl
  · rfl

/-- A good frame to another node is followed to its end; one to the 620 is acknowledged (R36, R37). -/
theorem State.followFrame_good {h1 h2 : Byte} {payload : List Byte} {eod : Nat} {rest : Wave}
    (hr : readFrame w = .good h1 h2 payload eod rest) (s : State) :
    (targetCode h1 ≠ 0 → s.followFrame w = s.setNlc { s.nlc with bus := (readWindow eod rest).bus }) ∧
    (targetCode h1 = 0 → ∃ code, Acknowledged code eod w rest (s.followFrame w).nlc) := by
  have hrun : s.followFrame w = s.goodFrame h1 h2 payload eod w rest := by
    unfold State.followFrame
    rw [hr]
  rw [hrun]
  refine ⟨fun h => if_neg h, fun h => ?_⟩
  unfold State.goodFrame
  rw [if_pos h]
  obtain ⟨hack, -, -⟩ := State.driveAck_spec (s.ackCode (frameSource h2) (frameClass h1) payload) eod w rest s
  dsimp only
  generalize s.driveAck (s.ackCode (frameSource h2) (frameClass h1) payload) eod w rest = a at hack
  have hlink := State.handFrame_link (s := a) (frameSource h2) (frameClass h1) (frameRetry h2) payload hack.bus
  exact ⟨_, hack.of_eq (by rw [hlink]) (by rw [hlink])⟩

end


/-! ## 3. The last entry of a link that ends (R30, R42, R43) -/

section
variable {s t u : State} {n : LinkController} {e : Entry} {front back : List Entry} {c : Completion} {bus : Bus} {bs : List Block}
  {bytes : List Byte} {w : Wave} {ends ns : Nat}

/-- The NLC that has settled the last entry of a link that ends, and is off it. -/
def LinkController.endedBy (c : Completion) (n : LinkController) : LinkController := { n with
  queue := [], tx := .idle, bus := .waiting, ack := none, link := if n.link = .leaving then .away else .silent
  failures := if c.failed then n.failures + 1 else if c = .done ∨ c = .doneLimited then 0 else n.failures }

/-- The last entry of a link that is being left or falls silent, with a completion that takes it out. -/
structure State.LastOf (e : Entry) (c : Completion) (s : State) : Prop where
  link : s.nlc.link = .leaving ∨ s.nlc.link = .halting
  queue : s.nlc.queue = [e]
  flight : e.inFlight = true
  due : s.nlc.breakDue = false
  failures : c.failed = true → s.nlc.failures < 7
  goes : c.acked = true ∨ (c.failed = true ∧ 2 ≤ e.attempts) ∨ (c = .nakNotReady ∧ e.isHalt = true) ∨ e.fate ≠ .returns

theorem State.LastOf.before (h : s.LastOf e c) (hu : u.nlc = { s.nlc with noise := u.nlc.noise }) : u.LastOf e c := by
  obtain ⟨hl, hq, hi, hd, hf, hg⟩ := h
  refine ⟨?_, ?_, hi, ?_, ?_, hg⟩ <;> rw [hu] <;> assumption

/-- With fewer than 7 failures one more makes no break due (R32). -/
theorem LinkController.countFailure_few (h : c.failed = true → n.failures < 7) (hd : n.breakDue = false) : n.countFailure c =
    { n with failures := if c.failed then n.failures + 1 else if c = .done ∨ c = .doneLimited then 0 else n.failures } := by
  unfold LinkController.countFailure
  by_cases hc : c.failed = true
  · have hlt := h hc
    rw [if_pos hc, if_pos hc, Nat.min_eq_right (by omega), hd, decide_eq_false (by omega)]
    simp [← hd]
  · rw [if_neg hc, if_neg hc]
    split <;> rfl

theorem State.LastOf.settle (h : s.LastOf e c) (bus : Bus) : e.Concludes c s (s.settle c bus) ∧
    (s.settle c bus).nlc = { s.nlc with
      queue := [], tx := .idle, bus := bus
      failures := if c.failed then s.nlc.failures + 1 else if c = .done ∨ c = .doneLimited then 0 else s.nlc.failures } ∧
    OnlyChanges [.hli, .nlc, .nodes, .notices] s (s.settle c bus) := by
  have hfind : s.nlc.queue.find? (fun x => x.inFlight) = some e := by rw [h.queue]; exact List.find?_cons_of_pos h.flight
  have hleaves : e.leaves c s.nlc.queue = true := Entry.leaves_of _ h.goes
  obtain ⟨-, -, hnlc, -, -⟩ := State.settle_spec (c := c) (bus := bus) hfind
  have hempty : settleQueue true (e.attemptsAfter c) c [e] = [] := by simp [settleQueue, h.flight]
  rw [hleaves, h.queue, hempty, show holdEntries e.target [] = [] from rfl, ite_self, LinkController.countFailure_few h.failures h.due] at hnlc
  exact ⟨State.settle_concludes hfind hleaves, hnlc, (State.frame_settle c bus (by decide)).mpr (.refl _ s)⟩

/-- With that the NLC is off the link, or the link is silent (R42, R43). -/
theorem State.LastOf.leaves (h : s.LastOf e c) (hu : ∃ bus ack, u.nlc = { s.nlc with
      queue := [], tx := .idle, bus := bus, ack := ack
      failures := if c.failed then s.nlc.failures + 1 else if c = .done ∨ c = .doneLimited then 0 else s.nlc.failures }) :
    u.linkCheck.nlc = s.nlc.endedBy c := by
  obtain ⟨bus, ack, hu⟩ := hu
  unfold LinkController.endedBy
  rcases h.link with hl | hl
  · rw [State.linkCheck_away (by rw [hu]; exact hl) (by rw [hu]; exact h.due) (by rw [hu]), if_pos hl]
    show ({ u.nlc with link := .away, bus := .waiting, ack := none } : LinkController) = _
    rw [hu]
  · rw [State.linkCheck_silent (by rw [hu]; exact hl) (by rw [hu]; exact h.due) (by rw [hu]; rfl) (by rw [hu]), if_neg (by rw [hl]; nofun)]
    show ({ u.nlc with link := .silent, tx := .idle, bus := .waiting, ack := none } : LinkController) = _
    rw [hu]

theorem LinkController.endedBy_deaf (n : LinkController) : (n.endedBy c).link.receives = false ∧ (n.endedBy c).link.sends = false := by
  unfold LinkController.endedBy
  dsimp only
  split <;> exact ⟨rfl, rfl⟩

/-- The level that stands behind it in the wave, or begins, wakes a PARKED part that has left the link (R9, R42). -/
theorem State.levelAfter_ended (hl : s.nlc.link = .leaving ∨ s.nlc.link = .halting) (hnlc : u.nlc.link = (s.nlc.endedBy c).link)
    (hw : u.waking = s.waking) (hm : u.mode = s.mode) (hp : u.par .attention = s.par .attention) (dominant : Bool) :
    (u.levelAfter dominant).waking =
      (s.waking || (s.nlc.link == .leaving && s.mode == .parked && Nat.testBit (s.par .attention) 10 && dominant)) := by
  have haway : decide (u.nlc.link = .away) = (s.nlc.link == .leaving) := by
    rw [hnlc]
    unfold LinkController.endedBy
    rcases hl with hl | hl <;> rw [hl] <;> rfl
  rw [State.levelAfter_spec]
  show (u.waking || _) = _
  rw [haway, hw, hm, hp]
  cases dominant <;> cases s.nlc.link == .leaving <;> simp
  rfl

/-- The frame's wave settles it (R29, R42). -/
theorem State.LastOf.wave (h : s.LastOf e c) (ht : s.nlc.tx = .frame bytes) (hs : SettlesOn bytes w c ends bus) :
    e.Concludes c s (s.wave w) ∧
    (s.wave w).nlc = { s.nlc.endedBy c with
      noise := min 65535 (s.nlc.noise + noiseCount (w.takeWhile (fun p => decide (p.edge < ends ∧ p.width < 160000)))) } ∧
    (s.wave w).waking = (s.waking || (s.nlc.link == .leaving && s.mode == .parked && Nat.testBit (s.par .attention) 10 &&
      w.any (fun p => decide (ends < p.edge + p.width)))) ∧
    OnlyChanges [.waking, .hli, .nlc, .nodes, .notices] s (s.wave w) := by
  have hsettled : s.settledBy w = some ends := (State.settledBy_frame ht w).trans hs.settledNs
  have hheard : heardFirst (some ends) = fun p => decide (p.edge < ends ∧ p.width < 160000) := by
    funext p
    have hbrk : (classifyPulse p.width != .brk) = decide (p.width < 160000) := by
      rw [Bool.eq_iff_iff, bne_iff_ne, ne_eq, classifyPulse_brk_iff, decide_eq_true_iff, Nat.not_le]
    rw [heardFirst, hbrk, Bool.and_comm, Bool.decide_and]
  have hlater : s.dominantLater w = w.any (fun p => decide (ends < p.edge + p.width)) := by
    simp only [State.dominantLater, State.mayLeaveAt, hsettled]
  have hwave : s.wave w = ((w.dropWhile (heardFirst (some ends))).foldl State.laterPulse
      ((s.countNoise (noiseCount (w.takeWhile (heardFirst (some ends))))).frameOnBus w)).levelAfter
        (w.any (fun p => decide (ends < p.edge + p.width))) := by
    unfold State.wave
    dsimp only
    rw [hsettled, hlater]
  rw [hwave, hheard]
  generalize w.dropWhile (fun p => decide (p.edge < ends ∧ p.width < 160000)) = v
  generalize noiseCount (w.takeWhile (fun p => decide (p.edge < ends ∧ p.width < 160000))) = k
  generalize w.any (fun p => decide (ends < p.edge + p.width)) = dominant
  have hnoise := State.countNoise_only k s
  have hnoiseNlc := State.countNoise_nlc k s
  generalize s.countNoise k = a at hnoise hnoiseNlc
  have ha : a.LastOf e c := h.before (by rw [hnoiseNlc])
  rw [State.frameOnBus_frame (by rw [hnoiseNlc]; exact ht), hs.ownFrame]
  obtain ⟨hconcludes, hnlc, honly⟩ := ha.settle bus
  generalize a.settle c bus = b at hconcludes hnlc honly
  have hcheck := ha.leaves (u := b) ⟨bus, a.nlc.ack, hnlc⟩
  have hcheckOnly := State.linkCheck_only b
  generalize b.linkCheck = d at hcheck hcheckOnly
  rw [State.laterPulses_deaf v (by rw [hcheck]; exact a.nlc.endedBy_deaf.1)]
  have had : OnlyChanges [.hli, .nlc, .nodes, .notices] a d := honly.trans (hcheckOnly.mono (by decide))
  have hsd : OnlyChanges [.hli, .nlc, .nodes, .notices] s d := (hnoise.mono (by decide)).trans had
  have hdnlc : d.nlc = { s.nlc.endedBy c with noise := min 65535 (s.nlc.noise + k) } := by
    rw [hcheck, hnoiseNlc]
    rfl
  have hlevel := State.levelAfter_only dominant d
  have hwaking := State.levelAfter_ended (u := d) (c := c) h.link (by rw [hdnlc]) (hsd .waking (by decide)) (hsd .mode (by decide))
    (hsd.par (by decide) _) dominant
  generalize d.levelAfter dominant = t at hlevel hwaking
  refine ⟨?_, (hlevel .nlc (by decide)).trans hdnlc, hwaking, (hsd.mono (by decide)).trans (hlevel.mono (by decide))⟩
  have hend := hconcludes.carry (u := t) ((hcheckOnly.mono (by decide)).trans (hlevel.mono (by decide)))
  obtain ⟨hrecord, hothers, hreject, hnone, hreply, hnoReply⟩ := hend
  have hnode (m : NodeAddr) : a.node m = s.node m := hnoise.node (by decide) m
  have hhli : a.hli = s.hli := hnoise .hli (by decide)
  rw [hnode] at hrecord
  rw [hhli] at hreply hnoReply
  exact ⟨hrecord, fun m hm => (hothers m hm).trans (hnode m), fun hc => Noted.before (hreject hc) hnoise,
    fun hc => (hnone hc).trans (hnoise .notices (by decide)), hreply, hnoReply⟩

theorem State.atIdle_ended (ht : s.nlc.tx = .ended c bytes ns) (hb : (s.settle c .waiting).nlc.bus = .waiting) :
    s.atIdle = s.settle c .waiting := by
  have hfinish : s.finishBreak = s := by simp only [State.finishBreak, ht]
  have hsettle : s.settleEnded = s.settle c .waiting := by simp only [State.settleEnded, ht]
  rw [State.atIdle_eq, hfinish, hsettle, if_neg (by rw [hb]; nofun)]

theorem State.busFellIdle_ended (ht : s.nlc.tx = .ended c bytes ns) (hb : (s.settle c .waiting).nlc.bus = .waiting) (taken : Bool) :
    s.busFellIdle taken = (s.settle c .waiting).actAtIdle taken := by
  rw [← State.atIdle_ended ht hb]
  simp only [State.busFellIdle, ht]

/-- A completion that waited for the idle bus (R29, R42). -/
theorem State.LastOf.idle (h : s.LastOf e c) (ht : s.nlc.tx = .ended c bytes ns) (taken : Bool) :
    e.Concludes c s (s.busFellIdle taken) ∧ (s.busFellIdle taken).nlc = s.nlc.endedBy c ∧
    (s.busFellIdle taken).waking = (s.waking || (s.nlc.link == .leaving && s.mode == .parked && Nat.testBit (s.par .attention) 10 && taken)) ∧
    OnlyChanges [.waking, .hli, .nlc, .nodes, .notices] s (s.busFellIdle taken) := by
  obtain ⟨hconcludes, hnlc, honly⟩ := h.settle .waiting
  rw [State.busFellIdle_ended ht (by rw [hnlc])]
  generalize s.settle c .waiting = b at hconcludes hnlc honly
  rw [State.actAtIdle_eq (by rw [hnlc]; exact h.due)]
  have hstill : (b.setNlc b.nlc.stilled).nlc = { b.nlc with tx := .idle, ack := none } := rfl
  have hstillOnly := State.setNlc_only b.nlc.stilled b
  generalize b.setNlc b.nlc.stilled = a at hstill hstillOnly
  have hcheck := h.leaves (u := a) ⟨.waiting, none, by rw [hstill, hnlc]⟩
  have hcheckOnly := State.linkCheck_only a
  generalize a.linkCheck = d at hcheck hcheckOnly
  rw [if_neg (by rw [hcheck, s.nlc.endedBy_deaf.2]; nofun)]
  have hbd : OnlyChanges [.nlc] b d := hstillOnly.trans hcheckOnly
  have hsd : OnlyChanges [.hli, .nlc, .nodes, .notices] s d := honly.trans (hbd.mono (by decide))
  have hlevel := State.levelAfter_only taken d
  have hwaking := State.levelAfter_ended (u := d) (c := c) h.link (by rw [hcheck]) (hsd .waking (by decide)) (hsd .mode (by decide))
    (hsd.par (by decide) _) taken
  generalize d.levelAfter taken = t at hlevel hwaking
  exact ⟨hconcludes.carry ((hbd.mono (by decide)).trans (hlevel.mono (by decide))), (hlevel .nlc (by decide)).trans hcheck, hwaking,
    (hsd.mono (by decide)).trans (hlevel.mono (by decide))⟩

end


/-! ## 4. The entry in flight of a link that is up (R29, R30, R31, R32, R69, R71) -/

section
variable {s t u : State} {n : LinkController} {e : Entry} {front back : List Entry} {c : Completion} {bus : Bus} {bs : List Block}
  {bytes : List Byte} {w : Wave} {ends ns : Nat} {newer : Bool}

/-- What of an entry leaves the queue, where neither PARKED nor HALTED nor the loss of its node has ordained it (R30, R69). -/
theorem Entry.goes_returning (hr : e.fate = .returns) (hh : e.isHalt = false) (c : Completion) (newer : Bool) :
    e.goes c newer = (c.acked || e.thirdFailure c || newer) := by
  simp [Entry.goes, Entry.terminal, hr, hh]

theorem Entry.thirdFailure_eq (e : Entry) (c : Completion) : e.thirdFailure c = decide (c.failed = true ∧ 2 ≤ e.attempts) := by
  cases hc : c.failed <;> simp [Entry.thirdFailure, Entry.attemptsAfter, hc]

theorem Entry.settledIn_goes (h : e.goes c ((front ++ back).any (Entry.waitsFor e.target e.kind)) = true) :
    e.settledIn c front back = front ++ back := if_pos h

theorem Entry.holds_not (h : c ≠ .nakNotReady) (e : Entry) (p : Presence) : e.holds c p = false := by
  simp [Entry.holds, h]

/-- Without NOT_READY nothing is held, and the settled queue is the queue (R71). -/
theorem Settles.nlc_unheld (h : Settles e c bus front back s t) (hc : c ≠ .nakNotReady) :
    t.nlc = { s.nlc.countFailure c with queue := e.settledIn c front back, tx := .idle, bus := bus, noise := t.nlc.noise } := by
  have hnlc := h.nlc
  rw [Entry.holds_not hc, if_neg nofun] at hnlc
  exact hnlc

/-- DONE, DONE_LIMITED and NAK_INVALID take the entry out (R30). -/
theorem Settles.acked (h : Settles e c bus front back s t) (hr : e.fate = .returns) (hh : e.isHalt = false) (hc : c.acked = true) :
    t.nlc = { s.nlc.countFailure c with queue := front ++ back, tx := .idle, bus := bus, noise := t.nlc.noise } ∧
    e.goes c ((front ++ back).any (Entry.waitsFor e.target e.kind)) = true := by
  have hgoes : e.goes c ((front ++ back).any (Entry.waitsFor e.target e.kind)) = true := by rw [Entry.goes_returning hr hh, hc]; rfl
  have hnlc := h.nlc_unheld (c := c) (by rintro rfl; exact absurd hc nofun)
  rw [Entry.settledIn_goes hgoes] at hnlc
  exact ⟨hnlc, hgoes⟩

/-- NOT_READY returns the entry held and holds its node (R71). -/
theorem Settles.notReady (h : Settles e .nakNotReady bus front back s t) (hr : e.fate = .returns) (hh : e.isHalt = false)
    (hp : (s.node e.target).presence ≠ .lost) :
    t.nlc = { s.nlc with
      queue := (if (front ++ back).any (Entry.waitsFor e.target e.kind) then front ++ back
        else front ++ { e with inFlight := false, last := some .nakNotReady } :: back).map
          (fun x => if x.target = e.target ∧ x.isHalt = false then { x with held := true } else x)
      tx := .idle, bus := bus, noise := t.nlc.noise } ∧
    (t.node e.target).held = true ∧ (t.node e.target).lastCode = some .nakNotReady ∧
    e.goes .nakNotReady ((front ++ back).any (Entry.waitsFor e.target e.kind)) = (front ++ back).any (Entry.waitsFor e.target e.kind) := by
  have hholds : e.holds .nakNotReady (s.node e.target).presence = true := by simp [Entry.holds, hh, hr, hp]
  have hgoes : e.goes .nakNotReady ((front ++ back).any (Entry.waitsFor e.target e.kind)) =
      (front ++ back).any (Entry.waitsFor e.target e.kind) := by
    rw [Entry.goes_returning hr hh, Entry.thirdFailure_eq]
    simp [Completion.acked, Completion.failed]
  have hnlc := h.nlc
  have hrecord := h.record
  rw [hholds, if_pos rfl] at hnlc
  rw [hholds] at hrecord
  have hqueue : holdEntries e.target (e.settledIn .nakNotReady front back) =
      (if (front ++ back).any (Entry.waitsFor e.target e.kind) then front ++ back
        else front ++ { e with inFlight := false, last := some .nakNotReady } :: back).map
          (fun x => if x.target = e.target ∧ x.isHalt = false then { x with held := true } else x) := by
    unfold holdEntries Entry.settledIn
    rw [hgoes]
    refine List.map_congr_left fun x _ => ?_
    by_cases hx : x.target = e.target ∧ x.isHalt = false
    · rw [if_pos hx, if_pos (by simp [hx.1, hx.2])]
    · rw [if_neg hx, if_neg (by simpa using hx)]
  refine ⟨?_, ?_, ?_, hgoes⟩
  · rw [hnlc, hqueue]
    rfl
  · rw [hrecord]
    exact Bool.or_true _
  · rw [hrecord]
    rfl

/-- A counted failure (R30, R31, R32). -/
structure Fails (e : Entry) (c : Completion) (bus : Bus) (front back : List Entry) (s t : State) : Prop where
  code : (t.node e.target).lastCode = some c
  tx : t.nlc.tx = .idle
  bus : t.nlc.bus = bus
  failures : t.nlc.failures = min 8 (s.nlc.failures + 1)
  due : t.nlc.breakDue = (s.nlc.breakDue || decide (7 ≤ s.nlc.failures))
  early : e.attempts < 2 → (t.node e.target).misses = (s.node e.target).misses ∧
    ((front ++ back).any (Entry.waitsFor e.target e.kind) = false → OnlyChanges [.nlc, .nodes] s t ∧
      t.nlc.queue = front ++ { e with inFlight := false, attempts := e.attempts + 1, last := some c } :: back) ∧
    ((front ++ back).any (Entry.waitsFor e.target e.kind) = true → t.nlc.queue = front ++ back)
  third : 2 ≤ e.attempts → t.nlc.queue = front ++ back ∧ (t.node e.target).misses = min 65535 ((s.node e.target).misses + 1)
  reply : 2 ≤ e.attempts → ∀ tag slot, e.reply = .confirmed tag slot → s.hli.ordered → t.hli.line = s.hli.line ++
    [⟨tag, 0x10, [stLinkFail, 0, byte e.tunnelNumber, byte (nodeCode e.target), c.code, ackByteOf (some c)], some slot⟩]
  only : OnlyChanges [.hli, .nlc, .nodes] s t

theorem Completion.failed_ne (h : c.failed = true) : c ≠ .nakNotReady ∧ c ≠ .nakInvalid ∧ c.acked = false := by
  cases c <;> simp_all [Completion.failed, Completion.acked]

/-- The miss count of a completed record, by its third failure (R31). -/
theorem NodeRecord.complete_misses (c : Completion) (hold third : Bool) (r : NodeRecord) :
    (r.complete c hold third).misses = if third then min 65535 (r.misses + 1) else r.misses := rfl

theorem Settles.fails (h : Settles e c bus front back s t) (hr : e.fate = .returns) (hh : e.isHalt = false) (hc : c.failed = true) :
    Fails e c bus front back s t := by
  obtain ⟨hready, hinvalid, hack⟩ := Completion.failed_ne hc
  have hnlc := h.nlc_unheld hready
  have hgoes := Entry.goes_returning hr hh c ((front ++ back).any (Entry.waitsFor e.target e.kind))
  rw [hack, Entry.thirdFailure_eq, Bool.false_or] at hgoes
  have hcount : s.nlc.countFailure c = { s.nlc with
      failures := min 8 (s.nlc.failures + 1), breakDue := s.nlc.breakDue || decide (8 ≤ s.nlc.failures + 1) } := if_pos hc
  have hattempts : e.attemptsAfter c = e.attempts + 1 := if_pos hc
  have hmisses : (t.node e.target).misses = if e.thirdFailure c then min 65535 ((s.node e.target).misses + 1)
      else (s.node e.target).misses := by rw [h.record, NodeRecord.complete_misses]
  rw [Entry.thirdFailure_eq] at hmisses
  have hqueue : t.nlc.queue = e.settledIn c front back := by rw [hnlc]
  unfold Entry.settledIn at hqueue
  rw [hgoes, hattempts] at hqueue
  refine ⟨by rw [h.record]; rfl, by rw [hnlc], by rw [hnlc], by rw [hnlc, hcount], ?_, fun he => ?_, fun he => ?_,
    fun he tag slot hreply hord => ?_, h.quiet hinvalid⟩
  · rw [hnlc, hcount]
    show (_ || decide (8 ≤ s.nlc.failures + 1)) = _
    rw [show decide (8 ≤ s.nlc.failures + 1) = decide (7 ≤ s.nlc.failures) from decide_eq_decide.mpr (by omega)]
  · rw [decide_eq_false (fun hx => absurd hx.2 (by omega))] at hmisses hqueue hgoes
    rw [Bool.false_or] at hqueue hgoes
    refine ⟨hmisses, fun hn => ⟨h.silent hinvalid (.inl (hgoes.trans hn)), ?_⟩, fun hn => ?_⟩
    · rw [hqueue, hn]
      rfl
    · rw [hqueue, hn]
      rfl
  · rw [decide_eq_true ⟨hc, he⟩] at hmisses hqueue
    exact ⟨hqueue, hmisses⟩
  · have hline := h.answered (by rw [hgoes, decide_eq_true ⟨hc, he⟩]; rfl) tag slot hreply hord
    rw [hack] at hline
    exact hline

/-- A wave that leaves the completion to the idle bus (R27, R29). -/
theorem State.wave_ends (ht : s.nlc.tx = .frame bytes) (hb : hasBreak w = false)
    (h : (sendOutcome bytes w = .windowError ns ∧ c = .ackCrc) ∨ (sendOutcome bytes w = .bitErr ns ∧ c = .bitErr)) :
    (s.wave w).nlc = { s.nlc with tx := .ended c bytes ns, bus := .waiting, noise := min 65535 (s.nlc.noise + noiseCount w) } ∧
    OnlyChanges [.nlc] s (s.wave w) := by
  have hrun : s.wave w = (s.countNoise (noiseCount w)).endFrame c bytes ns .waiting := by
    rcases h with ⟨h, rfl⟩ | ⟨h, rfl⟩
    all_goals
      rw [State.wave_unsettled ht hb (by rw [h]; rfl)]
      simp only [State.ownFrame, h]
  rw [hrun]
  exact ⟨rfl, (State.countNoise_only _ s).trans (State.setNlc_only _ _)⟩

/-- A lost arbitration: the receiver goes on with the frame that won (R27, R36). -/
theorem State.wave_loses (ht : s.nlc.tx = .frame bytes) (hb : hasBreak w = false) (h : sendOutcome bytes w = .lost ns) :
    (s.wave w).nlc.tx = .ended .lost bytes ns ∧
    ∀ h1 h2 payload eod rest, readFrame w = .good h1 h2 payload eod rest →
      (targetCode h1 ≠ 0 →
        (s.wave w).nlc = { s.nlc with
          tx := .ended .lost bytes ns, bus := (readWindow eod rest).bus, noise := min 65535 (s.nlc.noise + noiseCount w) } ∧
        OnlyChanges [.nlc] s (s.wave w)) ∧
      (targetCode h1 = 0 → ∃ code, Acknowledged code eod w rest (s.wave w).nlc) := by
  have hrun : s.wave w = ((s.countNoise (noiseCount w)).endFrame .lost bytes ns .following).followFrame w := by
    rw [State.wave_unsettled ht hb (by rw [h]; rfl)]
    simp only [State.ownFrame, h]
  rw [hrun]
  have hnlc : ((s.countNoise (noiseCount w)).endFrame .lost bytes ns .following).nlc = { s.nlc with
      tx := .ended .lost bytes ns, bus := .following, noise := min 65535 (s.nlc.noise + noiseCount w) } := rfl
  have honly : OnlyChanges [.nlc] s ((s.countNoise (noiseCount w)).endFrame .lost bytes ns .following) :=
    (State.countNoise_only _ s).trans (State.setNlc_only _ _)
  generalize (s.countNoise (noiseCount w)).endFrame .lost bytes ns .following = a at hnlc honly
  refine ⟨by rw [State.followFrame_tx, hnlc], fun h1 h2 payload eod rest hr => ?_⟩
  obtain ⟨hother, hown⟩ := State.followFrame_good hr a
  refine ⟨fun hne => ?_, hown⟩
  rw [hother hne]
  refine ⟨?_, honly.trans (State.setNlc_only _ a)⟩
  show ({ a.nlc with bus := (readWindow eod rest).bus } : LinkController) = _
  rw [hnlc]

/-- A completion that waited for the idle bus, where another node has begun (R29, R33). -/
theorem State.idle_settles (ht : s.nlc.tx = .ended c bytes ns) (hl : s.nlc.link = .up) (hd : s.nlc.breakDue = false)
    (hq : s.nlc.queue = front ++ e :: back) (ho : ∀ x ∈ front ++ back, x.inFlight = false) (hi : e.inFlight = true)
    (hc : c.failed = true ∨ c = .lost) :
    ∃ b, Settles e c .waiting front back s b ∧ OnlyChanges [.nlc] b (s.busFellIdle true) ∧
      (s.busFellIdle true).nlc.queue = b.nlc.queue ∧
      (c.failed = true ∧ 7 ≤ s.nlc.failures →
        (s.busFellIdle true).nlc.tx = .brk .driving ∧ (s.busFellIdle true).nlc.bus = .busy ∧ (s.busFellIdle true).nlc.failures = 0) ∧
      (c.failed = false ∨ s.nlc.failures < 7 →
        (s.busFellIdle true).nlc.tx = .idle ∧ (s.busFellIdle true).nlc.bus = .following ∧
        (s.busFellIdle true).nlc.failures = if c.failed then s.nlc.failures + 1 else s.nlc.failures) := by
  have hready : c ≠ .nakNotReady := by rcases hc with hc | rfl; exacts [(Completion.failed_ne hc).1, nofun]
  have hsettle := State.settle_settles hq ho hi c .waiting
  have hnlc := hsettle.nlc_unheld hready
  rw [State.busFellIdle_ended ht (by rw [hnlc])]
  generalize s.settle c .waiting = b at hsettle hnlc
  refine ⟨b, hsettle, ?_⟩
  have hcount : s.nlc.countFailure c = { s.nlc with
      failures := if c.failed then min 8 (s.nlc.failures + 1) else s.nlc.failures,
      breakDue := c.failed && decide (7 ≤ s.nlc.failures) } := by
    unfold LinkController.countFailure
    rcases hc with hc | rfl
    · rw [if_pos hc, if_pos hc, hc, hd, Bool.false_or, Bool.true_and,
        show decide (8 ≤ s.nlc.failures + 1) = decide (7 ≤ s.nlc.failures) from decide_eq_decide.mpr (by omega)]
    · show s.nlc = { s.nlc with breakDue := false }
      rw [← hd]
  rw [hcount] at hnlc
  by_cases hdue : c.failed = true ∧ 7 ≤ s.nlc.failures
  · have hb : b.nlc.breakDue = true := by
      rw [hnlc]
      exact Bool.and_eq_true_iff.mpr ⟨hdue.1, decide_eq_true hdue.2⟩
    rw [State.actAtIdle_break hb]
    refine ⟨State.setNlc_only _ b, rfl, fun _ => ⟨rfl, rfl, rfl⟩, fun hno => ?_⟩
    rcases hno with hno | hno
    · exact absurd (hdue.1.symm.trans hno) nofun
    · exact absurd hdue.2 (by omega)
  · have hb : b.nlc.breakDue = false := by
      rw [hnlc]
      refine Bool.eq_false_iff.mpr fun h => hdue ?_
      obtain ⟨h1, h2⟩ := Bool.and_eq_true_iff.mp h
      exact ⟨h1, of_decide_eq_true h2⟩
    rw [State.actAtIdle_eq hb]
    have hstill : (b.setNlc b.nlc.stilled).nlc = { b.nlc with tx := .idle, ack := none } := rfl
    have hstillOnly := State.setNlc_only b.nlc.stilled b
    generalize b.setNlc b.nlc.stilled = a at hstill hstillOnly
    have hlink : a.nlc.link = .up := by rw [hstill, hnlc]; exact hl
    rw [State.linkCheck_stays (.inl hlink), if_pos (by rw [hlink]; rfl), if_pos rfl]
    have hfollow : (a.setNlc { a.nlc with bus := .following }).nlc = { b.nlc with tx := .idle, ack := none, bus := .following } := by
      show ({ a.nlc with bus := .following } : LinkController) = _
      rw [hstill]
    have hfollowOnly := State.setNlc_only { a.nlc with bus := .following } a
    generalize a.setNlc { a.nlc with bus := .following } = t at hfollow hfollowOnly
    refine ⟨hstillOnly.trans hfollowOnly, by rw [hfollow], fun h => absurd h hdue, fun h => ⟨by rw [hfollow], by rw [hfollow], ?_⟩⟩
    rw [hfollow]
    show b.nlc.failures = _
    rw [hnlc]
    show (if c.failed then _ else _) = _
    cases hf : c.failed with
    | false => rfl
    | true =>
      have hlt : s.nlc.failures < 7 := h.resolve_left (by rw [hf]; nofun)
      show min 8 (s.nlc.failures + 1) = s.nlc.failures + 1
      omega

end


/-- Settles O48. -/
theorem completionsSettleTheEntryInFlight : Obligations.CompletionsSettleTheEntryInFlight := by
  refine ⟨fun bytes code crc => ⟨sendOutcome_acknowledged bytes code crc, sendOutcome_unacknowledged bytes⟩,
    fun e c s hon hl hq hi hd hf hg => ?_, fun front back e s hon hl _ hq ho hi hr hh => ?_⟩
  · -- The last entry of a link that ends.
    intro n wakeable
    have hlast : s.LastOf e c := ⟨hl, hq, hi, hd, hf, hg⟩
    have hreceives : s.nlc.link.receives = true := by rcases hl with hl | hl <;> rw [hl] <;> rfl
    refine ⟨fun bytes w ends bus ht hs => ?_, fun bytes since taken ht => ?_⟩
    · obtain ⟨hconcludes, hnlc, hwaking, honly⟩ := hlast.wave ht hs
      refine ⟨s.wave w, State.exec_frameCompletion hon hreceives ht w, hconcludes, hnlc, fun x => ?_, hwaking, honly⟩
      rw [hnlc]
      exact LinkController.nlen_idle rfl rfl x
    · obtain ⟨hconcludes, hnlc, hwaking, honly⟩ := hlast.idle ht taken
      refine ⟨s.busFellIdle taken, ?_, hconcludes, hnlc, fun x => ?_, hwaking, honly⟩
      · refine (State.powered_on hon _).trans (congrArg _ ?_)
        unfold State.idleOnLink
        rw [if_pos hreceives]
      · rw [hnlc]
        exact LinkController.nlen_idle rfl rfl x
  · -- The entry in flight of a link that is up.
    intro newer
    have hreceives : s.nlc.link.receives = true := by rw [hl]; rfl
    refine ⟨fun bytes w ht hb => ⟨s.wave w, State.exec_frameCompletion hon hreceives ht w, ?_⟩, fun c bytes ns ht hc hd => ?_⟩
    · intro noise
      have hsettled {c : Completion} {ends : Nat} {bus : Bus} (h : SettlesOn bytes w c ends bus) :=
        State.wave_settled_up ht hl hb h hq ho hi
      have hack {code : Byte} {ends : Nat} {bus : Bus} (h : sendOutcome bytes w = .acked code (crc8 [code]) ends bus) :
          SettlesOn bytes w (completionOfAck code) ends bus := .inr ⟨_, _, h, (if_pos rfl).symm⟩
      refine ⟨fun ends bus h => ?_, fun ends bus h => ?_, fun ends bus h hp => ?_, fun ends bus h => ?_, fun c ends bus h => ?_,
        fun c ns h => ?_, fun ns h => ?_⟩
      · obtain ⟨hsettle, hnoise⟩ : Settles e .done bus front back s (s.wave w) ∧ _ := hsettled (hack h)
        generalize s.wave w = t at hsettle hnoise
        obtain ⟨hnlc, hgoes⟩ := hsettle.acked hr hh rfl
        rw [hnoise] at hnlc
        refine ⟨hnlc, by rw [hsettle.record]; rfl, by rw [hsettle.record]; rfl, fun tag slot hreply hord => ?_,
          fun hreply => hsettle.silent nofun (.inr hreply)⟩
        exact ⟨hsettle.answered hgoes tag slot hreply hord, hsettle.quiet nofun⟩
      · obtain ⟨hsettle, hnoise⟩ : Settles e .doneLimited bus front back s (s.wave w) ∧ _ := hsettled (hack h)
        generalize s.wave w = t at hsettle hnoise
        obtain ⟨hnlc, -⟩ := hsettle.acked hr hh rfl
        exact ⟨by rw [hnlc], by rw [hnlc]; rfl, by rw [hnlc], by rw [hnlc], by rw [hsettle.record]; rfl, by rw [hsettle.record]; rfl,
          hsettle.quiet nofun⟩
      · obtain ⟨hsettle, hnoise⟩ : Settles e .nakNotReady bus front back s (s.wave w) ∧ _ := hsettled (hack h)
        generalize s.wave w = t at hsettle hnoise
        obtain ⟨hnlc, hheld, hcode, hgoes⟩ := hsettle.notReady hr hh hp
        rw [hnoise] at hnlc
        exact ⟨hnlc, hheld, hcode, fun hn => hsettle.silent nofun (.inl (hgoes.trans hn)), hsettle.quiet nofun⟩
      · obtain ⟨hsettle, hnoise⟩ : Settles e .nakInvalid bus front back s (s.wave w) ∧ _ := hsettled (hack h)
        generalize s.wave w = t at hsettle hnoise
        obtain ⟨hnlc, -⟩ := hsettle.acked hr hh rfl
        rw [hnoise] at hnlc
        exact ⟨hnlc, hsettle.rejected rfl, hsettle.only.mono (by decide)⟩
      · have hc : SettlesOn bytes w c ends bus ∧ c.failed = true ∧ ackByteOf (some c) = 0xFF := by
          rcases h with ⟨h, rfl⟩ | ⟨code, crc, h, hcode, rfl⟩
          · exact ⟨.inl ⟨h, rfl⟩, rfl, rfl⟩
          · exact ⟨.inr ⟨code, crc, h, hcode.symm⟩, rfl, rfl⟩
        obtain ⟨hs, hfailed, hbyte⟩ := hc
        have hfails := (hsettled hs).1.fails hr hh hfailed
        generalize s.wave w = t at hfails
        refine ⟨hfails.code, hfails.tx, hfails.bus, hfails.failures, hfails.due, hfails.early, fun he => ?_, hfails.only⟩
        obtain ⟨hqueue, hmisses⟩ := hfails.third he
        refine ⟨hqueue, hmisses, fun tag slot hreply hord => ?_⟩
        have hline := hfails.reply he tag slot hreply hord
        rw [hbyte] at hline
        exact hline
      · obtain ⟨hnlc, honly⟩ := State.wave_ends ht hb h
        refine ⟨hnlc, fun ha x => ?_, honly⟩
        exact LinkController.nlen_ended (by rw [hnlc]) (by rw [hnlc]; exact ha) x
      · obtain ⟨htx, hgood⟩ := State.wave_loses ht hb h
        refine ⟨htx, fun h1 h2 payload eod rest hread => ?_⟩
        obtain ⟨hother, hown⟩ := hgood h1 h2 payload eod rest hread
        refine ⟨fun hne => ?_, hown⟩
        obtain ⟨hnlc, honly⟩ := hother hne
        exact ⟨hnlc, fun ha x => LinkController.nlen_ended htx (by rw [hnlc]; exact ha) x, honly⟩
    · obtain ⟨b, hsettle, honly, hqueue, hdue, hfree⟩ := State.idle_settles ht hl hd hq ho hi hc
      refine ⟨s.busFellIdle true, ?_, ?_⟩
      · refine (State.powered_on hon _).trans (congrArg _ ?_)
        unfold State.idleOnLink
        rw [if_pos hreceives]
      generalize s.busFellIdle true = t at honly hqueue hdue hfree
      have hready : c ≠ .nakNotReady := by rcases hc with hc | rfl; exacts [(Completion.failed_ne hc).1, nofun]
      have hinvalid : c ≠ .nakInvalid := by rcases hc with hc | rfl; exacts [(Completion.failed_ne hc).2.1, nofun]
      have hack : c.acked = false := by rcases hc with hc | rfl; exacts [(Completion.failed_ne hc).2.2, rfl]
      have hnode : t.node e.target = b.node e.target := honly.node (by decide) _
      refine ⟨?_, ?_, ?_, hdue, hfree, (hsettle.quiet hinvalid).trans (honly.mono (by decide))⟩
      · rw [hnode, hsettle.record]
        rfl
      · rw [hnode, hsettle.record, NodeRecord.complete_misses, Entry.thirdFailure_eq]
        simp only [decide_eq_true_iff]
      · have hb := hsettle.nlc_unheld hready
        rw [hqueue, show b.nlc.queue = e.settledIn c front back from by rw [hb]]
        unfold Entry.settledIn
        rw [Entry.goes_returning hr hh, hack, Entry.thirdFailure_eq, Bool.false_or]
        simp only [Bool.or_eq_true, decide_eq_true_iff]
        refine ite_congr (propext Or.comm) (fun _ => rfl) fun _ => rfl

end Sys2Proof.Machine
